-- ==== Sys2Proof/Word.lean ====
section
/-!
DEFINITION. The byte, byte sequences, and fixed-size tables read and changed at a numeric index.
Everything that could be misread from the spec (byte order, check values, rounding) is in Machine/Bytes.lean.
-/

namespace Sys2Proof

/-- One byte of wire or payload data (00_scope R6). -/
abbrev Byte := BitVec 8

/-- A run of bytes in ascending address order. -/
abbrev Bytes := List Byte

/-- Entry `i` of a table; an index outside the table reads as the default entry. -/
def vget {α : Type} [Inhabited α] {n : Nat} (v : Vector α n) (i : Nat) : α :=
  if h : i < n then v[i] else default

/-- The table with entry `i` changed by `f`; an index outside the table changes nothing. -/
def vmod {α : Type} {n : Nat} (v : Vector α n) (i : Nat) (f : α → α) : Vector α n :=
  if h : i < n then v.set i (f v[i]) else v

/-- The table with entry `i` replaced. -/
def vset {α : Type} {n : Nat} (v : Vector α n) (i : Nat) (x : α) : Vector α n :=
  vmod v i (fun _ => x)

/-- The table with every entry changed by a function of its index. -/
def vmapIdx {α : Type} {n : Nat} (v : Vector α n) (f : Nat → α → α) : Vector α n :=
  Vector.ofFn (fun i : Fin n => f i.val v[i.val])

/-- The indices of a table of `n` entries that satisfy `p`, ascending. -/
def indices (n : Nat) (p : Nat → Bool) : List Nat := (List.range n).filter p

/-- Bit `i` of a mask (16_commands R449, Masks). -/
def mbit (m i : Nat) : Bool := m.testBit i

/-- The mask with bit `i` set or cleared. -/
def mput (m i : Nat) (b : Bool) : Nat :=
  if b then m ||| (1 <<< i) else if m.testBit i then m - (1 <<< i) else m

/-- The mask of the indices below `n` that satisfy `p`. -/
def maskOf (n : Nat) (p : Nat → Bool) : Nat :=
  (List.range n).foldl (fun m i => if p i then m + 2 ^ i else m) 0

/-- A Boolean as a bit value. -/
def b2n (b : Bool) : Nat := if b then 1 else 0

end Sys2Proof
end

