-- ==== Sys2Proof/Config.lean ====
section
/-!
DEFINITION. What the spec leaves open, as constants with no body, and the fixed figures of the module.
A constant declared `opaque` here is a FREE VALUE: nothing can evaluate it, and a statement holds for every value of it.
Each is named in a row of notes/assumptions.
-/

namespace Sys2Proof.Config

/-! ### Free values -/

/-- Which way an exact tie goes where the spec rounds "to nearest" and names no tie rule (02_line_time R42). -/
opaque tieUp : Int → Bool
/-- Whether an inexact quotient `num / den` is kept as its ceiling rather than its floor, where a rule gives the exact value and no rounding (02 R521, 05 R153, 09 R261); the first argument names the unit. -/
opaque quotUp : Nat → Int → Int → Bool

/-- The velocity, Q32.32 counts/µs, of a QUAD or SSI source under comparison (02 R47 names no estimator for it): its counts and
instants at the start of the comparison and now, N, D. -/
opaque newSourceVel : List Int → Int
/-- One byte of scratch memory that an axis program reads before writing it (05_loop_engines R135: undefined at dispatch); arguments: dispatch number, address. -/
opaque scratchByte : Nat → Nat → Byte
/-- Whether the arithmetic inside a library loop program saturates (05 R151: its bundles are not given): serial, axis. -/
opaque lawSat : Nat → Nat → Bool
/-- IMEM and DMEM errors an engine corrected in a cycle (05 R164 counts them and no rule says when one arises): serial, engine. -/
opaque eccCorrected : Nat → Nat → Nat
/-- A word copied for an axis in a migration has an uncorrectable error (14 R417 says what follows, no rule when): serial, axis. -/
opaque copyError : Nat → Nat → Bool
/-- Length in bundles, coefficient and scratch bytes, and version of a built-in loop program (06 R166 gives the rest of its header); its code digest. -/
opaque builtinFacts : Nat → Nat × Nat × Nat × Nat
opaque builtinDigest : Nat → Bytes
/-- The factory coefficient block of a built-in program (17 R477 names it and gives no values), by identity. -/
opaque factoryCoef : Nat → Bytes
/-- The next register, memory or code content of a general free value: counter, index. -/
opaque freeNat : Nat → Nat → Nat
/-- The Falcon-1024 signature in padded format over a digest, under the unit's attestation or record-signing key (17 R464, 12 R363: the key is never readable). -/
opaque falconSign : Nat → Bytes → Bytes
/-- The unit identity, 32 bytes (17 R466), the serial number, and the other per-unit values of R453. -/
opaque unitId : Bytes
opaque serial : Bytes
opaque siliconRev : Nat
opaque madeYear : Nat
opaque madeWeek : Nat
opaque bootRomVersion : Nat × Nat × Nat
/-- The device certificate of the factory region, 3 200 bytes (17 R482). -/
opaque deviceCert : Bytes
/-- The Falcon-1024 metrology public key, 1 793 bytes (12 R388). -/
opaque metroPubKey : Bytes
/-- The measured power in mW reported by the supply monitor as an estimate (16 R460): which figure, serial number of the reading. -/
opaque powerEstimate : Nat → Nat → Nat
/-- What the extractions inside the job microcode (07 R196, R199: their order is not given) leave of an exact value before its last
extraction: job type, the words it depends on, place of the value in the result, exact value. -/
opaque tileValue : Nat → List Int → Nat → Rat → Rat
/-- Whether an extraction inside a job saturates (07 R200): job type, the words it depends on. -/
opaque overflowOf : Nat → List Int → Bool
/-- The platform of a delta arm hangs below its base, toward -z, and its upper arms turn downward (07 R204 gives no sign); else above. -/
opaque deltaDown : Bool
/-- Whether the move from the end of an arm's chain reaches a pick's pose under a class before its line reaches p (08 R234): arm, class,
p, end positions. -/
opaque moveFits : Nat → Nat → Int → List Int → Bool
/-- How an arm's TCP stands to an item it grips (08 R232 gives the yaw about u × w and no more), a unit quaternion. -/
opaque gripTurn : Nat → Rat × Rat × Rat × Rat
/-- The segment records the planner builds for an arm's pick at a grip position (08 R236: the split into cubics is not fixed): arm, pick ID, position, serial. Each record: span kind, line, start, span, flags, end positions and derivatives. -/
opaque planSegments : Nat → Nat → Int → Nat → List (List Int)
/-- The 6-byte Ethernet address of an SP port (10 R297). -/
opaque portMac : Nat → Bytes
/-- Next state and output of the four-pole critically damped filter of a load-cell channel (12 R367): corner in Hz, state, sample. -/
opaque weighFilter : Nat → List Int → Int → List Int × Int
/-- m in mg where the binary64 expression of 12 R368 leaves no finite number: sum of samples, count, zero, k_span, k_lin. -/
opaque weighMass : Int → Nat → Rat → Nat → Nat → Int
/-- A count difference in mg through a k_span that is no finite number (12 R371). -/
opaque weighSpread : Rat → Nat → Rat
/-- k_span that makes a reference mass of the mean of samples (12 R382 gives no expression): mass, sum, count, z_adj, k_lin. -/
opaque spanFor : Int → Int → Nat → Int → Nat → Nat
/-- Version and digest of a metrology firmware image (12 R386 gives no layout of the image). -/
opaque metroFwVersion : Bytes → Nat × Nat
/-- The mean of an interval without samples, in counts (12 R382). -/
opaque meanCount : Int → Int
/-- The target words of the inverse-kinematics job of a planned segment that ends neither over its item nor at its place: arm, segment. -/
opaque planPose : Nat → Nat → Bytes
/-- The excitation sample of a JOINT_TEST (06 R193 names the shape and not its samples): shape, amplitude, f0, f1, sample number. -/
opaque excitation : Nat → Nat → Nat → Nat → Nat → Int
/-- The converted state prefix of an axis at a program switch (06 R176): old program, new program, bytes 0-39. -/
opaque convertState : Nat → Nat → Bytes → Bytes
/-- The steady biquad histories of the new program for input u_pre (06 R176). -/
opaque steadyHistory : Nat → Bytes → Bytes
/-- The duration in ns of a recovery segment to the park pose (08 R246): arm, serial. -/
opaque recoverySpan : Nat → Nat → Int
/-- The cause code of a squash after its pick was missed (08 R243 lists none for it), by segment. -/
opaque missedCause : Nat → Nat
/-- Whether a planner tick is still running when the next falls due (08 R229), serial. -/
opaque tickLate : Nat → Bool
/-- A session value of the UDP tunnel, new at each OPEN (15 R445); 0 is replaced by 1 where it is used. -/
opaque tunnelSession : Nat → Nat
/-- The correction the standby's clock aims at for a measured lateness x, 1/64 ns, and its present correction (13 R398), ppb Q16.16. -/
opaque pairSlew : Int → Int → Int
/-- The partner's image digest of 13 R393, which gives no frame that carries it, by serial. -/
opaque partnerDigest : Nat → Bytes
/-- The frequency correction and the slew the clock servo aims at for a measured offset and its present correction (03 R83, R85 bound them and do not fix them), in ppb Q16.16. -/
opaque servoFreq : Int → Int → Int
opaque servoSlew : Int → Int → Int
/-- The instant, ns, at which a host frame without a stamp request leaves its port (03 R93 fixes no instant). -/
opaque frameEgress : Nat → Int


/-! ### Fixed figures of the module -/

/-- Cycle period in ns for a period code (01 R13, 04 R101). -/
def periodNs : Nat → Nat
  | 0 => 31250 | 1 => 62500 | 2 => 125000 | _ => 250000
/-- Uplink slots of a cycle (01 R15). -/
def slotsOf : Nat → Nat
  | 0 => 28 | _ => 64
/-- Offsets from t0, in ns (01 R14, R15; 02 R52; 07 R207). -/
def tIn : Nat := 1500
def tPr : Nat := 2000
def tCs : Nat := 1600
/-- t_tpre: t_in to class P suspended on a tile, at most (07 R207). -/
def tTpre : Nat := 80
def slotStart (s : Nat) : Nat := 1750 + s * 250
def tUpEnd (code : Nat) : Nat := slotStart (slotsOf code)
def tDl (code : Nat) : Nat := periodNs code - 7250
def tDn (code p : Nat) : Nat := tDl code + 250 + 150 * (p - 1)
def tOut (code : Nat) : Nat := periodNs code - 1750
/-- Cycles of a separation period and of a planner tick (01 R18). -/
def sepCycles (code : Nat) : Nat := 500000 / periodNs code
def tickCycles (code : Nat) : Nat := 1000000 / periodNs code
/-- Rated capacity (00 R3). -/
def nArms : Nat := 12
def nJoints : Nat := 96
def nAux : Nat := 32
def nNodes : Nat := 24
def nEventSlots : Nat := 1024
/-- Transmit and receive latency of a stamped port, in tenths of a ns (03 R77); `fast` is 2500BASE-X on an SP port. -/
def txLatency (port : Nat) (fast : Bool) : Nat := if port < 6 then 384 else if fast then 192 else 480
def rxLatency (port : Nat) (fast : Bool) : Nat := if port < 6 then 576 else if fast then 320 else 800
/-- Supply thresholds in mV: undervoltage, up, overvoltage, 10 % of nominal, by supply index (18 R488); VEXC has none. -/
def supplyRow : Nat → Nat × Nat × Nat × Nat
  | 0 => (705, 720, 810, 75) | 1 => (799, 816, 918, 85) | 2 => (846, 864, 972, 90)
  | 3 => (1128, 1152, 1296, 120) | 4 => (1692, 1728, 1944, 180) | 5 => (3102, 3168, 3564, 330)
  | 6 => (470, 480, 540, 50) | 7 => (987, 1008, 1134, 105) | 8 => (1128, 1152, 1296, 120)
  | 9 => (3102, 3168, 3564, 330) | 10 => (4700, 4800, 5400, 500) | 11 => (1128, 1152, 1296, 120)
  | 13 => (18000, 19200, 31000, 2400) | _ => (0, 0, 0, 0)
/-- t_sqoff, t_pgood, t_rstuck, t_bwd in ns (18 R495, R502; 17 R472). -/
def tSqoff : Nat := 10000000
def tPgood : Nat := 10000000
def tRstuck : Nat := 10000000000
def tBwd : Nat := 10000000000
/-- The largest 32-bit count; every counter saturates there (16 R449). -/
def cMax : Nat := 4294967295

end Sys2Proof.Config
end

