-- ==== Sys2Proof/Syntax/Image.lean ====
section
/-!
DEFINITION. The configuration image as the KX96 takes it in at activation (17 R475-R478): one structure per section type of R477,
holding the parameters that the chapters set in the image, with the factory values and defaults of their rules.
Machine/Sections.lean reads the records from the bytes of the sections.
-/

namespace Sys2Proof

/-- Section 0x01: system (01 R13, R31; 15 R440, R441, R443; 07 R208). -/
structure SysCfg where
  /-- cycle period code (R101) -/
  period : Nat := 0
  offArm : Nat := 100
  offAux : Nat := 50
  offAuto : Nat := 1000
  /-- ring of each subsystem: system, line, cell, loops, planner, separation, pairing, triggers (R440) -/
  evRing : Vector Nat 8 := #v[16, 17, 18, 19, 20, 21, 22, 17]
  telemetryMs : Nat := 100
  staleLimit : Nat := 32
  /-- tunnelled rings, mask; plant port; IPv4 address and UDP port of the KX96 and of the peer (15 R443) -/
  tunnel : Nat := 0
  tunPort : Nat := 0
  own : Nat × Nat := (0, 0)
  peer : Nat × Nat := (0, 0)
deriving DecidableEq, Repr, Inhabited

/-- One line of section 0x02 (02 R35-R48). -/
structure LineCfg where
  source : Nat := 0
  input : Nat := 0
  num : Nat := 1
  den : Nat := 1
  offset : Int := 0
  /-- 0 LIN, 1 ROT, 2 REV -/
  unit : Nat := 0
  /-- counts per revolution of a REV line; 0 otherwise -/
  c : Nat := 0
  /-- modulus; 0 none -/
  modulus : Nat := 0
  bandwidth : Nat := 20
  syncTol : Nat := 64
  holdMs : Nat := 10
  /-- resume tolerance set in the image; none: the default of R45 -/
  resumeTol : Option Nat := none
  /-- standstill threshold, counts/µs Q32.32, and time in ms -/
  stillThr : Nat := 42949673
  stillMs : Nat := 10
  /-- switch tolerance, per mille -/
  switchTol : Nat := 20
  /-- maximum line speed, counts/µs Q32.32 -/
  vMax : Nat := 0
  /-- SSI: data bits, Gray, parity, clock in kHz, monoflop in µs -/
  ssiBits : Nat := 24
  gray : Bool := false
  parity : Bool := false
  ssiKhz : Nat := 1000
  monoUs : Nat := 20
  /-- publishing and remote identity -/
  pubMask : Nat := 0
  pubE : Nat := 0
  plantId : Nat := 0
  /-- destination IPv4 address and UDP port of the published datagrams (02 R68) -/
  pubAddr : Nat := 0
  pubPort : Nat := 0
deriving DecidableEq, Repr, Inhabited

/-- A latch of section 0x02 (02 R64). -/
structure LatchCfg where
  edge : Nat := 0
  gated : Bool := false
  filter : Nat := 0
  line : Nat := 0
deriving DecidableEq, Repr, Inhabited

structure LinesCfg where
  line : Vector LineCfg 4 := Vector.replicate 4 {}
  latch : Vector LatchCfg 16 := Vector.replicate 16 {}
  /-- slots reserved for the profile unit (R52) -/
  reserve : Nat := 128
deriving DecidableEq, Repr, Inhabited

/-- Section 0x03: plant time (03 R72-R87). -/
structure PtimeCfg where
  profile : Vector Nat 4 := Vector.replicate 4 0
  domain : Nat := 0
  slaveOnly : Bool := false
  slewWindow : Nat := 1000000
  slewPpm : Nat := 100
  holdS : Nat := 300
  crossS : Nat := 1
  autoStep : Bool := false
  utcOffset : Int := 0
  utcValid : Bool := false
  clockId : Bytes := []
  /-- data of the best master clock algorithm: priority1, priority2, clockClass, clockAccuracy, offsetScaledLogVariance (03 R72);
  defaults of IEEE 1588-2019 (log 68) -/
  priority1 : Nat := 128
  priority2 : Nat := 128
  clockClass : Nat := 248
  clockAccuracy : Nat := 0xFE
  variance : Nat := 0xFFFF
  /-- ports open to host frames, mask; where the section falls back all six are open (log 67) -/
  hostPorts : Nat := 0x3F
deriving DecidableEq, Repr, Inhabited

/-- A port entry of the slot table (04 R108). -/
structure PortEntry where
  a : Nat := 0
  chA : Bool := false
  chB : Bool := false
  claim : Bool := false
  pdu : Bool := false
  kUp : Nat := 0
  kDn : Nat := 0
  h : Nat := 0
  tPrep : Nat := 0
  dMax : Nat := 0
deriving DecidableEq, Repr, Inhabited

/-- Section 0x04: slot table (04 R108). -/
structure SlotTable where
  version : Nat := 1
  period : Nat := 0
  /-- node ID and CLAIMABLE of each slot -/
  slots : List (Nat × Bool) := []
  port : Vector PortEntry 24 := Vector.replicate 24 {}
  /-- forward entries: source, egress node, egress slot, channel mask -/
  fwd : List (Nat × Nat × Nat × Nat) := []
  /-- claim profiles: node, a, vendor, product -/
  claims : List (Nat × Nat × Nat × Nat) := []
  tableId : Nat := 0
deriving DecidableEq, Repr, Inhabited

/-- A loop program (05 R162): built in, or section 0x05. -/
structure Program where
  identity : Nat
  /-- number of its section -/
  inst : Nat := 0
  version : Nat := 0
  q15 : Bool := false
  kx24 : Bool := false
  custom : Bool := false
  stateBytes : Nat := 0
  coefBytes : Nat := 0
  scratch : Nat := 0
  wcet : Nat := 0
  digest : Bytes := []
  /-- bundles of a custom program: syllable 0 and syllable 1 -/
  code : List (BitVec 32 × BitVec 32) := []
  /-- biquad stages and observer of a library program -/
  stages : Nat := 0
  observer : Bool := false
deriving DecidableEq, Repr, Inhabited

/-- One axis of section 0x06 (05 R133, 06 R167-R190, 09 R262, R276, R288). -/
structure AxisCfg where
  node : Nat := 0
  /-- position of the axis in its node -/
  pos : Nat := 0
  engine : Nat := 0
  normal : Nat := 0
  q15 : Nat := 0
  missLimit : Nat := 2
  bankA : Bytes := []
  bankB : Bytes := []
  bridge : Nat := 2
  timer : Nat := 0
  limit : Nat := 2147483647
  warn : Nat := 2147483647
  frozenThr : Nat := 0
  frozenMs : Nat := 5
  resLimit : Nat := 0x1000
  resMs : Nat := 2
  noBrake : Bool := false
  /-- limit record: v_max, a_max, d_max, d_stop, j_max, pos_min, pos_max, lag_lim -/
  vMax : Nat := 0
  aMax : Nat := 0
  dMax : Nat := 0
  dStop : Nat := 0
  jMax : Nat := 0
  posMin : Int := 0
  posMax : Int := 0
  lagLim : Nat := 1
  /-- stepper: table, run and hold current, hold delay in ms, OPEN_LOOP -/
  phase : Bool := false
  table : Nat := 0
  iRun : Int := 0
  iHold : Int := 0
  holdMs : Nat := 0
  openLoop : Bool := false
deriving DecidableEq, Repr, Inhabited

/-- Sequence figures (06 R190), path record (09 R276) of an arm or auxiliary axis. -/
structure OwnerCfg where
  /-- axes: global joints of an arm in model order, or the auxiliary axis -/
  axes : List Nat := []
  tPon : Nat := 50
  tPre : Nat := 20
  tBrel : Nat := 150
  tSettle : Nat := 100
  tBeng : Nat := 200
  tPoff : Nat := 50
  tSs1 : Nat := 1000
  recoveryQ15 : Bool := true
  rhoMax : Nat := 0
  rho2Max : Nat := 0
  rhoStop : Nat := 0
  catchUp : Nat := 13107
  f1 : Nat := 0
  f2 : Nat := 0
  f3 : Nat := 0
  /-- path lag limit, LEN32 of line travel -/
  pathLag : Int := 1342177
deriving DecidableEq, Repr, Inhabited

/-- A vector and a quaternion in fixed-point words. -/
abbrev Vec3 := Int × Int × Int
abbrev Quat := Int × Int × Int × Int

/-- A joint record (07 R202), in its order; formats of R198, R202. -/
structure JointRec where
  parent : Nat := 255
  type : Nat := 0
  axis : Nat := 0
  flags : Nat := 0
  /-- global joint -/
  joint : Nat := 0
  /-- joint frame in the parent frame -/
  transl : Vec3 := (0, 0, 0)
  rot : Quat := (1073741824, 0, 0, 0)
  scaleM : Int := 0
  scaleE : Int := 0
  offset : Int := 0
  qMin : Int := 0
  qMax : Int := 0
  seed : Int := 0
  mass : Int := 0
  com : Vec3 := (0, 0, 0)
  /-- Ixx, Iyy, Izz, Ixy, Ixz, Iyz -/
  inertia : List Int := []
  jRot : Int := 0
  fV : Int := 0
  fC : Int := 0
  vBand : Int := 1
  mNom : Int := 1
deriving DecidableEq, Repr, Inhabited

/-- The delta block (07 R204), in its order. -/
structure DeltaCfg where
  baseR : Int := 0
  platR : Int := 0
  upper : Int := 0
  lower : Int := 0
  upperInertia : Int := 0
  lowerMass : Int := 0
  share : Int := 0
  platMass : Int := 0
  angle : Int := 0
deriving DecidableEq, Repr, Inhabited

/-- Section 0x07: arm model (07 R201-R205). -/
structure ModelCfg where
  /-- the checks of R205 hold -/
  valid : Bool := true
  /-- header: kind DELTA, task mask, cap, generation, gravity, base, tolerances, L_w, λ_max, ε, ε_M, δ, m_pay_max, shift word -/
  delta : Bool := false
  taskMask : Nat := 0
  cap : Nat := 16
  generation : Nat := 0
  gravity : Vec3 := (0, 0, 0)
  baseT : Vec3 := (0, 0, 0)
  baseRot : Quat := (1073741824, 0, 0, 0)
  tolP : Int := 671
  tolO : Int := 2684
  lW : Int := 0
  lamMax : Int := 671089
  eps : Int := 0
  epsM : Int := 0
  reg : Int := 0
  payMax : Int := 0
  shifts : Nat := 0
  joints : List JointRec := []
  tool : Bytes := []
  block : DeltaCfg := {}
  /-- tile of the class C job and of the degraded placement, each with the place in the tile's order (07 R207, R223): the schedule that
  the image carries beside the section -/
  tile : Nat := 0
  place : Nat := 0
  tileDegraded : Option (Nat × Nat) := none
deriving DecidableEq, Repr, Inhabited

/-- An arm planner record (08 R231). -/
structure ArmPlan where
  refLine : Nat := 0
  quota : Nat := 0
  /-- µs -/
  tLead : Nat := 8000
  toolRadius : Int := 0
  /-- r_in and r_out of each line, LEN32 along u from D; both 0: no reach -/
  reach : Vector (Int × Int) 4 := Vector.replicate 4 (0, 0)
  /-- park pose, model order -/
  park : List Int := []
  /-- link points: joint record index, point in its frame -/
  links : List (Nat × Vec3) := []
deriving DecidableEq, Repr, Inhabited

/-- Section 0x08: planner (08 R230, R231, R238-R250). -/
structure PlanCfg where
  horizonMs : Nat := 64
  leadMs : Nat := 4
  pickStepMm : Nat := 2
  speedTolPm : Nat := 30
  sampleMs : Nat := 2
  replanOnRaise : Bool := false
  /-- track tolerance of R236, LEN32; 0.2 mm -/
  trackTol : Int := 13422
  /-- datum D, direction u and lateral direction w of each line, cell frame (R230); w and u in LEN32 -/
  datum : Vector Vec3 4 := Vector.replicate 4 (0, 0, 0)
  dir : Vector Vec3 4 := Vector.replicate 4 (67108864, 0, 0)
  lat : Vector Vec3 4 := Vector.replicate 4 (0, 67108864, 0)
  arm : Vector ArmPlan 12 := Vector.replicate 12 {}
deriving DecidableEq, Repr, Inhabited

/-- Section 0x09: a zone (08 R249). -/
structure ZoneCfg where
  id : Nat
  line : Nat
  arms : Nat
  coupled : Bool
  name : Bytes := []
  boxMin : Vec3 := (0, 0, 0)
  boxMax : Vec3 := (0, 0, 0)
  margin : Int := 0
deriving DecidableEq, Repr, Inhabited

/-- Section 0x0C: pair record (13 R390). -/
structure PairCfg where
  identity : Nat
  partner : Bytes := []
  sensors1 : Nat := 0
  sensors2 : Nat := 0
  cells1 : Nat := 0
  cells2 : Nat := 0
  tPwait : Nat := 2000
  tIso : Nat := 100
  w : Nat := 2
  nDiv : Nat := 2
deriving DecidableEq, Repr, Inhabited

/-- Section 0x0D: Sterling record (14 R415). -/
structure StestCfg where
  period : Nat := 3600
  kinds : Nat := 0x3F
  reportPass : Bool := false
deriving DecidableEq, Repr, Inhabited

/-- A box6 (10 R301), inclusive voxel bounds. -/
structure Box where
  xl : Nat
  xh : Nat
  yl : Nat
  yh : Nat
  zl : Nat
  zh : Nat
deriving DecidableEq, Repr, Inhabited

/-- A capsule (10 R308): frame, endpoints and radius in LEN32. -/
structure Capsule where
  frame : Nat
  table : Nat
  ax : Int
  ay : Int
  az : Int
  bx : Int
  by' : Int
  bz : Int
  r : Nat
deriving DecidableEq, Repr, Inhabited

/-- An envelope table (10 R317): per index joint its record, shift, bins and SPOS base; entries in order. -/
structure EnvTable where
  arm : Nat
  table : Nat
  index : List (Nat × Nat × Nat × Nat) := []
  entries : List Box := []
deriving DecidableEq, Repr, Inhabited

/-- A sensor record (10 R326). -/
structure SensorCfg where
  /-- 2500BASE-X -/
  fast : Bool := false
  conn : Nat := 0
  /-- UDP port at the KX96 -/
  port : Nat := 0
  /-- IPv4 addresses of the sensor and of the KX96 on the port -/
  addr : Nat := 0
  own : Nat := 0
  tSens : Nat := 200000
  tSwd : Nat := 200000
  cover : List Box := []
deriving DecidableEq, Repr, Inhabited

/-- A separation arm record (10 R326); lengths in LEN32, times in µs. -/
structure SepArmCfg where
  autoResume : Bool := false
  tDrv : Nat := 20000
  hyst : Nat := 3355443
  nR : Nat := 200
  partners : Nat := 0
  cMin : Nat := 0
  /-- C, Z_d, Z_r; v_1-v_4 (VEL32), T_s and S_s of the classes (10 R310) -/
  cDist : Int := 0
  zD : Int := 0
  zR : Int := 0
  v : Vector Int 4 := Vector.replicate 4 0
  tStop : Vector Nat 4 := Vector.replicate 4 0
  sStop : Vector Int 4 := Vector.replicate 4 0
  /-- S_p(1)-S_p(4), D_1-D_4 -/
  sp : Vector Nat 4 := Vector.replicate 4 0
  d : Vector Nat 4 := Vector.replicate 4 0
  /-- n_tr for (1,0) (2,0) (2,1) (3,0) (3,1) (3,2) (4,0) (4,1) (4,2) (4,3) -/
  nTr : Vector Nat 10 := Vector.replicate 10 0
  /-- joint maps in model order: zero, position tolerance (ANG32 or LEN32), scale as of R202, mantissa and exponent -/
  maps : List (Int × Int × Int × Int) := []
  capsules : List Capsule := []
deriving DecidableEq, Repr, Inhabited

/-- Sections 0x80-0x85 (10 R326). -/
structure SepCfg where
  nx : Nat := 1
  ny : Nat := 1
  nz : Nat := 1
  /-- origin, LEN32 -/
  origin : Int × Int × Int := (0, 0, 0)
  statics : List Box := []
  nCross : Nat := 2
  /-- v_h, VEL32 (R310) -/
  vH : Int := 13421773
  /-- mask margin and cross-check tolerance, LEN32; 50 mm -/
  m : Nat := 3355443
  tol : Nat := 3355443
  sensor : Vector (Option SensorCfg) 8 := Vector.replicate 8 none
  arm : Vector (Option SepArmCfg) 12 := Vector.replicate 12 none
  tables : List EnvTable := []
  /-- cap rules: pair, cap, arm mask -/
  caps : List (Nat × Nat × Nat) := []
  /-- per node SC1-SC3 limit sets of eight axes -/
  limits : Vector (Vector (List Nat) 3) 24 := Vector.replicate 24 (Vector.replicate 3 [])
deriving DecidableEq, Repr, Inhabited

/-- An input pair record (11 R358). -/
structure InPairCfg where
  mode : Nat := 0
  startTest : Bool := false
  /-- t_f in 10 µs units, t_disc in ms -/
  tF : Nat := 50
  tDisc : Nat := 50
  src0 : Nat := 0xFF
  src1 : Nat := 0xFF
  scopeOut : Nat := 0
  scopeDevice : Bool := false
  scopeArms : Nat := 0
deriving DecidableEq, Repr, Inhabited

/-- An output pair record (11 R358). -/
structure OutPairCfg where
  mode : Nat := 0
  manual : Bool := false
  autoOn : Bool := false
  sc0Off : Bool := false
  cat1 : Bool := false
  release : Nat := 0
  arms : Nat := 0
  edm : Nat := 0xFF
  pulse : Nat := 30
  period : Nat := 100
  tEdm : Nat := 30
  offMs : Nat := 500
  tCat1 : Nat := 0
deriving DecidableEq, Repr, Inhabited

/-- Sections 0x86 and 0x87 (11 R356, R358). -/
structure SioCfg where
  k : Nat := 4
  inp : Vector InPairCfg 16 := Vector.replicate 16 {}
  out : Vector OutPairCfg 8 := Vector.replicate 8 {}
  /-- A_link, units of 31.25 µs (11 R351) -/
  aLink : Nat := 64
  /-- connections: ID, kind, t_wd in ms -/
  conns : List (Nat × Nat × Nat) := []
  /-- produced cell-link connections (11 R355): ID, cell links, input pair of each published bit -/
  pub : List (Nat × Nat × List Nat) := []
deriving DecidableEq, Repr, Inhabited

/-- An active image: the sections in force after fallback (17 R477). -/
structure Image where
  generation : Nat := 0
  glopo : Nat × Nat × Nat := (0, 0, 0)
  scv : Nat := 0
  sys : SysCfg := {}
  /-- schedule of the class C jobs in image order: arm, tile, tile of the degraded placement (07 R207, R223) -/
  classC : List (Nat × Nat × Option Nat) := []
  lines : LinesCfg := {}
  ptime : PtimeCfg := {}
  slot : SlotTable := {}
  programs : List Program := []
  /-- axes 0-127; none: not configured -/
  axis : Vector (Option AxisCfg) 128 := Vector.replicate 128 none
  arm : Vector (Option OwnerCfg) 12 := Vector.replicate 12 none
  aux : Vector (Option OwnerCfg) 32 := Vector.replicate 32 none
  model : Vector (Option ModelCfg) 12 := Vector.replicate 12 none
  plan : Option PlanCfg := none
  /-- section 0x0A: commutation tables, 256 values each (09 R288); none: the factory table -/
  stepTab : Vector (Option (List Nat)) 4 := Vector.replicate 4 none
  zones : List ZoneCfg := []
  /-- weighing channels named, mask -/
  weigh : Nat := 0
  pair : Option PairCfg := none
  stest : StestCfg := {}
  sep : SepCfg := {}
  sio : SioCfg := {}
deriving DecidableEq, Repr, Inhabited

end Sys2Proof
end

