-- ==== Sys2Proof/Syntax.lean ====
section
/-!
DEFINITION. The commands of the module: one constructor per row of spec/opcode_table.json, with the row's operands.
A host command carries the ring, the sequence and the payload bytes of its message (15 R435). An event of the machine's
surroundings carries what that event is known by: the port, the frame, the instant, the level.
Instants `t` are nanoseconds of the module's own local time.
-/

namespace Sys2Proof

/-- A host command message as it stands complete on its ring (15 R435): ring, sequence of its FIRST entry, payload bytes. -/
structure Req where
  ring : Nat
  seq : Nat
  payload : Bytes
deriving DecidableEq, Repr, Inhabited

/-- One read of one 64-byte entry from host memory (15 R435): its fields, and whether its check value holds. -/
structure EntryRead where
  opcode : Nat
  seq : Nat
  first : Bool
  last : Bool
  ackreq : Bool
  retry : Bool
  cls : Nat
  len : Nat
  payload : Bytes
  checkOk : Bool
deriving DecidableEq, Repr, Inhabited

/-- A frame as a star port receives it: the instant of its arrival, 1/64 ns after t0 (04 R114), and its bytes. -/
structure Arrival where
  off : Nat
  frame : Bytes
deriving DecidableEq, Repr, Inhabited

/-- A UDP datagram: the IPv4 address it comes from, and its payload (10 R297). -/
structure Datagram where
  src : Nat
  data : Bytes
deriving DecidableEq, Repr, Inhabited

/-- The times of a delay measurement (03 R83): the module's own request left at `tx`, the other end's stamp or turnaround is `far`, and
the answer came at `rx`. -/
structure DelayTimes where
  tx : Int
  far : Int
  rx : Nat
deriving DecidableEq, Repr, Inhabited

/-- The commands of spec/opcode_table.json, in its order. -/
inductive Instr where
  -- the cycle, lines and latches (01, 02)
  | cycleBoundary (kat : Option (Fin 4))
  | ssiFrame (enc : Fin 4) (raw : Nat) (parityOk stuck : Bool)
  | predictionInstant
  | lineHoldoverExpiry (line : Fin 4)
  | sourceFault (enc : Fin 4) (cause : Nat)
  | eventFire (slot : Fin 1024)
  | latchEdge (latch : Fin 16) (rising : Bool) (t : Nat)
  | latchRecordWrite (latch : Fin 16)
  | lineStatePublish (line : Fin 4)
  | lineStateReceive (line : Fin 4) (link : Fin 2) (dgram : Bytes)
  -- plant time (03)
  | timeTriggerFire (slot : Fin 32)
  | syncReceived (port : Fin 4) (origin : Int) (correction : Int) (rx : Nat)
  | ptpPortSlave (sel : Option (Fin 4)) (ownClock : Bool)
  | ptpHoldoverExpiry
  | timeStep
  | txTimestamp (port : Fin 6) (id : Nat) (raw : Int) (seqId : Nat) (host : Bool) (frame : Bytes)
  -- cell network (04)
  | uplinkReceived (node : Fin 24) (ch : Fin 2) (off : Int) (frame : Bytes)
  | axisDispatch (eng : Fin 18) (off : Nat)
  | inputMissingDispatch (node : Fin 24)
  | axisCommit (eng : Fin 18) (off : Nat)
  | axisProtectionFault (eng : Fin 18) (cause : Nat)
  | loopDeadline
  | downlinkSend (node : Fin 24)
  | echoRequestSend
  | echoRespReceived (node : Fin 24) (ch : Fin 2) (rtt : Nat) (frame : Bytes)
  | claimReceived (node : Fin 24) (ch : Fin 2) (got : Arrival)
  | linkStateChange (node : Fin 24) (ch : Fin 2) (up : Bool)
  | channelCountExpiry (node : Fin 24) (ch : Fin 2)
  | coldStartEnd
  | claimRefusedExpiry (node : Fin 24)
  | claimReleaseDown (node : Fin 24)
  | acyclicBlockReceived (node : Fin 24) (block : Bytes)
  | acyclicRetry (node : Fin 24)
  | nodeResponseTimeout (node : Fin 24)
  -- solver and planner (07, 08)
  | classCStart (tile : Fin 9)
  | feedForwardDone (arm : Fin 12) (part : Bool) (off : Nat)
  | classPJobStart (tile : Fin 9)
  | ikIteratePublished (tile : Fin 9) (number t : Nat)
  | solverJobDone (tile : Fin 9) (t : Nat)
  | solverJobDeadline (job : Nat)
  | solverResultExpiry (job : Nat)
  | plannerTick
  | plannerLoadWindow (load : Nat)
  | plannerCoreRemoved (core : Fin 8) (isFault : Bool)
  -- profiles and joints (06, 09)
  | streamGapExpiry (stream : Fin 8)
  | homeSearchTimeout (aux : Fin 32)
  | holdCurrentDelay (axis : Fin 128)
  | enableTimeout (owner : Fin 44)
  | brakeEngageExpiry (owner : Fin 44)
  | powerOffTimeout (owner : Fin 44)
  | stopOverdue (owner : Fin 44)
  | jointTestEnd (arm : Fin 12)
  | offTimeElapsed (owner : Fin 44)
  -- separation (10)
  | separationPeriod (checks : Bool × Bool) (astray : Option (Fin 24 × Fin 5))
  | reportMissing (byIron : Bool)
  | classEffective
  | scanPduReceived (port : Fin 8) (dgram : Datagram)
  | sensorTimeout (port : Fin 8)
  -- safety layer and safe I/O (11)
  | safetyPduReceived (conn : Nat) (pdu : Bytes)
  | safetyConnWatchdog (conn : Nat)
  | sioLogicCycle (chan : Fin 2)
  | safeInputChange (chan : Fin 2) (term : Fin 40) (level : Bool)
  | inputPairDiscrepancy (chan : Fin 2) (pair : Fin 16)
  | pulseMissing (chan : Fin 2) (term : Fin 32)
  | darkPulseStart (out : Fin 16)
  | darkPulseEnd (out : Fin 16) (low : Bool)
  | outTestOverdue (out : Fin 16)
  | outExtVoltage (out : Fin 16)
  | outOverload (out : Fin 16)
  | edmTimeout (pair : Fin 8)
  | armedTimeout (pair : Fin 8)
  | cat1Expiry (pair : Fin 8)
  | operatorReset (pair : Fin 16)
  | resetStuck (pair : Fin 16)
  | confirmResetTimeout
  | clearFaultTimeout
  -- metrology (12)
  | metroMessageReceived (msg : Bytes)
  | weighWindowTimeout (ch : Fin 8)
  | messageGap
  | selfCheckStart (ch : Fin 8)
  | selfCheckDone (ch : Fin 8) (ok : Bool)
  | zeroOverdue (ch : Fin 8)
  | checkOverdue (ch : Fin 8)
  | batchClose
  | sealNChange (low : Bool)
  | metroPowerUp (fwOk : Bool)
  | metroSilent
  -- pairing (13)
  | interlockPulse (widthNs : Nat)
  | heartbeatLost
  | pairSyncReceived (frame : Bytes) (off : Int)
  | mirrorReceived (frame : Bytes)
  | pairLinkLost
  | digestCompare
  | pairClassReceived (frame : Bytes)
  | sensorRelayReceived (frame : Bytes)
  | partnerWaitExpiry
  | isolationExpiry
  | stateTransferDone
  | swapConfirm
  -- self-test (14)
  | sliceDue
  | sliceSkipped
  | plannedMigration
  -- result: 0 PASS, 1-6 the fail codes of 14 R425, 7 an uncorrectable word read by a bank's copy (14 R419)
  | sliceDone (kind : Nat) (inst : Nat) (res : Nat)
  | laneHoldEnd
  | rxMismatch (kind : Nat) (inst : Nat)
  -- host attachment (15)
  | doorbell (ring : Fin 32) (v : Nat)
  | mailboxEntryReceived (ring : Fin 32) (reads : List EntryRead)
  | ringEnable (ring : Fin 32) (v : Nat)
  | consWrite (ring : Fin 32) (v : Nat)
  | w1cClear (off : Nat) (v : Nat)
  | readClear (off : Nat)
  | registerWrite (off : Nat) (v : Nat) (width : Nat)
  | deliverEntry
  | telemetryPeriod
  | interruptCoalesce (ring : Fin 32)
  | dmaErr (ring : Fin 32)
  | tunnelDatagram (src port : Nat) (dgram : Bytes)
  | tunnelResend (ring : Fin 32)
  | heartbeatTick
  | temperatureReading (tCase tDie tSafe : Int)
  -- supplies, reset, boot (17, 18)
  | supplyRise (sup : Fin 14) (mv : Nat) (t : Nat)
  | sequenceViolation (rule : Nat) (sup : Fin 14) (t : Nat)
  | brownout (sup : Fin 14) (mv : Nat) (t : Nat)
  | supplyAbsent (t : Nat)
  | safetySupplyLoss (io : Bool) (t : Nat)
  | fieldSupplyFault (reversed : Bool) (mv : Nat)
  | overtemp (t : Nat)
  | clockFault (refclk : Bool) (t : Nat)
  | safetyClockFault
  | resetRelease (t : Nat)
  | resetN (low : Bool) (t : Nat)
  | resetNStuck (t : Nat)
  | srstN (low : Bool) (t : Nat)
  | safetySubimageReload (ok : Bool)
  | perstN (low : Bool)
  | pcieRefclkLoss
  | encoderWiringFault (enc : Fin 4) (kind : Nat)
  | epwrRetry (enc : Fin 4)
  | bootRom
  | bootWatchdog (t : Nat)
  | safeIdleReached
  | imageActivation (t : Nat)
  | flashOperationDone (sigs subs : Nat)
  -- system commands (16)
  | sysGetIdentity (q : Req)
  | sysGetVersion (q : Req)
  | sysGetStatus (q : Req)
  | setDeviceState (q : Req)
  | clearFault (q : Req)
  | sysGetFaultLog (q : Req)
  | sysGetEnv (q : Req)
  | sysEcho (q : Req)
  | sysReset (q : Req)
  | sysClearLatch (q : Req)
  | lineGetState (q : Req)
  | linePreset (q : Req)
  | lineSelectSource (q : Req)
  | lineVmasterSet (q : Req)
  | lineQuery (q : Req)
  | linePublish (q : Req)
  | eventArm (q : Req)
  | eventCancel (q : Req)
  | eventGet (q : Req)
  | latchConfigure (q : Req)
  | ptimeGet (q : Req)
  | ptimePortConfig (q : Req)
  | ptimeStep (q : Req)
  | ptimeFormatSelect (q : Req)
  | ptimeTxqRead (q : Req)
  | ptimeFrameSend (q : Req)
  | timeTriggerArm (q : Req)
  | timeTriggerCancel (q : Req)
  | cellGetStatus (q : Req)
  | cellGetPort (q : Req)
  | cellClearCounters (q : Req)
  | cellResync (q : Req)
  | cellNodeRead (q : Req)
  | cellNodeWrite (q : Req)
  | cellReleaseClaim (q : Req)
  | loopGetEngine (q : Req)
  | loopGetAxis (q : Req)
  | loopClearCounters (q : Req)
  | loopGetProgram (q : Req)
  | armEnable (q : Req)
  | armDisable (q : Req)
  | armGetState (q : Req)
  | jointCoefWrite (q : Req)
  | jointCoefRead (q : Req)
  | jointBankSwap (q : Req)
  | jointSetSupervision (q : Req)
  | jointGet (q : Req)
  | jointTest (q : Req)
  | armClearFault (q : Req)
  | solverGetArm (q : Req)
  | solverSetTool (q : Req)
  | solverSetPayload (q : Req)
  | solverSubmit (q : Req)
  | solverResult (q : Req)
  | solverCancel (q : Req)
  | solverWarmFlush (q : Req)
  | solverGetTile (q : Req)
  | solverClearCounters (q : Req)
  | planPick (q : Req)
  | planCancelPick (q : Req)
  | planGetPick (q : Req)
  | planGetSegment (q : Req)
  | planGetStatus (q : Req)
  | zoneGet (q : Req)
  | planClearCounters (q : Req)
  | profGet (q : Req)
  | profSetLimits (q : Req)
  | profMove (q : Req)
  | profHold (q : Req)
  | profTableLoad (q : Req)
  | profTableStart (q : Req)
  | profGear (q : Req)
  | profStreamOpen (q : Req)
  | profStreamData (q : Req)
  | profHome (q : Req)
  | profRegister (q : Req)
  | profStepTableWrite (q : Req)
  | auxEnable (q : Req)
  | auxDisable (q : Req)
  | profClearFault (q : Req)
  | profTableClear (q : Req)
  | sepGetStatus (q : Req)
  | sepGetArm (q : Req)
  | sepGetSensor (q : Req)
  | sepSetCap (q : Req)
  | sepClearFault (q : Req)
  | sepReadField (q : Req)
  | sepClearCounters (q : Req)
  | sioGetStatus (q : Req)
  | sioGetPair (q : Req)
  | sioGetOutput (q : Req)
  | sioOutSet (q : Req)
  | sioClearFault (q : Req)
  | safetyGetConn (q : Req)
  | safetyClearCounters (q : Req)
  | safetyConfirm (q : Req)
  | safetyUnconfirm (q : Req)
  | metroGetStatus (q : Req)
  | metroGetChannel (q : Req)
  | metroGetIdent (q : Req)
  | metroReadAudit (q : Req)
  | metroGetPubkey (q : Req)
  | metroResend (q : Req)
  -- metrology service port (12 R386): the frame's payload and the operator acting there
  | metroSvcReadParam (req : Bytes)
  | metroSvcWriteParam (req : Bytes)
  | metroSvcAdjZero (req : Bytes)
  | metroSvcAdjSpan (req : Bytes)
  | metroSvcWeigh (req : Bytes)
  | metroSvcFwLoad (req : Bytes) (sigOk : Bool)
  | metroSvcDiscard (req : Bytes)
  | pairGetStatus (q : Req)
  | pairSwap (q : Req)
  | pairSolo (q : Req)
  | pairClearCounters (q : Req)
  | stestGetStatus (q : Req)
  | stestGetBlock (q : Req)
  | stestRun (q : Req)
  | stestSuspend (q : Req)
  | stestClearCounters (q : Req)
  | imageGetStatus (q : Req)
  | imageLoad (q : Req)
  | imageActivate (q : Req)
  | fwGetStatus (q : Req)
  | fwLoad (q : Req)
  | fwSwitch (q : Req)
  | attestGet (q : Req)
  | keyRotate (q : Req) (keyOk sigOk : Bool)
  -- further events of the surroundings
  | encoderEdge (enc : Fin 4) (a b : Bool) (t : Nat)
  | announceReceived (port : Fin 4) (utcOffset : Int) (utcValid : Bool) (gmId : Bytes) (stepsRemoved : Nat)
  | delayRespReceived (port : Fin 4) (times : DelayTimes)
  | crossCellHoldoverExpiry
  | arpRequestReceived (port : Fin 8) (target : Nat) (sender : Bytes)
  | loadCellSample (ch : Fin 8) (raw : Int) (senseOk excOk : Bool)
  | metroSupplyLoss
  | metroStreamReceived
  | pairLaneStateChange (lane : Fin 2) (up : Bool)
  | pairUplinkReceived (node : Fin 24) (frame : Bytes)
deriving DecidableEq, Repr

end Sys2Proof
end

