-- ==== Sys2Proof/Decode.lean ====
section
/-!
DEFINITION. The command a word spells by the opcode table's bits. No row of spec/opcode_table.json gives bits (every row's
list of fields is empty): a command reaches the block as a message, a frame or an event, not as a word, so no word spells one.
-/

namespace Sys2Proof

/-- The command an `nbits`-bit word `w` spells by the table: none, since the table gives no row any bits. -/
def decodeTableWord (_nbits _w : Nat) : Option Instr := none

end Sys2Proof
end

