-- ==== Sys2Proof/Machine/Bytes.lean ====
section
/-!
DEFINITION. Byte order, fields of payloads and frames, check values, saturating counters and exact rounding.
-/

namespace Sys2Proof.Machine

open Sys2Proof

/-- The `n` bytes of a value, little-endian (00 R6). -/
def le : Nat → Nat → Bytes
  | 0, _ => []
  | n + 1, v => BitVec.ofNat 8 v :: le n (v / 256)

/-- The `n` bytes of a signed value, two's complement, little-endian (00 R6). -/
def leI (n : Nat) (v : Int) : Bytes := le n (v % (2 ^ (8 * n) : Nat)).toNat

/-- Zero bytes, as reserved fields read (00 R7). -/
def zeros (n : Nat) : Bytes := List.replicate n 0

/-- The value of a run of bytes, little-endian (00 R6). -/
def ofLe : Bytes → Nat
  | [] => 0
  | b :: r => b.toNat + 256 * ofLe r

/-- The unsigned field of `n` bytes at `off`; bytes past the end read as zero. -/
def ru (b : Bytes) (off n : Nat) : Nat := ofLe ((b.drop off).take n)

/-- The value of an `n`-byte two's complement word. -/
def signed (n v : Nat) : Int := if v < 2 ^ (8 * n - 1) then (v : Int) else (v : Int) - 2 ^ (8 * n)

/-- The signed field of `n` bytes at `off` (00 R6). -/
def ri (b : Bytes) (off n : Nat) : Int := signed n (ru b off n)

/-- The `n` bytes at `off`, padded with zeros. -/
def slice (b : Bytes) (off n : Nat) : Bytes :=
  let s := (b.drop off).take n
  s ++ zeros (n - s.length)

/-- A run of bytes cut or padded with zeros to `n` bytes. -/
def fit (n : Nat) (b : Bytes) : Bytes := slice b 0 n

/-- The bytes of `b` with `n` bytes at `off` replaced, padded with zeros up to there. -/
def patch (b : Bytes) (off : Nat) (x : Bytes) : Bytes :=
  fit off b ++ x ++ b.drop (off + x.length)

/-- One bit of a reflected CRC register. -/
def crcBit (poly c : Nat) : Nat := if c % 2 = 1 then (c / 2) ^^^ poly else c / 2

/-- One byte through CRC-32C. -/
def crcByte (c : Nat) (b : Byte) : Nat :=
  let p := crcBit 0x82F63B78
  p (p (p (p (p (p (p (p (c ^^^ b.toNat))))))))

/-- CRC-32C of a run of bytes (15 R435: polynomial 0x1EDC6F41 reflected, start and final inversion). -/
def crc32c (b : Bytes) : Nat := (b.foldl crcByte 0xFFFFFFFF) ^^^ 0xFFFFFFFF

/-- One bit of the safety CRC register, most significant bit first (11 R349). -/
def crcSBit (c : Nat) : Nat :=
  if c ≥ 0x80000000 then ((2 * c) % 0x100000000) ^^^ 0x741B8CD7 else 2 * c

/-- One byte through the safety CRC (11 R349). -/
def crcSByte (c : Nat) (b : Byte) : Nat :=
  let p := crcSBit
  p (p (p (p (p (p (p (p (c ^^^ (b.toNat * 0x1000000)))))))))

/-- The safety CRC of a run of bytes (11 R349). -/
def crcSafety (b : Bytes) : Nat := (b.foldl crcSByte 0xFFFFFFFF) ^^^ 0xFFFFFFFF

/-- A 32-bit saturating counter after one more (16 R449, Counters). -/
def inc (n : Nat) : Nat := if n < Config.cMax then n + 1 else n

/-- A 32-bit saturating counter after `k` more. -/
def incBy (n k : Nat) : Nat := min (n + k) Config.cMax

/-- A value held within `lo` and `hi`. -/
def clampI (lo hi v : Int) : Int := if v < lo then lo else if hi < v then hi else v

/-- A value saturated to a signed field of `b` bits. -/
def satI (b : Nat) (v : Int) : Int := clampI (-(2 ^ (b - 1))) (2 ^ (b - 1) - 1) v

/-- A value saturated to an unsigned field of `b` bits. -/
def satU (b : Nat) (v : Int) : Nat := (clampI 0 (2 ^ b - 1) v).toNat

/-- The magnitude of a signed quantity saturated to 16 bits unsigned. -/
def mag16 (v : Int) : Nat := min v.natAbs 0xFFFF

/-- `num / den` rounded to nearest; where the spec names no rule for a tie, the free constant `Config.tieUp` decides. -/
def roundDiv (num : Int) (den : Nat) : Int :=
  if den = 0 then 0 else
  let q := num / (den : Int)
  let r := num % (den : Int)
  if 2 * r < den then q else if 2 * r > den then q + 1
  else if Config.tieUp q then q + 1 else q

/-- `num / den` where the rule gives the exact value and no rounding: exact if it is a whole number, else its floor or its ceiling
as the free constant `Config.quotUp` decides (log 2). -/
def quot (unit : Nat) (num : Int) (den : Nat) : Int :=
  if den = 0 then 0 else
  let q := num / (den : Int)
  if num % (den : Int) = 0 then q else if Config.quotUp unit num den then q + 1 else q

/-- The same with a signed denominator. -/
def quotI (unit : Nat) (num den : Int) : Int := if den < 0 then quot unit (-num) den.natAbs else quot unit num den.natAbs

/-- `num / den` rounded to nearest, ties away from zero. -/
def roundAway (num : Int) (den : Nat) : Int :=
  if den = 0 then 0 else
  if num ≥ 0 then (2 * num + den) / (2 * den) else -((2 * (-num) + den) / (2 * den))

/-- `v` reduced into 0 .. m - 1. -/
def modNat (v : Int) (m : Nat) : Nat := if m = 0 then v.toNat else (v % (m : Int)).toNat

/-- The byte `n`. -/
def byte (n : Nat) : Byte := BitVec.ofNat 8 n

/-- ASCII text is not used on the wire; a status byte is. -/
def byteN (b : Bytes) (off : Nat) : Nat := ((b.drop off).headD 0).toNat

/-- All bytes in `[off, off + n)` are zero (reserved fields, 00 R7). -/
def rsv (b : Bytes) (off n : Nat) : Bool := ((b.drop off).take n).all (· = 0)

/-- The first `some` of a list of checks: the failing condition listed first decides (16 R450). -/
def firstFail {α : Type} : List (Bool × α) → Option α
  | [] => none
  | (true, x) :: _ => some x
  | (false, _) :: r => firstFail r

/-- Wide time: 48-bit seconds and 32-bit nanoseconds, 10 bytes (03 R75). -/
def wide (t : Int) : Bytes := leI 6 (t / 1000000000) ++ le 4 (t % 1000000000).toNat

/-- Short time: the nanosecond count mod 2^32 (03 R75). -/
def short (t : Int) : Nat := (t % 4294967296).toNat

/-- The plant instant of a wide field at `off`, in ns. -/
def ofWide (b : Bytes) (off : Nat) : Int := (ru b off 6 : Int) * 1000000000 + ru b (off + 6) 4

/-- Bits of a Boolean list, first at bit 0. -/
def bits : List Bool → Nat
  | [] => 0
  | b :: r => b2n b + 2 * bits r

end Sys2Proof.Machine
end

