-- ==== Sys2Proof/Machine/Keccak.lean ====
section
/-!
DEFINITION. SHAKE256, which the spec names and does not restate (17 R464, R469, R475; 05 R162; 07 R217): Keccak-f[1600] with a rate of
136 bytes and the domain bits 1111, as FIPS 202 defines it (log 71).
-/

namespace Sys2Proof.Machine

open Sys2Proof

/-- The 25 lanes of the state, lane (x, y) at 5y + x. -/
abbrev Lanes := Vector (BitVec 64) 25

/-- Lane (x, y), coordinates modulo 5. -/
def laneAt (s : Lanes) (x y : Nat) : BitVec 64 := vget s (5 * (y % 5) + x % 5)

/-- A state given lane by lane. -/
def ofLanes (f : Nat → Nat → BitVec 64) : Lanes := Vector.ofFn (fun i : Fin 25 => f (i.val % 5) (i.val / 5))

/-- Parity of a column. -/
def column (s : Lanes) (x : Nat) : BitVec 64 :=
  (List.range 5).foldl (fun p y => p ^^^ laneAt s x y) 0

def theta (s : Lanes) : Lanes :=
  let d := (List.range 5).map (fun x => column s (x + 4) ^^^ (column s (x + 1)).rotateLeft 1)
  ofLanes (fun x y => laneAt s x y ^^^ d.getD x 0)

/-- Rotation of each lane, rows y = 0 to 4. -/
def rhoTable : List Nat :=
  [0, 1, 62, 28, 27,  36, 44, 6, 55, 20,  3, 10, 43, 25, 39,  41, 45, 15, 21, 8,  18, 2, 61, 56, 14]

/-- Lanes rotated, and moved from (x, y) to (y, 2x + 3y): lane (x, y) of the result comes from (x + 3y, x). -/
def rhoPi (s : Lanes) : Lanes :=
  ofLanes (fun x y => let u := (x + 3 * y) % 5; (laneAt s u x).rotateLeft (rhoTable.getD (5 * x + u) 0))

def chi (s : Lanes) : Lanes :=
  ofLanes (fun x y => laneAt s x y ^^^ ((~~~ laneAt s (x + 1) y) &&& laneAt s (x + 2) y))

/-- The register that yields the round constants: one step of x^8 + x^6 + x^5 + x^4 + 1. -/
def lfsr (r : Nat) : Nat := if 128 ≤ r then (2 * r % 256) ^^^ 0x71 else 2 * r

/-- Round constant: bit 2^j - 1 for each of seven steps of the register, and the register after them. -/
def roundConst (r : Nat) : BitVec 64 × Nat :=
  (List.range 7).foldl (fun (a : BitVec 64 × Nat) j => (if a.2 % 2 = 1 then a.1 ^^^ (1#64 <<< (2 ^ j - 1)) else a.1, lfsr a.2)) (0, r)

/-- The permutation of 24 rounds. -/
def permute (s : Lanes) : Lanes :=
  ((List.range 24).foldl (fun (a : Lanes × Nat) _ =>
    let k := roundConst a.2
    let t := chi (rhoPi (theta a.1))
    (vmod t 0 (· ^^^ k.1), k.2)) (s, 1)).1

/-- A block of 136 bytes into the state. -/
def absorb (s : Lanes) (b : Bytes) : Lanes :=
  permute (vmapIdx s (fun i w => if i < 17 then w ^^^ BitVec.ofNat 64 (ru b (8 * i) 8) else w))

/-- Whole blocks of a padded message; `fuel` of them. -/
def absorbAll : Nat → Bytes → Lanes → Lanes
  | 0, _, s => s
  | n + 1, b, s => absorbAll n (b.drop 136) (absorb s (b.take 136))

/-- The message with the domain bits and the pad, to a whole number of blocks. -/
def padded (m : Bytes) : Bytes :=
  let r := 136 - m.length % 136
  if r = 1 then m ++ [0x9F] else m ++ [0x1F] ++ zeros (r - 2) ++ [0x80]

/-- `n` blocks of output. -/
def squeeze : Nat → Lanes → Bytes
  | 0, _ => []
  | n + 1, s => ((List.range 17).map (fun i => le 8 (vget s i).toNat)).flatten ++ squeeze n (permute s)

/-- SHAKE256 output of `len` bytes over a message. -/
def shake256 (m : Bytes) (len : Nat) : Bytes :=
  let p := padded m
  (squeeze (len / 136 + 1) (absorbAll (p.length / 136) p (Vector.replicate 25 0))).take len

end Sys2Proof.Machine
end

