-- ==== Sys2Proof/Machine/Types/Boot.lean ====
section
/-!
DEFINITION. State of the anchors, the flash and the images (chapter 17).
-/

namespace Sys2Proof.Machine

/-- State of a vendor key slot (17 R465). -/
inductive KeyState where
  | standby | active | revoked
deriving DecidableEq, Repr, Inhabited

/-- One Duhorn image in flash (17 R467, R469): what has been programmed of a package. -/
structure FwImage where
  /-- its bytes from offset 0 on, as programmed since the last erase -/
  data : Bytes := []
  /-- total package length announced -/
  total : Nat := 0
  /-- written completely with LAST -/
  complete : Bool := false
  /-- signature blocks of the package, and of the safety sub-image, whose Falcon-1024 signature verifies under the key they carry; masks -/
  blocks : Nat := 0
  subBlocks : Nat := 0
deriving DecidableEq, Repr, Inhabited

/-- One configuration slot in flash (17 R467, R475): what has been programmed of an image. -/
structure CfgSlot where
  data : Bytes := []
  total : Nat := 0
  complete : Bool := false
  /-- the certificate's vendor signature verifies, and the image's signature under the certificate's key (Falcon-1024) -/
  certSig : Bool := false
  imgSig : Bool := false
deriving DecidableEq, Repr, Inhabited

/-- A write operation of group 0x0E in progress (17 R485). -/
structure FlashOp where
  isFw : Bool
  ring : Nat
  seq : Nat
  /-- image or slot written -/
  target : Nat
  offset : Nat
  /-- the chunk -/
  data : Bytes
  total : Nat
  last : Bool
deriving DecidableEq, Repr, Inhabited

/-- The anchors: fuse-like state no command changes but the few chapter 17 names (17 R464). -/
structure Anchors where
  /-- vendor key slots of the control die; 3 states; 17 R464, R465; reset ACTIVE, STANDBY, STANDBY -/
  keys : Vector KeyState 3 := #v[.active, .standby, .standby]
  /-- vendor key slots of the safety die; 3 states; 17 R464; reset as keys -/
  safeKeys : Vector KeyState 3 := #v[.active, .standby, .standby]
  /-- security version counter of the control die; 0-64; 17 R464; reset DESIGN CHOICE 0 (log 7) -/
  secVer : Nat := 0
  /-- SHAKE256 digests of the vendor public keys, 32 bytes each, of the control die and of the safety die; 17 R464; reset DESIGN CHOICE
  empty (log 7) -/
  keyDigest : Vector Bytes 3 := Vector.replicate 3 []
  safeKeyDigest : Vector Bytes 3 := Vector.replicate 3 []
  /-- SHAKE256 digest of the device certificate, 32 bytes; 17 R464; reset DESIGN CHOICE empty (log 7) -/
  certDigest : Bytes := []
  /-- security version counter of the safety die; 0-64; 17 R464; reset DESIGN CHOICE 0 (log 7) -/
  safeSecVer : Nat := 0
deriving DecidableEq, Repr, Inhabited

structure Boot where
  /-- boot record: sequence; 32; 17 R468; reset DESIGN CHOICE 0 (log 7) -/
  recSeq : Nat := 0
  /-- boot record: preferred image; 0 A, 1 B; 17 R468; reset DESIGN CHOICE 0 (log 7) -/
  preferred : Nat := 0
  /-- boot record: TRIAL; 1; 17 R468; reset DESIGN CHOICE 0 (log 7) -/
  trial : Bool := false
  /-- boot record: SWAP_AT_BOOT; 1; 17 R468; reset DESIGN CHOICE 0 (log 7) -/
  swapAtBoot : Bool := false
  /-- boot record: attempts; 8; 17 R468; reset DESIGN CHOICE 0 (log 7) -/
  attempts : Nat := 0
  /-- boot record: active slot, 0, 1 or 0xFF; 8; 17 R468; reset DESIGN CHOICE 0xFF (log 7) -/
  activeSlot : Nat := 0xFF
  /-- which copy was written last; 17 R468; reset 0 (log 7) -/
  recCopy : Nat := 0
  /-- Duhorn images A and B; 64 MiB each; 17 R467; reset empty (log 7) -/
  fw : Vector FwImage 2 := Vector.replicate 2 {}
  /-- configuration slots 0 and 1; 32 MiB each; 17 R467; reset empty (log 7) -/
  cfgSlot : Vector CfgSlot 2 := Vector.replicate 2 {}
  /-- confirmation records in NOR: the SCVs confirmed on this unit; list; 11 R357; reset none (log 7) -/
  confirmRecs : List Nat := []
  /-- running Duhorn image; 0 A, 1 B; 17 R484; reset 0 -/
  running : Nat := 0
  /-- the running image was booted as a trial; 17 R473; reset false -/
  runTrial : Bool := false
  /-- local time at which Duhorn was started, while the boot watchdog runs; ns; 17 R472; reset none -/
  watchdog : Option Nat := none
  /-- TRIAL_REVERTED is to be posted once Duhorn runs; 17 R471; reset false -/
  revertedNote : Bool := false
  /-- the boot ROM serves ring 31 for recovery; 17 R471, R484; reset false -/
  recovery : Bool := false
  /-- a write operation in progress; 17 R485; reset none -/
  op : Option FlashOp := none
  /-- an activation accepted or begun at boot and not yet carried out: its slot; 17 R472, R479; reset none -/
  activation : Option Nat := none
  /-- section number that failed first at the last activation, 0 none; 17 R484; reset 0 -/
  firstFailed : Nat := 0
  /-- image digest of the active image, first 32 bytes; 17 R475, R484; reset empty -/
  imageDigest : Bytes := []
deriving DecidableEq, Repr, Inhabited

end Sys2Proof.Machine
end

