-- ==== Sys2Proof/Machine/Package.lean ====
section
/-!
DEFINITION. What the flash holds, read from its bytes: Duhorn packages (17 R469, R470), the header, directory and certificate of a
configuration image (R475, R476). The spec names Falcon-1024 and does not restate it: whether a signature verifies reaches the model with
the end of the write (log 71).
-/

namespace Sys2Proof.Machine

open Sys2Proof

/-- Slot states in order (17 R465): STANDBY, ACTIVE, REVOKED. -/
def KeyState.code : KeyState → Nat
  | .standby => 0 | .active => 1 | .revoked => 2

/-- The later of two states of a slot. -/
def KeyState.later (a b : KeyState) : KeyState := if a.code < b.code then b else a

/-- Mask of the ACTIVE slots. -/
def activeMask (k : Vector KeyState 3) : Nat := maskOf 3 (fun j => vget k j = .active)

/-- Three version bytes, and versions compared. -/
def verAt (b : Bytes) (o : Nat) : Nat × Nat × Nat := (byteN b o, byteN b (o + 1), byteN b (o + 2))
def verLe (a b : Nat × Nat × Nat) : Bool :=
  a.1 < b.1 || (a.1 = b.1 && (a.2.1 < b.2.1 || (a.2.1 = b.2.1 && a.2.2 ≤ b.2.2)))

/-! ### Packages (17 R469, R470) -/

def FwImage.secVer (f : FwImage) : Nat := byteN f.data 6
def FwImage.version (f : FwImage) : Nat × Nat × Nat := verAt f.data 8
def FwImage.build (f : FwImage) : Nat := ru f.data 12 4
def FwImage.subVersion (f : FwImage) : Nat × Nat × Nat := verAt f.data 36
def FwImage.body (f : FwImage) : Bytes := slice f.data (ru f.data 20 4) (ru f.data 24 4)
/-- The safety sub-image; its offset counts from the package's first byte (log 20). -/
def FwImage.subImage (f : FwImage) : Bytes := slice f.data (ru f.data 28 4) (ru f.data 32 4)

/-- Reserved fields of the signature blocks of 3 080 bytes from `o` on. -/
def blocksOk (b : Bytes) (o n : Nat) : Bool :=
  (List.range n).all (fun i => byteN b (o + 3080 * i) < 3 && rsv b (o + 3080 * i + 1) 3 && rsv b (o + 3080 * i + 1797) 3)

/-- Condition 1 of R470: magic, version, fields within the layout, reserved fields zero. -/
def FwImage.headerOk (f : FwImage) : Bool :=
  let b := f.data
  let n := byteN b 7
  let start := 128 + 3080 * n
  let body := ru b 20 4
  let stop := body + ru b 24 4
  let sub := ru b 28 4
  b.take 4 = [0x4B, 0x58, 0x46, 0x57] && ru b 4 2 = 1 && byteN b 6 ≤ 64 && 1 ≤ n && n ≤ 2 && ru b 16 4 = b.length && ru b 16 4 = f.total
    && start ≤ body && stop ≤ b.length && body ≤ sub && sub + ru b 32 4 ≤ stop && 3080 * n ≤ ru b 32 4
    && rsv b 11 1 && rsv b 39 1 && rsv b 104 24 && blocksOk b 128 n && blocksOk b (sub + ru b 32 4 - 3080 * n) n

/-- Condition 3: the body digest matches. -/
def FwImage.digestOk (f : FwImage) : Bool := shake256 f.body 64 = slice f.data 40 64

/-- Slots that a run of signature blocks signs for: the block's key has the slot's digest and its signature verifies (`good`). -/
def signedSlots (dig : Vector Bytes 3) (b : Bytes) (o n good : Nat) : Nat :=
  maskOf 3 (fun j => (List.range n).any (fun i =>
    mbit good i && byteN b (o + 3080 * i) = j && shake256 (slice b (o + 3080 * i + 4) 1793) 32 = vget dig j))

/-- Slots that sign the package, and its safety sub-image, whose blocks stand at its end. -/
def FwImage.signing (f : FwImage) (n : Anchors) : Nat := signedSlots n.keyDigest f.data 128 (byteN f.data 7) f.blocks
def FwImage.subSigning (f : FwImage) (n : Anchors) : Nat :=
  let k := byteN f.data 7
  signedSlots n.safeKeyDigest f.data (ru f.data 28 4 + ru f.data 32 4 - 3080 * k) k f.subBlocks

/-- Conditions 1-4 of R470, against the control die's anchors. -/
def packageOk (n : Anchors) (f : FwImage) : Bool :=
  f.complete && f.headerOk && n.secVer ≤ f.secVer && f.digestOk && f.signing n &&& activeMask n.keys ≠ 0

/-- All five conditions of R470: the safety die accepts the sub-image by its own anchors. -/
def packageValid (n : Anchors) (f : FwImage) : Bool :=
  packageOk n f && n.safeSecVer ≤ f.secVer && f.subSigning n &&& activeMask n.safeKeys ≠ 0

/-! ### Configuration images (17 R475, R476) -/

def CfgSlot.generation (s : CfgSlot) : Nat := ru s.data 8 4
def CfgSlot.minDuhorn (s : CfgSlot) : Nat × Nat × Nat := verAt s.data 24
def CfgSlot.autoActivate (s : CfgSlot) : Bool := mbit (byteN s.data 18) 0
def CfgSlot.scv (s : CfgSlot) : Nat := ru s.data 28 4
def CfgSlot.sections (s : CfgSlot) : Nat := ru s.data 16 2
def CfgSlot.sigAt (s : CfgSlot) : Nat := ru s.data 52 4
def CfgSlot.cert (s : CfgSlot) : Bytes := slice s.data (ru s.data 48 4) 3200

/-- The image digest (R475). -/
def CfgSlot.digest (s : CfgSlot) : Bytes := shake256 (s.data.take s.sigAt) 64

/-- A directory entry: section number, offset and length of its body. -/
structure DirEntry where
  num : Nat
  off : Nat
  len : Nat
deriving DecidableEq, Repr, Inhabited

def CfgSlot.dir (s : CfgSlot) : List DirEntry :=
  (List.range s.sections).map (fun i => { num := ru s.data (64 + 16 * i) 2, off := ru s.data (68 + 16 * i) 4, len := ru s.data (72 + 16 * i) 4 })

/-- The section types of R477; all others are reserved. -/
def knownType (t : Nat) : Bool := (1 ≤ t && t ≤ 0x0D) || (0x80 ≤ t && t ≤ 0x87)

/-- Step 1 of R478: header and directory well formed, part 0x0096, offsets and lengths within the image. -/
def CfgSlot.wellFormed (s : CfgSlot) : Bool :=
  let b := s.data
  let n := s.sections
  let d := s.dir
  b.take 4 = [0x4B, 0x58, 0x43, 0x49] && ru b 4 2 = 1 && ru b 6 2 = 0x0096 && ru b 12 4 = b.length && ru b 12 4 = s.total
    && 1 ≤ n && n ≤ 1024 && byteN b 18 < 2 && rsv b 19 1 && rsv b 23 1 && rsv b 27 1 && rsv b 56 8
    && s.sigAt + 1280 = b.length && ru b 48 4 + 3200 ≤ s.sigAt
    && (List.range n).all (fun i => rsv b (66 + 16 * i) 2 && rsv b (76 + 16 * i) 4)
    && d.all (fun e => knownType (e.num / 256) && 64 + 16 * n ≤ e.off && e.off + e.len + 4 ≤ s.sigAt)
    && (d.zip (d.drop 1)).all (fun e => e.1.num < e.2.num)

def CfgSlot.certSlot (s : CfgSlot) : Nat := byteN s.cert 4

/-- Step 2 but for the state of its slot: layout, unit binding, vendor signature (R476). -/
def CfgSlot.certOk (s : CfgSlot) : Bool :=
  let k := s.cert
  k.take 4 = [0x4B, 0x58, 0x49, 0x43] && byteN k 4 < 3 && rsv k 5 3 && rsv k 60 36 && rsv k 1889 31
    && (rsv k 28 32 || slice k 28 32 = fit 32 Config.unitId) && s.certSig

/-- The body of a section, and whether its check word is its CRC-32C. -/
def CfgSlot.body (s : CfgSlot) (e : DirEntry) : Bytes := slice s.data e.off e.len
def CfgSlot.checked (s : CfgSlot) (e : DirEntry) : Bool := ru s.data (e.off + e.len) 4 = crc32c (s.body e)

/-- The safety sections of the directory. -/
def CfgSlot.safety (s : CfgSlot) : List DirEntry := s.dir.filter (fun e => 0x80 ≤ e.num / 256)

/-- The digest that two paired units compare (13 R393): over every section, bytes 2 and 4-11 of the pair record taken as zero. -/
def CfgSlot.pairDigest (s : CfgSlot) : Bytes :=
  shake256 ((s.dir.map (fun e =>
    if e.num = 0x0C00 then patch (patch (s.body e) 2 (zeros 1)) 4 (zeros 8) else s.body e)).flatten) 64

/-- The SCV recomputed (11 R357): the safety CRC over the safety sections in ascending number, each after its number and its length. -/
def CfgSlot.scvComputed (s : CfgSlot) : Nat :=
  crcSafety ((s.safety.map (fun e => le 4 e.num ++ le 4 e.len ++ s.body e)).flatten)

end Sys2Proof.Machine
end

