-- ==== Sys2Proof/Machine/Types/Joints.lean ====
section
/-!
DEFINITION. State of joint supervision and of the arm and auxiliary-axis sequences (chapter 06, 09 R290).
-/

namespace Sys2Proof.Machine

/-- Arm state (06 R189; codes R192), also of an auxiliary axis (09 R290). -/
inductive ArmSt where
  | disabled | enabling | hold | running | stopping | faulted
deriving DecidableEq, Repr, Inhabited

/-- Why an arm is STOPPING (06 R189): disable, fault, or a device halt that ends in HOLD. -/
inductive StopKind where
  | disable | fault | halt
deriving DecidableEq, Repr, Inhabited

/-- Steps of the enable and disable sequences (06 R187, R188). -/
inductive SeqStep where
  | idle | power | ramp | release | settle | rest | brake | off
deriving DecidableEq, Repr, Inhabited

/-- A JOINT_TEST in progress (06 R193). -/
structure JTest where
  axis : Nat
  shape : Nat
  amp : Nat
  f0 : Nat
  f1 : Nat
  endsAt : Nat
  /-- samples produced so far -/
  n : Nat := 0
  /-- samples not yet sent in a telemetry record: excitation, i_cmd, following error, v -/
  recs : List (Int × Int × Int × Int) := []
  /-- cycle count of the first of them -/
  from0 : Nat := 0
deriving DecidableEq, Repr, Inhabited

/-- The sequence of an arm's tool axes when it runs by itself (06 R191): the steps of R187, or BRAKE and OFF of R188. -/
structure ToolSeq where
  step : SeqStep := .idle
  /-- the axes it covers -/
  axes : List Nat := []
  /-- BRAKE_NOT_ENGAGED has been posted for it -/
  stuck : Bool := false
  since : Nat := 0
  ramp : Nat := 0
  settle : Nat := 0
  enable : Bool := false
  release : Bool := false
deriving DecidableEq, Repr, Inhabited

/-- Sequence of an arm or of an auxiliary axis (06 R186-R190). -/
structure ArmSeq where
  /-- arm state; code 0-5; 06 R189; reset DISABLED -/
  st : ArmSt := .disabled
  /-- kind of the stop in STOPPING; 06 R189; reset disable -/
  stop : StopKind := .disable
  /-- step of the sequence; 06 R187, R188; reset idle -/
  step : SeqStep := .idle
  /-- local time at which the present step began; 06 R190; reset 0 -/
  since : Nat := 0
  /-- feed-forward weight; Q1.15; 06 R170; reset 0 -/
  ramp : Nat := 0
  /-- consecutive cycles of the settle condition; 06 R187; reset 0 -/
  settle : Nat := 0
  /-- ENABLE and BRAKE_RELEASE applied; 06 R170; reset false -/
  enable : Bool := false
  release : Bool := false
  /-- sequence of the tool axes alone; 06 R191; reset idle -/
  tool : ToolSeq := {}
  /-- tool axes that the arm's sequence includes; 06 R191; reset none -/
  tools : List Nat := []
  /-- BRAKE_NOT_ENGAGED has been posted; 06 R188; reset false -/
  brakeStuck : Bool := false
  /-- ENABLE latched under R28; 06 R186; reset none -/
  latched : Option (Nat × Nat × Nat) := none
  /-- a latched enable includes the tool axes; 06 R191; reset false -/
  latchedTool : Bool := false
  /-- local time at which the minimum off-time ends; 01 R31; reset none -/
  offEnd : Option Nat := none
  /-- first fault: cause, axis, cycle count; 06 R185; reset none -/
  fault : Option (Nat × Nat × Nat) := none
  /-- local time STOP was sent; 06 R190; reset none -/
  stopSent : Option Nat := none
  /-- t_ss1 has been exceeded: FAULTED follows at the boundary; 06 R189; reset false -/
  overdue : Bool := false
  /-- RECOVERY: numeric recovery active, and cycles without SAT; 06 R178; reset none -/
  recovery : Option Nat := none
  /-- JOINT_TEST running: axis, shape, amplitude, start and end frequency, end time, samples so far; 06 R193; reset none -/
  test : Option JTest := none
  /-- a test ended in this cycle: the arm returns from Q15 at the boundary that follows; 06 R194; reset false -/
  testEnded : Bool := false
  /-- pending bank swap: cycle number, bank, generation; 06 R175; reset none -/
  swap : Option (Nat × Nat) := none
deriving DecidableEq, Repr, Inhabited

/-- Supervision of one axis (06 R181-R183, R193). -/
structure Superv where
  /-- bridge limit; 0-4; 06 R182; reset 2 -/
  bridge : Nat := 2
  /-- following-error timer, cycles; 06 R181; reset 0 -/
  timer : Nat := 0
  /-- following-error limit, counts; 06 R181; reset 2^31 - 1 (log 12) -/
  limit : Nat := 2147483647
  /-- warning level, counts; 06 R181; reset 2^31 - 1 (log 12) -/
  warn : Nat := 2147483647
  /-- frozen threshold, Q16.16 counts per cycle; 06 R183; reset 0 (log 12) -/
  frozenThr : Nat := 0
  /-- frozen time, ms; 06 R183; reset 5 -/
  frozenMs : Nat := 5
  /-- residual limit, Q15; 06 R183; reset 0x1000 -/
  resLimit : Nat := 0x1000
  /-- residual time, ms; 06 R183; reset 2 -/
  resMs : Nat := 2
  /-- consecutive cycles above the limit; 06 R181; reset 0 -/
  overFor : Nat := 0
  /-- JOINT_WARNING posted; 06 R181; reset false -/
  warned : Bool := false
  /-- missing samples in succession; 06 R182; reset 0 -/
  missing : Nat := 0
  /-- local time since which p has not changed under command; 06 R183; reset none -/
  frozenSince : Option Nat := none
  /-- p of the last cycle; 06 R183; reset 0 -/
  pLast : Int := 0
  /-- local time since which |res| has been at the limit; 06 R183; reset none -/
  resSince : Option Nat := none
  /-- peak following error since cleared; 06 R193; reset 0 -/
  peak : Int := 0
  /-- bridged cycles; 32; 06 R193; reset 0 -/
  bridged : Nat := 0
  /-- faults since cleared; 32; 06 R185; reset 0 -/
  faults : Nat := 0
  /-- consecutive commits with SAT; 06 R178; reset 0 -/
  satRun : Nat := 0
  /-- i_cmd committed with ENABLE applied in the last cycle; 06 R180; reset false -/
  enabled : Bool := false
deriving DecidableEq, Repr, Inhabited

structure Joints where
  /-- arms 0-11; 06 R189 -/
  arm : Vector ArmSeq 12 := Vector.replicate 12 {}
  /-- auxiliary axes 0-31; 09 R290 -/
  aux : Vector ArmSeq 32 := Vector.replicate 32 {}
  /-- supervision of axes 0-127; 06 R181 -/
  sup : Vector Superv 128 := Vector.replicate 128 {}
deriving DecidableEq, Repr, Inhabited

end Sys2Proof.Machine
end

