-- ==== Sys2Proof/Machine/Types/Line.lean ====
section
/-!
DEFINITION. State of the encoder inputs, the line clocks, the event scheduler and the latch inputs (chapter 02).
Plant-time instants are ns since the PTP epoch as Int; positions are unwrapped counts.
-/

namespace Sys2Proof.Machine

/-- Encoder input E0-E3 (02 R37, R38; 18 R503). -/
structure Encoder where
  /-- A level; pin; 02 R37; reset 0 (log 8) -/
  a : Bool := false
  /-- B level; pin; 02 R37; reset 0 (log 8) -/
  b : Bool := false
  /-- decoded counts; signed; 02 R37; reset 0 (log 8) -/
  count : Int := 0
  /-- plant time of the last resolved edge; 02 R41; reset none -/
  lastEdge : Option Int := none
  /-- plant time of the last change of level, resolved or not; 02 R37; reset none -/
  seenEdge : Option Int := none
  /-- cycle, count and last resolved edge at its t_in, once an edge has come after that t_in; 02 R41; reset none -/
  atTin : Option (Nat × Int × Option Int) := none
  /-- a source fault is present; 02 R37; reset false -/
  fault : Bool := false
  /-- a source fault has appeared since the last t_pr; 02 R37, R45; reset false -/
  faultSeen : Bool := false
  /-- EPWRn switched on; 18 R503; reset true -/
  epwr : Bool := true
  /-- local time at which a switched-off EPWRn is retried; 18 R503; reset none -/
  retryAt : Option Nat := none
  /-- SSI clock driver on; 18 R503; reset true -/
  ssiClock : Bool := true
  /-- last good SSI value and its plant time; 02 R38; reset none -/
  ssi : Option (Int × Int) := none
  /-- local time of the first falling clock edge of the SSI frame under way; 02 R38; reset none -/
  frameAt : Option Nat := none
deriving DecidableEq, Repr, Inhabited

/-- A state (p, v, a) at a reference instant (02 R41): p in counts times 2^48, v in counts/µs times 2^32, a in counts/µs² times 2^48. -/
structure Est where
  t : Int := 0
  p : Int := 0
  v : Int := 0
  a : Int := 0
deriving DecidableEq, Repr, Inhabited

/-- Line state (02 R45; codes R67). -/
inductive LineSt where
  | idle | syncing | valid | holdover | lost
deriving DecidableEq, Repr, Inhabited

/-- A bumpless source change in progress (02 R47). -/
structure Switch where
  source : Nat
  input : Nat
  num : Nat
  den : Nat
  offset : Int
  /-- cycles of comparison still to run -/
  left : Nat
  /-- raw count of the new source at its first reading in the comparison, and that instant; none before it -/
  base : Option (Int × Int) := none
  /-- plant instant at which the comparison began -/
  t0 : Int
  /-- newest record of a REMOTE source under comparison: its instant, p, v and a as received; 02 R47, R69 -/
  remote : Option (Int × Int × Int × Int) := none
  ring : Nat
  seq : Nat
deriving DecidableEq, Repr, Inhabited

/-- One line clock (02 R35-R49, R67-R69). -/
structure Line where
  /-- line state; code 0-4; 02 R45; reset IDLE -/
  st : LineSt := .idle
  /-- source; code 0-4; 02 R35; reset 0 -/
  source : Nat := 0
  /-- encoder input, or link mask of a REMOTE source; 02 R70; reset 0 -/
  input : Nat := 0
  /-- ratio N; 32; 02 R36; reset 1 (log 8) -/
  num : Nat := 1
  /-- ratio D; 32; 02 R36; reset 1 (log 8) -/
  den : Nat := 1
  /-- remainder carried by the ratio; 02 R36; reset 0 -/
  carry : Int := 0
  /-- raw counts already converted; 02 R36; reset 0 -/
  rawSeen : Int := 0
  /-- offset of an absolute source, and of a bumpless change; signed 64; 02 R35, R47; reset 0 -/
  offset : Int := 0
  /-- newest measurement z in line counts, offset included; 02 R521; reset 0 -/
  z : Int := 0
  /-- plant instant of that measurement; 02 R41; reset 0 -/
  zAt : Int := 0
  /-- REMOTE: p, v and a of the newest record in line units; 02 R521; reset none -/
  remote : Option (Int × Int × Int) := none
  /-- estimator state; 02 R41; reset 0 -/
  est : Est := {}
  /-- states of earlier cycles, newest first, back to 1.024 s; 02 R71; reset none -/
  hist : List Est := []
  /-- state at loss of the source, extrapolated in HOLDOVER; 02 R45; reset none -/
  holdEst : Option Est := none
  /-- the line has had a position estimate since image activation; 02 R47; reset false -/
  hadEst : Bool := false
  /-- the estimator awaits its first measurement; 02 R521; reset true -/
  fresh : Bool := true
  /-- residual; 16, saturating; 02 R44; reset 0 -/
  residual : Nat := 0
  /-- consecutive cycles below the sync tolerance; 02 R45; reset 0 -/
  syncRun : Nat := 0
  /-- POS_UNCERTAIN; 1; 02 R45; reset false -/
  posUncertain : Bool := false
  /-- a source fault is present; 02 R45; reset false -/
  fault : Bool := false
  /-- local time at which the holdover limit expires; 02 R45; reset none -/
  holdEnd : Option Nat := none
  /-- local time since which |v| has been below the standstill threshold; 02 R44; reset none -/
  stillSince : Option Nat := none
  /-- VIRTUAL: target velocity, acceleration and jerk limit; 02 R48; reset none -/
  vmaster : Option (Int × Nat × Nat) := none
  /-- source change in progress; 02 R47; reset none -/
  switching : Option Switch := none
  /-- publishing link mask; 2; 02 R68; reset 0 -/
  pubMask : Nat := 0
  /-- publishing exponent e; 02 R68; reset 0 -/
  pubE : Nat := 0
  /-- plant line identifier published; 32; 02 R68; reset 0 -/
  pubId : Nat := 0
  /-- sequence of published records; 16; 02 R67; reset 0 -/
  pubSeq : Nat := 0
  /-- REMOTE: last sequence accepted; 16; 02 R69; reset none -/
  rxSeq : Option Nat := none
  /-- REMOTE: local time of the last accepted record; 02 R69; reset 0 -/
  rxAt : Nat := 0
  /-- REMOTE: state code received last; 02 R69; reset 2 (log 8) -/
  rxState : Nat := 2
deriving DecidableEq, Repr, Inhabited

/-- An event record (02 R53). -/
structure EvRec where
  line : Nat := 0
  dirPos : Bool := false
  dirNeg : Bool := false
  rearm : Bool := false
  fireIfPast : Bool := false
  report : Bool := false
  action : Nat := 0
  param : Nat := 0
  target : Int := 0
  pitch : Int := 0
  count : Nat := 0
  band : Nat := 0
  param2 : Nat := 0
  tag : Nat := 0
deriving DecidableEq, Repr, Inhabited

/-- State of an event slot in use (02 R62); a FREE slot is not listed. -/
inductive EvSt where
  | armed | loaded | fired | suspended
deriving DecidableEq, Repr, Inhabited

/-- An event slot in use (02 R57-R62). -/
structure EvSlot where
  slot : Nat
  ev : EvRec
  st : EvSt := .armed
  /-- predicted instant; none is NEVER; 02 R50 -/
  due : Option Int := none
  /-- unwrapped position of the grid point awaited; 02 R58 -/
  aim : Int := 0
  /-- index of that grid point; 02 R58 -/
  n : Nat := 0
  /-- firings since arming; 02 R63 -/
  fires : Nat := 0
  /-- the point awaited has fired before (REFIRE); 02 R58 -/
  refire : Nat := 0
  /-- LINE_REVERSED has been posted for the present retreat; 02 R58 -/
  reversed : Bool := false
  /-- both directions: the last crossing was upward, so the far side lies above; 02 R59 -/
  above : Bool := false
  /-- both directions: the position when last judged; 02 R57, R59 -/
  seen : Int := 0
  /-- cycle from whose t_pr on the arm is applied; 02 R51 -/
  since : Nat := 0
  /-- the arm has been applied at a t_pr; 02 R51 -/
  live : Bool := false
  /-- both directions: a firing has happened and the band is not yet left; 02 R59 -/
  inBand : Bool := false
  /-- fire at the next t_pr with LATE: the target lay behind at arming or the preset left it behind; 02 R49, R57 -/
  past : Bool := false
deriving DecidableEq, Repr, Inhabited

/-- A latch record (02 R66). -/
structure LatchRec where
  flags : Nat
  seq : Nat
  line : Nat
  t : Int
  pos : Int
  vel : Int
deriving DecidableEq, Repr, Inhabited

/-- One latch input (02 R64, R65). -/
structure Latch where
  /-- edge: 1 rising, 2 falling, 3 both; 02 R64; reset 0 (unused) -/
  edge : Nat := 0
  /-- GATED; 02 R64; reset false -/
  gated : Bool := false
  /-- glitch filter, 10 ns units; 02 R64; reset 0 -/
  filter : Nat := 0
  /-- line captured; 02 R64; reset 0 -/
  line : Nat := 0
  /-- gate open; 02 R64; reset false -/
  gate : Bool := false
  /-- buffered records, oldest first, at most 16; 02 R65; reset none -/
  buf : List LatchRec := []
  /-- sequence of the next record; 16; 02 R66; reset 0 -/
  seq : Nat := 0
  /-- the next stored record carries OVERFLOW; 02 R65; reset false -/
  ovf : Bool := false
deriving DecidableEq, Repr, Inhabited

/-- Line snapshots S(j): one state per line (02 R43). -/
abbrev Snap := Vector Est 4

structure LineTime where
  /-- encoder inputs E0-E3; 02 R37 -/
  enc : Vector Encoder 4 := Vector.replicate 4 {}
  /-- LINE0-LINE3; 02 R35 -/
  line : Vector Line 4 := Vector.replicate 4 {}
  /-- event slots in use, ascending slot; 02 R53, R62; reset none -/
  events : List EvSlot := []
  /-- cancels on their way whose event was freed before its t_pr: ring, sequence, fire count, one-shot that fired; 02 R61; reset none -/
  freed : List (Nat × Nat × Nat × Bool) := []
  /-- per weighing channel: the line whose event opened its window; 02 R49; reset none -/
  weighLine : Vector (Option Nat) 8 := Vector.replicate 8 none
  /-- latch inputs L0-L15; 02 R64 -/
  latch : Vector Latch 16 := Vector.replicate 16 {}
  /-- plant time has been stepped since the last t_pr; 03 R86; reset false -/
  stepped : Bool := false
  /-- states formed in the last cycles, newest first, from which S(j) is taken; 02 R43; reset none -/
  snaps : List Snap := []
deriving DecidableEq, Repr, Inhabited

end Sys2Proof.Machine
end

