-- ==== Sys2Proof/Machine/Types/Loops.lean ====
section
/-!
DEFINITION. State of the loop engines: their figures, their data memory, the registers of the program that runs (chapter 05).
-/

namespace Sys2Proof.Machine

/-- Engine state (05 R164). -/
inductive EngSt where
  | pool | inService | underTest | failed
deriving DecidableEq, Repr, Inhabited

/-- A set-point and feed-forward block (06 R170), one half. -/
structure SpBlock where
  pSp : Int := 0
  vSp : Int := 0
  aSp : Int := 0
  tau : Int := 0
  inertia : Nat := 0
  ffFlags : Nat := 0
  spFlags : Nat := 0
  phA : Int := 0
  phB : Int := 0
  control : Nat := 0
  ramp : Nat := 0
deriving DecidableEq, Repr, Inhabited

/-- What the engines keep of one axis (05 R135, R158, R164; 06 R170, R171). -/
structure LoopAxis where
  /-- set-point block, current half; 64 bytes; 06 R170; reset 0 -/
  sp : SpBlock := {}
  /-- set-point block, inactive half; 64 bytes; 05 R137; reset 0 -/
  spNext : SpBlock := {}
  /-- input block flags: bit 0 INPUT_MISSING, bit 1 FROM_B; 05 R138; reset 0 -/
  inFlags : Nat := 0
  /-- input axis block; 05 R138; reset 0 -/
  inp : Bytes := []
  /-- state half read by the program; up to 2 KiB; 05 R135; reset zeros, unlisted bytes 0 (log 11) -/
  state : Bytes := []
  /-- state half written by the program, taken at COMMIT; 05 R156; reset zeros -/
  stateNext : Bytes := []
  /-- which half the program reads; 0 or 1; 05 R156; reset DESIGN CHOICE 0 (log 11) -/
  half : Nat := 0
  /-- output staging block; 64 bytes; 05 R135; reset zeros -/
  outb : Bytes := []
  /-- coefficient block, bank A; 4 KiB; 05 R135; reset zeros -/
  bankA : Bytes := []
  /-- coefficient block, bank B; 4 KiB; 05 R135; reset zeros -/
  bankB : Bytes := []
  /-- active bank; 0 A, 1 B; 06 R174; reset A -/
  bank : Nat := 0
  /-- the Q15 program runs; 06 R177; reset false -/
  q15 : Bool := false
  /-- output staging bytes 0-7 of the run that ended and is not yet committed; 05 R156; reset none -/
  staged : Option Bytes := none
  /-- SAT of the run that ended; 05 R151; reset false -/
  stagedSat : Bool := false
  /-- last committed downlink axis block since the axis was last enabled; 05 R159; reset none -/
  out : Option Bytes := none
  /-- dispatched in this cycle; 05 R134; reset false -/
  dispatched : Bool := false
  /-- COMMIT counted in this cycle; 05 R156; reset false -/
  committed : Bool := false
  /-- abandoned in this cycle with this cause; 05 R159; reset 0 -/
  abandoned : Nat := 0
  /-- DLMISS, SAT and INPUT_MISSING of the last cycle; 05 R164; reset false -/
  dlmiss : Bool := false
  sat : Bool := false
  missing : Bool := false
  /-- FAULTED_DL; 05 R160; reset false -/
  faultedDl : Bool := false
  /-- consecutive misses; 05 R158; reset 0 -/
  misses : Nat := 0
  /-- cause of the last miss; 05 R158; reset 0 -/
  cause : Nat := 0
  /-- LOOP_DL_MISS; 32; 05 R158; reset 0 -/
  missTotal : Nat := 0
  /-- LOOP_SAT; 32; 05 R151; reset 0 -/
  satTotal : Nat := 0
  /-- last dispatch and COMMIT; ns after t0; 05 R158; reset 0 -/
  lastDispatch : Nat := 0
  lastCommit : Nat := 0
deriving DecidableEq, Repr, Inhabited

/-- One loop engine (05 R132, R158). -/
structure Engine where
  /-- engine state; code 0-3; 05 R164; reset POOL -/
  st : EngSt := .pool
  /-- axes it runs, in the order of R134; reset none -/
  axes : List Nat := []
  /-- busy cycles in the last control cycle and in this one; 05 R158; reset 0 -/
  busy : Nat := 0
  busyNow : Nat := 0
  /-- last COMMIT, ns after t0; 05 R158; reset 0 -/
  last : Nat := 0
  /-- latest COMMIT since cleared; 05 R158; reset 0 -/
  latest : Nat := 0
  /-- worst case of R157, ns; reset 0 -/
  worst : Nat := 0
  /-- ECC corrections; 32; 05 R164; reset 0 -/
  ecc : Nat := 0
  /-- scratch region: the cells written since the last dispatch, rising addresses; 60 KiB; 05 R135; reset undefined: an unlisted byte is a free value (log 11) -/
  scratch : List Host.Cell := []
  /-- an engine fault calls for migration at the next boundary; 05 R161; reset false -/
  migrate : Bool := false
  /-- migrations done away from the engine number first assigned; 14 R416; reset none -/
  home : Option Nat := none
deriving DecidableEq, Repr, Inhabited

/-- When results become readable (05 R143): the next issue cycle; per register (X physical 0-63, S 64-95, SE 104-119) and accumulator
the first cycle of a reader. -/
structure Timing where
  cycle : Nat := 0
  reg : Vector Nat 120 := Vector.replicate 120 0
  /-- for MAC and MSU into the accumulator -/
  accMac : Vector Nat 8 := Vector.replicate 8 0
  /-- for EXT, NORM and NORMTO on the accumulator -/
  accExt : Vector Nat 8 := Vector.replicate 8 0
deriving DecidableEq, Repr, Inhabited

/-- Registers a loop program sees while it runs (05 R139). -/
structure LoopRegs where
  x : Vector (BitVec 32) 64 := Vector.replicate 64 0
  sr : Vector (BitVec 32) 32 := Vector.replicate 32 0
  acc : Vector Int 8 := Vector.replicate 8 0
  se : Vector Int 16 := Vector.replicate 16 0
  rotb : Nat := 0
  satw : Nat := 0
  /-- open loop bodies, innermost first: start, end, iterations left, rotation (05 R144) -/
  loops : List (Nat × Nat × Nat × Nat) := []
deriving DecidableEq, Repr, Inhabited

/-- A loop program while it runs (05 R135, R139, R156): registers, the blocks it may access, how it stops. -/
structure Cpu where
  r : LoopRegs := {}
  /-- bundle number -/
  pc : Nat := 0
  q15 : Bool := false
  /-- axis position in its engine, read half, bank, dispatch number -/
  pos : Nat := 0
  half : Nat := 0
  bank : Nat := 0
  serial : Nat := 0
  /-- issue cycles and latencies -/
  tm : Timing := {}
  inp : Bytes := []
  sp : Bytes := []
  outb : Bytes := []
  rd : Bytes := []
  wr : Bytes := []
  coef : Bytes := []
  /-- scratch bytes written since dispatch, rising addresses -/
  scratch : List Host.Cell := []
  /-- 0 runs, 1 COMMIT, 2 protection fault, 3 reserved encoding -/
  stop : Nat := 0
deriving DecidableEq, Repr, Inhabited

structure Loops where
  /-- engines 0-17; 05 R132 -/
  eng : Vector Engine 18 := Vector.replicate 18 {}
  /-- axes 0-127; 05 R133 -/
  ax : Vector LoopAxis 128 := Vector.replicate 128 {}
  /-- registers of the program that ran last, one set per engine; 05 R139; reset 0 -/
  regs : Vector LoopRegs 18 := Vector.replicate 18 {}
  /-- dispatches so far, which index the undefined scratch contents; the model's own; reset 0 (log 11) -/
  dispatches : Nat := 0
  /-- t_dl of this cycle has passed: nothing is dispatched or committed any more; 05 R159; reset false -/
  closed : Bool := false
deriving DecidableEq, Repr, Inhabited

end Sys2Proof.Machine
end

