-- ==== Sys2Proof/Machine/Types/Mailbox.lean ====
section
/-!
DEFINITION. State of the register page, the rings, the entries on their way to them, and the UDP tunnel (chapter 15).
-/

namespace Sys2Proof.Machine

/-- A message the KX96 has to write: an event, telemetry, record or held response (15 R435, R440). -/
structure OutMsg where
  ring : Nat
  opcode : Nat
  cls : Nat
  payload : Bytes
  len : Nat
deriving DecidableEq, Repr, Inhabited

/-- An entry as it lies in a slot, without its check value, which is a function of the rest (15 R435). -/
structure Entry where
  opcode : Nat
  seq : Nat
  flags : Nat
  cls : Nat
  len : Nat
  payload : Bytes
deriving DecidableEq, Repr, Inhabited

/-- A complete message that waits to be validated (15 R437). -/
structure Msg where
  opcode : Nat
  seq : Nat
  cls : Nat
  payload : Bytes
deriving DecidableEq, Repr, Inhabited

/-- One ring block and what Brass keeps of the ring (15 R431-R437). -/
structure Ring where
  /-- BASE_LO; bits 31:12; 15 R431; reset 0 -/
  baseLo : Nat := 0
  /-- BASE_HI; 32; 15 R431; reset 0 -/
  baseHi : Nat := 0
  /-- base taken at ENABLE; 64; 15 R432; reset 0 -/
  base : Nat := 0
  /-- COALESCE; 8; 15 R431; reset 0 -/
  coalesce : Nat := 0
  /-- IRQ_EN; 1; 15 R431; reset 0 -/
  irqEn : Bool := false
  /-- ENABLE; 1; 15 R431; reset 0 -/
  enable : Bool := false
  /-- DEPTH_LOG2; 4; 15 R431; reset 8 -/
  depthLog2 : Nat := 8
  /-- depth exponent taken at ENABLE; 15 R432; reset 8 -/
  depthTaken : Nat := 8
  /-- PROD; 16; 15 R431; reset 0 -/
  prod : Nat := 0
  /-- CONS; 16; 15 R431; reset 0 -/
  cons : Nat := 0
  /-- EXPECT; 16; 15 R431; reset 0 -/
  expect : Nat := 0
  /-- DMA_FAULT; 1; 15 R431; reset 0 -/
  dmaFault : Bool := false
  /-- service stopped by a DMA fault until ENABLE is written 0 then 1; 15 R431; reset false -/
  stopped : Bool := false
  /-- RESEND_LIMIT; 1; 15 R431; reset 0 -/
  resendLimit : Bool := false
  /-- MSG_ABORTED; 1; 15 R431; reset 0 -/
  msgAborted : Bool := false
  /-- OVERFLOW; 1; 15 R431; reset 0 -/
  overflow : Bool := false
  /-- BAD_ENTRY; 1; 15 R431; reset 0 -/
  badEntry : Bool := false
  /-- DROP; 32; 15 R431; reset 0 -/
  drop : Nat := 0
  /-- CRC_ERR; 32; 15 R431; reset 0 -/
  crcErr : Nat := 0
  /-- KX96-produced: entries between CONS and PROD, oldest first; rings 30 and 31: the last response; 15 R432; reset none -/
  buf : List Entry := []
  /-- accepted entries of a message in progress; 15 R436; reset none -/
  part : List Entry := []
  /-- a rejected entry is awaited with RETRY; 15 R436; reset false -/
  await : Bool := false
  /-- rejections of the awaited sequence; 15 R436; reset 0 -/
  rejects : Nat := 0
  /-- a message was abandoned: the next FIRST sets EXPECT; 15 R436; reset false -/
  abandoned : Bool := false
  /-- the FIRST entry of the message being rejected had been accepted, with its opcode and sequence; 15 R436; reset none -/
  firstSeen : Option (Nat × Nat) := none
  /-- the complete message not yet validated; 15 R437; reset none -/
  msg : Option Msg := none
  /-- rings 30 and 31: EXPECT held at the doorbell; 15 R434; reset 0 -/
  expectAtBell : Nat := 0
  /-- sequence of the next event, telemetry or record entry; 16; 15 R436; reset 0 -/
  nextSeq : Nat := 0
  /-- the next entry written carries LOST_BEFORE; 15 R440; reset false -/
  lost : Bool := false
  /-- entries written and not yet signalled; 15 R431; reset 0 -/
  unsignalled : Nat := 0
  /-- undelivered entries held back for a later attachment or space; 15 R432, R445; reset none -/
  held : List Entry := []
deriving DecidableEq, Repr, Inhabited

structure Mailbox where
  /-- the 32 ring blocks; 15 R431; reset as each field -/
  rings : Vector Ring 32 := Vector.replicate 32 {}
  /-- INT_STATUS; 32; 15 R431; reset 0 -/
  intStatus : Nat := 0
  /-- INT_MASK; 32; 15 R431; reset 0xFFFF_FFFF -/
  intMask : Nat := 0xFFFFFFFF
  /-- ERR_STATUS; 5; 15 R431; reset 0 -/
  errStatus : Nat := 0
  /-- ERR_MASK; 5; 15 R431; reset 0x1F -/
  errMask : Nat := 0x1F
  /-- WB_ADDR_LO bits 31:8; 24; 15 R431; reset 0 -/
  wbLo : Nat := 0
  /-- WB_EN; 1; 15 R431; reset 0 -/
  wbEn : Bool := false
  /-- WB_ADDR_HI; 32; 15 R431; reset 0 -/
  wbHi : Nat := 0
  /-- the write-back area: PROD, CONS and STATUS per ring; 8 bytes each; 15 R431; reset 0 (log 6) -/
  wb : Vector (Nat × Nat × Nat) 32 := Vector.replicate 32 (0, 0, 0)
  /-- MSI-X table, 132 words; 32 each; 15 R430; reset 0 (log 6) -/
  msix : Vector Nat 132 := Vector.replicate 132 0
  /-- MSI-X pending-bit array; 33; 15 R430; reset 0 (log 6) -/
  pba : Nat := 0
  /-- MSI-X vectors issued to the host, newest first; output; 15 R430; reset none -/
  irqOut : List Nat := []
  /-- value returned by the last register read; output; 15 R431; reset 0 -/
  rdata : Nat := 0
  /-- entries still to be written to their rings, oldest first; 15 R440; reset none -/
  out : List OutMsg := []
  /-- event dropped counts LINE_EVT_DROP and TTRIG_DROP; 32 each; 02 R62, 03 R91; reset 0 -/
  lineEvtDrop : Nat := 0
  ttrigDrop : Nat := 0
  /-- tunnel: session value, 0 when never opened; 32; 15 R444; reset 0 -/
  session : Nat := 0
  /-- tunnel open; 15 R445; reset false -/
  tunOpen : Bool := false
  /-- tunnel sessions opened so far; 15 R445; reset 0 -/
  sessions : Nat := 0
  /-- datagrams discarded; 32; 15 R443; reset 0 -/
  tunDiscard : Nat := 0
  /-- per ring: sendings of the oldest unacknowledged entry; 15 R445; reset 0 -/
  tunTries : Vector Nat 32 := Vector.replicate 32 0
  /-- per ring: local time of its last sending; ns; 15 R445; reset 0 -/
  tunSent : Vector Nat 32 := Vector.replicate 32 0
  /-- tunnel datagrams sent, newest first; output; 15 R444; reset none -/
  tunOut : List Bytes := []
  /-- class P counters SEGC_MISS, SEGC_EVICT, WSC_MISS, DRAM_SKEW, PLAN_STEAL, PLAN_IDLE; 32 each; 01 R26; reset 0 -/
  classP : Vector Nat 6 := Vector.replicate 6 0
deriving DecidableEq, Repr, Inhabited

end Sys2Proof.Machine
end

