-- ==== Sys2Proof/Machine/Types/Metro.lean ====
section
/-!
DEFINITION. State of the metrology die and of Brass's copy of its stream (chapter 12).
-/

namespace Sys2Proof.Machine

/-- State of the metrology partition (12 R381, R388). -/
inductive MetroSt where
  | run | adjust | fwInvalid | noContact
deriving DecidableEq, Repr, Inhabited

/-- Parameters of a channel (12 R386); floating-point values are their 64-bit words. -/
structure WParams where
  enable : Nat := 0
  max : Nat := 0
  min : Nat := 0
  e : Nat := 0
  kSpan : Nat := 0
  kLin : Nat := 0
  zAdj : Int := 0
  zeroRange : Nat := 200
  fc : Nat := 25
  tSettle : Nat := 20
  nMin : Nat := 96
  stab : Nat := 5
  tWmax : Nat := 500
  tZmax : Nat := 900
  tChkmax : Nat := 600
  chkPeriod : Nat := 60
deriving DecidableEq, Repr, Inhabited

/-- A weigh window (12 R371, R372). -/
structure Window where
  item : Nat
  tOpen : Int
  flags : Nat
deriving DecidableEq, Repr, Inhabited

/-- One channel W0-W7 (12 R366-R376). -/
structure WChan where
  /-- parameters in force; 12 R386; reset the defaults -/
  par : WParams := {}
  /-- parameters staged in ADJUST; 12 R382; reset none -/
  staged : Option WParams := none
  /-- z_adj and k_span were staged by ADJ_ZERO and ADJ_SPAN; 12 R384; reset false -/
  adjZero : Bool := false
  adjSpan : Bool := false
  /-- filter state; 12 R367; reset none -/
  filt : List Int := []
  /-- filtered samples of the last 1 s, and of an open window, newest first: plant instant and value; 12 R367, R371; reset none -/
  samples : List (Int × Int) := []
  /-- the zero in force z; 12 R374; reset z_adj -/
  zero : Rat := 0
  /-- local time of the last accepted zero; 12 R373; reset none -/
  zeroAt : Option Nat := none
  /-- ZERO_OVERDUE; 12 R374; reset true -/
  zeroOverdue : Bool := true
  /-- local time of the last passed self-check; 12 R373; reset none -/
  chkAt : Option Nat := none
  /-- CHECK_OVERDUE; 12 R373; reset DESIGN CHOICE true (log 15) -/
  chkOverdue : Bool := true
  /-- the last self-check failed; 12 R376; reset false -/
  chkFailed : Bool := false
  /-- self-check in progress since; 12 R376; reset none -/
  checking : Option Nat := none
  /-- window open; 12 R371; reset none -/
  win : Option Window := none
  /-- instant of the last NEXT_OPEN (NEVER is the greatest wide time); 12 R369, R376; reset none received -/
  nextOpen : Option Int := none
  /-- SIGNAL_FAULT of the latest sample; 12 R375; reset false -/
  sigFault : Bool := false
  /-- last record number; 64; 12 R388; reset 0 -/
  lastRec : Nat := 0
deriving DecidableEq, Repr, Inhabited

/-- The metrology die: only its own commands and its own events change it (12 R365, 01 R12). -/
structure Metro where
  /-- state of the partition; 12 R381; reset as after power-up with the die unpowered: no contact (log 15) -/
  st : MetroSt := .noContact
  /-- the die is powered; 12 R364; reset false -/
  power : Bool := false
  /-- SEAL_N low; pin; 12 R381; reset false -/
  sealLow : Bool := false
  chan : Vector WChan 8 := Vector.replicate 8 {}
  /-- sequence of the last message accepted; 16; 12 R370; reset none -/
  rxSeq : Option Nat := none
  /-- plant time of the last TICK and its local time; 12 R369; reset none -/
  tick : Option (Int × Nat) := none
  /-- the latest sample found VEXC within its operating range; 18 R489; reset false -/
  excOk : Bool := false
  /-- boot count; 32; 12 R378; reset 0 -/
  boots : Nat := 0
  /-- index of the next record; 32; 12 R377; reset 0 -/
  nextRec : Nat := 0
  /-- chain of the last record; 8 bytes; 12 R378; reset none -/
  chain : Bytes := []
  /-- batch in progress: records, first record number, chain before, local time of the first; 12 R379; reset none -/
  batch : Option (Nat × Nat × Bytes × Nat) := none
  /-- event counter; 32; 12 R384; reset 0 -/
  events : Nat := 0
  /-- audit trail, oldest first, at most 8 192 entries; 12 R384; reset none -/
  audit : List Bytes := []
  /-- firmware version in force and digest bytes 0-7; 12 R385; reset 0 (log 15) -/
  fwMajor : Nat := 0
  fwMinor : Nat := 0
  fwDigest : Bytes := []
  /-- staged firmware: version and digest; 12 R386; reset none -/
  fwStaged : Option (Nat × Nat × Bytes) := none
  /-- service port response bytes, newest first; output; 12 R386; reset none -/
  svcOut : List Bytes := []
  /-- ORPHAN_CLOSE, CHK_ABANDON; 32 each; 12 R388; reset 0 -/
  orphan : Nat := 0
  abandon : Nat := 0
deriving DecidableEq, Repr, Inhabited

/-- What the control die holds of weighing: the two directions of the link, and what Brass keeps (12 R365, R369, R380). -/
structure MetroLink where
  /-- local time of its last output; 12 R389; reset 0 -/
  heard : Nat := 0
  /-- sequence of the next message the control die sends; 16; 12 R369; reset 0 -/
  txSeq : Nat := 0
  /-- messages on the way to the die, oldest first; 12 R369; reset none -/
  link : List Bytes := []
  /-- the stream from the die not yet taken by Brass: kind (0 record, 1 batch, 2 event, 3 status) and bytes, oldest first; 12 R365; reset none -/
  stream : List (Nat × Bytes) := []
  /-- Brass: records and batch records held, oldest first, with whether delivered: ring, entry opcode, number, bytes; 12 R380; reset none -/
  held : List (Nat × Nat × Nat × Bytes × Bool) := []
  /-- REC_LOST; 32; 12 R380; reset 0 -/
  recLost : Nat := 0
  /-- Brass's copy of what the die reported last; 12 R388; reset as the die (log 15) -/
  copy : Metro := {}
  /-- channels enabled in the metrology parameters, as Duhorn last read them: 8; 12 R387; reset 0 -/
  enabled : Nat := 0
deriving DecidableEq, Repr, Inhabited

end Sys2Proof.Machine
end

