-- ==== Sys2Proof/Machine/Types/Star.lean ====
section
/-!
DEFINITION. State of the cell star: channels, slots, claims, forwarding and acyclic transfers (chapter 04).
-/

namespace Sys2Proof.Machine

/-- Channel state (04 R120; codes R130). -/
inductive ChSt where
  | unused | down | lock | claiming | ranging | admitting | active | excluded
deriving DecidableEq, Repr, Inhabited

/-- One channel of one port (04 R115, R120, R130). -/
structure Chan where
  /-- channel state; code 0-7; 04 R120; reset UNUSED -/
  st : ChSt := .unused
  /-- state decided for the next boundary; 04 R120, example of R125; reset none -/
  next : Option ChSt := none
  /-- block lock held and hi_ber clear for 1 ms; 04 R94; reset false -/
  linkUp : Bool := false
  /-- one-way delay, 1/64 ns; 0xFFFF not measured; 16; 04 R101; reset 0xFFFF -/
  delay : Nat := 0xFFFF
  /-- cycles counted in the present state; 04 R120; reset 0 -/
  count : Nat := 0
  /-- consecutive cycles without a valid uplink; 04 R120; reset 0 -/
  silent : Nat := 0
  /-- a valid uplink has arrived on the channel in this cycle; 04 R120; reset false -/
  got : Bool := false
  /-- delay samples taken in RANGING; 1/64 ns; 04 R121; reset none -/
  samples : List Nat := []
  /-- cycles before a ranging retry; 04 R120; reset 0 -/
  retry : Nat := 0
  /-- echo number of the last ECHO_REQ; 16; 04 R98; reset 0 -/
  echo : Nat := 0
  /-- local time the outstanding ECHO_REQ left; 04 R121; reset none -/
  echoAt : Option Nat := none
  /-- cycle numbers of the frames blocked in the last 1 024 cycles, newest first; 04 R115; reset none -/
  blocked : List Nat := []
  /-- the channel has been DOWN this many cycles; 04 R125; reset 0 -/
  downFor : Nat := 0
  /-- RX_OK, CRC_ERR, HDR_ERR, DRIFT_WARN, DRIFT_BLOCK, COPY_MISMATCH, ACYC_RETRY, ACYC_FAIL, LINK_DOWN; 32 each; 04 R130; reset 0 -/
  cnt : Vector Nat 9 := Vector.replicate 9 0
  /-- CLAIM_OPEN stands in this cycle's cycle-start; 04 R124; reset false -/
  claimOpen : Bool := false
  /-- an offset has been measured since the counters were cleared; 04 R130; reset false -/
  offSeen : Bool := false
  /-- last, minimum and maximum offset; signed 1/64 ns; 04 R130; reset 0 -/
  offLast : Int := 0
  offMin : Int := 0
  offMax : Int := 0
deriving DecidableEq, Repr, Inhabited

/-- An axis block of an uplink (04 R104). -/
structure AxisIn where
  pos : Int := 0
  cur : Int := 0
  status : Nat := 0
  aux : Nat := 0
deriving DecidableEq, Repr, Inhabited

/-- An axis block of a downlink (04 R106). -/
structure AxisOut where
  control : Nat := 0
  cmd1 : Int := 0
  cmd2 : Int := 0
deriving DecidableEq, Repr, Inhabited

/-- An acyclic block on its way to a node (04 R126, R127). -/
structure AcycBlk where
  seq : Nat
  data : Bytes
  /-- sendings so far -/
  tries : Nat := 0
  /-- cycle of the last sending -/
  at' : Nat := 0
  /-- the next downlink with room carries it -/
  due : Bool := true
deriving DecidableEq, Repr, Inhabited

/-- An acyclic transfer of the KX96 to a node (04 R126-R128). -/
structure Transfer where
  opcode : Nat
  ring : Nat
  seq : Nat
  id : Nat
  /-- blocks still to be acknowledged, oldest first -/
  blocks : List AcycBlk
  /-- local time by which the response must have begun -/
  deadline : Nat
  /-- the response has begun, and what has been received of it -/
  begun : Bool := false
  got : Bytes := []
  total : Nat := 0
deriving DecidableEq, Repr, Inhabited

/-- A pending node trigger (04 R107): trigger number and its plant instant. -/
structure NodeTrig where
  trig : Nat
  when : Int
  cancel : Bool := false
  /-- slot of the line event, or 1 024 plus the slot of the time trigger -/
  src : Nat
  /-- a downlink that completes at the node at least 1 µs before the instant has carried it -/
  sent : Bool := false
  /-- it was carried only by a downlink too late for that -/
  late : Bool := false
  /-- its event has fired and no downlink has carried it yet: the next one does -/
  fired : Bool := false
deriving DecidableEq, Repr, Inhabited

/-- What the star keeps of one node (04 R103-R131). -/
structure Node where
  /-- channels A and B; 04 R120 -/
  ch : Vector Chan 2 := Vector.replicate 2 {}
  /-- slot held or granted; 8; 04 R97; reset none -/
  slot : Option Nat := none
  /-- the slot was granted to a claim; 04 R124; reset false -/
  claimed : Bool := false
  /-- serial number of the grant; 32; 04 R129; reset 0 -/
  serial : Nat := 0
  /-- CLAIM_REFUSED holds this many further cycles; 04 R124; reset 0 -/
  refused : Nat := 0
  /-- a matching claim waits for a free slot; 04 R124; reset false -/
  claimWait : Option Nat := none
  /-- cycle and sequence of the last CLAIM used; 04 R100; reset none -/
  claimSeq : Option (Nat × Nat) := none
  /-- the node has reached ACTIVE since the cold start; 04 R122; reset false -/
  wasActive : Bool := false
  /-- the accepted copy of the cycle: channel, acceptance instant, frame; 04 R100; reset none -/
  copy : Option (Nat × Nat × Bytes) := none
  /-- node state code of the last uplink accepted; 04 R103; reset 0 -/
  state : Nat := 0
  /-- reception byte of the last uplink; 04 R103; reset 0 -/
  reception : Nat := 0
  /-- sample counter of the last two accepted uplinks; 16; 04 R104; reset 0 -/
  sample : Nat := 0
  samplePrev : Nat := 0
  /-- node fault code; 16; 04 R103; reset 0 -/
  fault : Nat := 0
  /-- axis blocks of the last accepted uplink; 04 R104; reset 0 -/
  axes : List AxisIn := []
  /-- t_in of the last two accepted uplinks and the axis blocks of the one before; plant ns; 09 R285; reset 0 -/
  tin : Int := 0
  tinPrev : Int := 0
  axesPrev : List AxisIn := []
  /-- DOWNLINK command to send until cleared; 0 RUN, 1 STOP, 2 RESET_FAULT; 04 R105; reset RUN -/
  command : Nat := 0
  /-- the node is present in an accepted uplink this cycle; 05 R134; reset false -/
  fresh : Bool := false
  /-- pending node triggers, nearest first; 04 R107; reset none -/
  trigs : List NodeTrig := []
  /-- request outstanding; 04 R128; reset none -/
  transfer : Option Transfer := none
  /-- next sequence of a downlink acyclic block; 16; 04 R126; reset 0 -/
  txSeq : Nat := 0
  /-- last uplink acyclic block accepted in order; 16; 04 R127; reset 0 -/
  rxSeq : Nat := 0
  /-- next transfer ID; 16; 04 R126; reset 0 -/
  nextId : Nat := 0
deriving DecidableEq, Repr, Inhabited

structure Star where
  /-- the star runs: cycle-starts are sent; 04 R119; reset false -/
  run : Bool := false
  /-- a cold start is in progress and the local time its 2 s end; 04 R119; reset none -/
  coldEnd : Option Nat := none
  /-- the cycle-starts of this cycle carry STEPPED; 04 R101; reset false -/
  stepped : Bool := false
  /-- nodes 1-24; 04 R108 -/
  node : Vector Node 24 := Vector.replicate 24 {}
  /-- frames sent in the present cycle: type, node, channel, offset from t0 in ns, bytes; output, newest first; 04 R97; reset none -/
  sent : List (Nat × Nat × Nat × Nat × Bytes) := []
deriving DecidableEq, Repr, Inhabited

end Sys2Proof.Machine
end

