-- ==== Sys2Proof/Machine/Types/Pair.lean ====
section
/-!
DEFINITION. State of the pairing logic and of the self-test slicer (chapters 13, 14).
-/

namespace Sys2Proof.Machine

/-- Pair state (13 R397; codes R401). -/
inductive PairSt where
  | wait | primary | standby | silent | isolated
deriving DecidableEq, Repr, Inhabited

/-- Acyclic transfers on the pair link (13 R402; 04 R126, R127). -/
structure PairTx where
  /-- blocks not yet acknowledged, oldest first, each after its transfer ID -/
  blocks : List (Nat × AcycBlk) := []
  /-- next sequence, transfer ID and serial number -/
  seq : Nat := 0
  id : Nat := 0
  serial : Nat := 0
deriving DecidableEq, Repr, Inhabited

/-- A token swap (13 R408): 0 pending, 1 the old holder waits for the new, 2 this unit is the new holder, 3 the old holder waits to
show PRIMARY again. -/
structure Swap where
  stage : Nat
  /-- cycle count of s -/
  cyc : Nat
  /-- local time at which the 20 ms end -/
  endAt : Nat := 0
  /-- output pairs to be confirmed; the publishing sequences of the four lines at the change -/
  pairs : Nat := 0
  pubs : List Nat := []
deriving DecidableEq, Repr, Inhabited

structure Pair where
  /-- pair state; code 0-4, 0xFF unpaired; 13 R397; reset none (unpaired) -/
  st : Option PairSt := none
  /-- last valid partner pulse: code 0 WAIT, 1 STANDBY, 2 PRIMARY, and its local time; 13 R394; reset none -/
  pulse : Option (Nat × Nat) := none
  /-- heartbeat alive; 13 R394; reset false -/
  heart : Bool := false
  /-- partner state last seen in a MIRROR frame; 13 R411; reset 0xFF (log 16) -/
  partner : Nat := 0xFF
  /-- partner's flags and device state of the last MIRROR; 13 R401; reset 0 -/
  pFlags : Nat := 0
  pDev : Nat := 0
  /-- pair link OPEN; 13 R397; reset false -/
  link : Bool := false
  /-- cycles without a valid MIRROR; 13 R397; reset 0 -/
  linkMiss : Nat := 0
  /-- a MIRROR frame was accepted in this cycle; 13 R397; reset false -/
  gotMirror : Bool := false
  /-- lanes up, mask; 2; 13 R411; reset 0 -/
  lanes : Nat := 0
  /-- PARTNER_LOST; 13 R397; reset false -/
  partnerLost : Bool := false
  /-- HANDOVER shown; 13 R401; reset false -/
  handover : Bool := false
  /-- CHANNEL_QUIET; 13 R397; reset false -/
  quiet : Bool := false
  /-- downlinks are sent; 13 R397; reset false -/
  downlinks : Bool := false
  /-- PAIR_PATH latched; 13 R405; reset false -/
  pathLatched : Bool := false
  /-- per node: consecutive cycles in which the own copy was reported invalid; 13 R405; reset 0 -/
  pathRun : Vector Nat 24 := Vector.replicate 24 0
  /-- consecutive matched cycles, per-node consecutive differing cycles; 13 R404; reset 0 -/
  matched : Nat := 0
  differ : Vector Nat 24 := Vector.replicate 24 0
  /-- divergences, PAIR_PATH total, takeovers, swaps completed; 32 each; 13 R411; reset 0 -/
  cnt : Vector Nat 4 := Vector.replicate 4 0
  /-- local time of the last successful swap; 13 R409; reset none -/
  swapAt : Option Nat := none
  /-- x and d of R398; signed 1/64 ns; 13 R411; reset 0 -/
  x : Int := 0
  d : Int := 0
  /-- own last partner arrival offset o_s; signed 1/64 ns; 13 R398; reset 0 -/
  arrival : Int := 0
  /-- whole cycles, in ns, by which the primary's plant time is ahead of this unit's in WAIT; 13 R398; reset 0 -/
  ahead : Int := 0
  /-- local time of the last accepted PAIR_SYNC; 13 R397; reset none -/
  syncAt : Option Nat := none
  /-- absence run; presence seen since entry; 13 R406, R397; reset 0, false -/
  absence : Nat := 0
  presence : Bool := false
  /-- cycles in ISOLATED; ISOLATED entered from SILENT; 13 R397; reset 0, false -/
  isoFor : Nat := 0
  isoSilent : Bool := false
  /-- local time at which WAIT was entered, and at which PAIR_MISMATCH was posted; 13 R397; reset none -/
  waitAt : Option Nat := none
  mismatchAt : Option Nat := none
  /-- the digests are known to be equal; 13 R393; reset none (not compared) -/
  digestsEq : Option Bool := none
  /-- this unit's digest of its image, bytes 2 and 4-11 of the pair record taken as zero; 64 bytes; 13 R393; reset none -/
  digest : Bytes := []
  /-- swap in progress; 13 R408; reset none -/
  swap : Option Swap := none
  /-- output pairs the old token holder keeps on during a swap, mask; 8; 13 R408; reset 0 -/
  keep : Nat := 0
  /-- partner's output-pair states and read-back as mirrored; 13 R401; reset none -/
  pOut : List Nat := []
  pBack : Nat := 0
  /-- partner's line-state records as mirrored; 13 R401; reset none -/
  pLines : List Bytes := []
  /-- partner's per-node downlink digests and state CRCs, own ones, of the cycle compared; 13 R401, R404; reset none -/
  pDigest : List (Nat × Nat) := []
  oDigest : List (Nat × Nat) := []
  /-- partner's copies mask; 13 R401; reset 0 -/
  pCopies : Nat := 0
  /-- partner's class and its stamp per arm for the present period; 13 R403; reset none -/
  pClass : Vector (Option (Nat × Nat)) 12 := Vector.replicate 12 none
  /-- partner's class per arm that governs until the next effective boundary; 13 R403; reset none -/
  pGov : Vector (Option Nat) 12 := Vector.replicate 12 none
  /-- a state transfer is awaited; contents received of it; 13 R402; reset false, none -/
  transfer : Bool := false
  stateIn : Bytes := []
  /-- acyclic transfers to the partner; 13 R401, R402; reset none -/
  tx : PairTx := {}
  /-- last acyclic block of the partner accepted in order, transfer in progress: bytes, total; 13 R401; reset 0, none -/
  rxSeq : Nat := 0
  rxPart : Option (Bytes × Nat) := none
  /-- mirrored commands and commits received that wait for their boundary: its cycle, service, opcode, data; 13 R402; reset none -/
  items : List (Nat × Nat × Nat × Bytes) := []
  /-- divergence found: node, or 0xFF for a mirrored item, and the cycles matched before; 13 R403, R404; reset none -/
  diverged : Option (Nat × Nat) := none
  /-- matched cycles of the last run that ended; 13 R410; reset 0 -/
  lastMatched : Nat := 0
  /-- the unit is to start alone at the boundary; 13 R397; reset false -/
  alone : Bool := false
  /-- local time of the last uplink forwarded per node; 13 R405; reset none -/
  pSeen : Vector (Option Nat) 24 := Vector.replicate 24 none
  /-- nodes to which a downlink was sent in this cycle and in the cycle before, masks; 24; 13 R405; reset 0 -/
  downNow : Nat := 0
  downPrev : Nat := 0
deriving DecidableEq, Repr, Inhabited

/-- Result of a slice (14 R425). -/
structure BlockTest where
  st : Nat := 1
  result : Nat := 0
  fail : Nat := 0
  passes : Nat := 0
  fails : Nat := 0
  abandons : Nat := 0
  /-- local time of the last PASS -/
  passAt : Option Nat := none
  sweep : Nat := 0
  /-- has a result in the present sweep -/
  done : Bool := false
deriving DecidableEq, Repr, Inhabited

/-- A slice running or queued (14 R415, R428). -/
structure Slice where
  kind : Nat
  inst : Nat
  /-- local time since which it waits -/
  since : Nat
  /-- started by STEST_RUN -/
  outOfTurn : Bool := false
  /-- local time of the start; none: queued -/
  start : Option Nat := none
  /-- an RX_MISMATCH called for it -/
  mismatch : Bool := false
  /-- the block was FAILED when it started -/
  wasFailed : Bool := false
deriving DecidableEq, Repr, Inhabited

structure Sterling where
  /-- suspended; 14 R428; reset false -/
  suspended : Bool := false
  /-- sweep number; 32; 14 R427; reset 0 -/
  sweep : Nat := 0
  /-- local time at which the sweep began; 14 R415; reset none -/
  begun : Option Nat := none
  /-- the sweep has ended, and the local time at which the next begins; 14 R415; reset none -/
  nextAt : Option Nat := none
  /-- slices of the sweep that have fallen due; 14 R415; reset 0 -/
  next : Nat := 0
  /-- per kind 1-7 and instance, the blocks tested: kind, instance, figures; 14 R427; reset none listed (NONE) -/
  blocks : List (Nat × Nat × BlockTest) := []
  /-- slices running and queued, in the order in which they began to wait; 14 R415; reset none -/
  slices : List Slice := []
  /-- STEST_SKIP, STEST_SWEEP_LATE, migrations, abandoned, failures; 32 each; 14 R427; reset 0 -/
  cnt : Vector Nat 5 := Vector.replicate 5 0
  /-- slices of the sweep passed, failed, skipped; 14 R426; reset 0 -/
  passed : Nat := 0
  failed : Nat := 0
  skipped : Nat := 0
  /-- SRAM bank that serves as spare; 14 R419; reset spare 48 -/
  spareBank : Nat := 48
  /-- lane held: node index, channel; 14 R420; reset none -/
  lane : Option (Nat × Nat) := none
  /-- channels counted ACTIVE for R122 until a local time: node index, channel, time; 14 R420; reset none -/
  excused : List (Nat × Nat × Nat) := []
  /-- per lane (channel × 24 + node - 1): consecutive cycles in which it was clean, at most 1 024, and the sum of its four error counts; 14 R420; reset 0 -/
  clean : Vector (Nat × Nat) 48 := Vector.replicate 48 (0, 0)
  /-- analogue instances whose twin replaces the receiver at the next boundary; 14 R422; reset none -/
  swapTwin : List Nat := []
  /-- planned migration copied after t_dl: from, to; 14 R416; reset none -/
  copied : Option (Nat × Nat) := none
  /-- metrology checks reported as abandoned when last looked at; 14 R424; reset 0 -/
  metroAbandon : Nat := 0
deriving DecidableEq, Repr, Inhabited

end Sys2Proof.Machine
end

