-- ==== Sys2Proof/Machine/Types/Plan.lean ====
section
/-!
DEFINITION. State of the solver array, the planner, the zones and the profile unit (chapters 07, 08, 09).
-/

namespace Sys2Proof.Machine

/-- Block state in service (05 R164, 07 R226, 14 R427). -/
inductive BlockSt where
  | pool | inService | underTest | failed
deriving DecidableEq, Repr, Inhabited

/-- The visible iterate of an IK job (07 R211, R214): its number, joint words, residual words, the last s and λ² words, and the flags of
the result so far (R225 byte 7). -/
structure IkState where
  k : Nat := 0
  q : List Int := []
  ePos : Int := 0
  eRot : Int := 0
  pivot : Int := 0
  lam2 : Int := 0
  flags : Nat := 0
  /-- the iteration is over -/
  ended : Bool := false
deriving DecidableEq, Repr, Inhabited

/-- A class P job (07 R197, R209, R225). -/
structure Job where
  id : Nat
  type : Nat
  arm : Nat
  host : Bool
  flags : Nat := 0
  cap : Nat := 0
  inputs : Bytes := []
  tag : Nat := 0
  /-- local deadline -/
  deadline : Nat := 0
  submitted : Nat := 0
  /-- tile it runs on; none: waiting -/
  tile : Option Nat := none
  /-- visible iterate; none before iterate 0 (R214) -/
  iterate : Option IkState := none
  /-- joint words an IK job starts from (R219), and the tool record, payload and its place at the start (R222) -/
  seed : List Int := []
  load : Option (Bytes × Int × Int × Int × Int) := none
  /-- final status and result once complete, with the local time of completion (R227) -/
  done : Option (Nat × Bytes × Nat) := none
  /-- segment that owns a planner job -/
  seg : Option Nat := none
  /-- WARM_HIT and WARM_MISMATCH as result flags (R219) -/
  warm : Nat := 0
deriving DecidableEq, Repr, Inhabited

/-- What the solver keeps of one arm (07 R203, R208, R221, R226). -/
structure SolArm where
  /-- tool record; 96 bytes; 07 R203; reset zeros -/
  tool : Bytes := []
  /-- payload mass, MAS32; 07 R222; reset 0 kg -/
  payload : Int := 0
  /-- payload position, 3 × LEN32; 07 R222; reset 0 -/
  payPos : Int × Int × Int := (0, 0, 0)
  /-- tool joints present, mask over the model's records; 07 R221; reset 0 -/
  present : Nat := 0
  /-- structure signature; 64; 07 R217; reset 0 -/
  signature : Nat := 0
  /-- SOLV_OVF; 32; 07 R200; reset 0 -/
  ovf : Nat := 0
  /-- consecutive stale cycles, and the total; 07 R208; reset 0 -/
  stale : Nat := 0
  staleTotal : Nat := 0
  /-- WSC_MISS; 32; 07 R219; reset 0 -/
  wscMiss : Nat := 0
  /-- parts of the class C job completed in this cycle: 0, 1 or 2; 07 R206; reset 0 -/
  part : Nat := 0
  /-- a part saturated; 07 R208; reset false -/
  overflow : Bool := false
  /-- warm-start cache: index and record, 96 bytes; 512; 07 R220; reset none -/
  cache : List (Nat × Bytes) := []
deriving DecidableEq, Repr, Inhabited

/-- One tile (07 R196, R226). -/
structure Tile where
  st : BlockSt := .pool
  /-- arms whose class C jobs it runs, in image order; 07 R207; reset none -/
  arms : List Nat := []
  /-- class C completion of the last cycle, latest since cleared, class P busy cycles; 07 R226; reset 0 -/
  last : Nat := 0
  latest : Nat := 0
  busyP : Nat := 0
  ovf : Nat := 0
  /-- the class C jobs of this cycle have started; 07 R207; reset false -/
  started : Bool := false
  /-- the class P job it holds is suspended; 07 R210; reset false -/
  suspended : Bool := false
  /-- a tile fault is due at the next boundary; 07 R223; reset false -/
  fault : Bool := false
  /-- local time since which it runs a class P job; 07 R226; reset none -/
  pSince : Option Nat := none
  /-- ns of class P work in this cycle; 07 R226; reset 0 -/
  busyNow : Nat := 0
  /-- class C completion in this cycle, ns after t0; 07 R226; reset 0 -/
  cNow : Nat := 0
deriving DecidableEq, Repr, Inhabited

structure Solver where
  arm : Vector SolArm 12 := Vector.replicate 12 {}
  tile : Vector Tile 9 := Vector.replicate 9 {}
  /-- class P jobs waiting, running and complete but unread, ascending ID; 07 R209; reset none -/
  jobs : List Job := []
  /-- next job ID; 16; 07 R225; reset 0 -/
  nextJob : Nat := 0
  /-- the degraded placement is in force; 07 R223; reset false -/
  degraded : Bool := false
deriving DecidableEq, Repr, Inhabited

/-- Pick state (08 R233). -/
inductive PickSt where
  | pending | planned | active | done | missed | cancelled
deriving DecidableEq, Repr, Inhabited

/-- A pick (08 R232, R233). -/
structure Pick where
  id : Nat
  mask : Nat
  line : Nat
  priority : Bool
  reassign : Bool
  pItem : Int
  pLast : Int
  payload : Int
  /-- the request as received, 72 bytes -/
  raw : Bytes
  tag : Nat
  st : PickSt := .pending
  /-- arm chosen and grip position -/
  arm : Option Nat := none
  grip : Int := 0
  /-- cancelled while a segment is COMMITTED (R260) -/
  cancelling : Bool := false
  /-- arms not eligible after a stop (R245) -/
  barred : Nat := 0
  /-- records of the plan not yet proposed (R238): kind, line, start, span, flags, delay, then end positions and derivatives -/
  todo : List (List Int) := []
deriving DecidableEq, Repr, Inhabited

/-- Segment state (08 R259). -/
inductive SegSt where
  | proposed | committed | squashed | retired
deriving DecidableEq, Repr, Inhabited

/-- A segment in the pool, or a host table record (08 R235, 09 R273). -/
structure Seg where
  id : Nat
  pred : Option Nat
  owner : Nat
  lineSpan : Bool
  line : Nat
  endRest : Bool
  checkpoint : Bool
  cls : Nat
  start : Int
  span : Int
  tag : Nat
  /-- axis end positions and derivatives -/
  axes : List (Int × Int)
  st : SegSt := .proposed
  cause : Nat := 0
  cut : Bool := false
  /-- assumption bits that held when last judged (R240) -/
  held : Nat := 0
  commitPos : Int := 0
  vAssumed : Int := 0
  sigAssumed : Nat := 0
  /-- lines it depends on, each with the velocity assumed and the presets applied to it at proposal (R240 bits 0, 1) -/
  lines : List (Nat × Int × Nat) := []
  /-- predicted start, plant time -/
  startAt : Int := 0
  /-- tick at which it was freed -/
  freedTick : Nat := 0
  /-- its solver jobs: those not ended, and of those that ended whether all ended well (R240 bit 8) -/
  solver : Option Bool := none
  jobsLeft : Nat := 0
  /-- the last segment of its pick (R242); a recovery segment (R246) -/
  final : Bool := false
  recovery : Bool := false
deriving DecidableEq, Repr, Inhabited

/-- A zone reservation (08 R251, R252). -/
structure Resv where
  zone : Nat
  arm : Nat
  seg : Nat
  lo : Int
  hi : Int
  /-- the arbiter granted it -/
  granted : Bool := false
  /-- granted at the present arbitration step -/
  now : Bool := false
  /-- state of its segment: PROPOSED, COMMITTED, or past: RETIRED, or SQUASHED or CUT and kept (R245, R252) -/
  st : SegSt := .proposed
  /-- kept until its arm is at rest (R245) -/
  kept : Bool := false
deriving DecidableEq, Repr, Inhabited

/-- Per zone and arm: loss count and privilege (08 R253-R255). -/
structure Loss where
  count : Nat := 0
  /-- cycle count of the tick of privilege -/
  priv : Option Nat := none
deriving DecidableEq, Repr, Inhabited

/-- What a planner tick sees of the other blocks: the boundary that began it (08 R228). -/
structure PlanSnap where
  cyc : Option Nat := none
  plant : Int := 0
  line : Vector (LineSt × Est) 4 := Vector.replicate 4 (.idle, {})
  cls : Vector Nat 12 := Vector.replicate 12 0
  /-- arm state, and a fault latched -/
  arm : Vector (ArmSt × Bool) 12 := Vector.replicate 12 (.disabled, false)
  presets : Vector Nat 4 := Vector.replicate 4 0
deriving DecidableEq, Repr, Inhabited

structure Planner where
  /-- picks held, in order of acceptance; 1 024; 08 R233; reset none -/
  picks : List Pick := []
  /-- cancels validated since the last tick, by pick ID; 08 R228; reset none -/
  cancels : List Nat := []
  /-- segment pool; 256; 08 R237; reset none -/
  segs : List Seg := []
  /-- next planner segment ID; 31; 08 R235; reset 0 -/
  nextSeg : Nat := 0
  /-- reservations; 1 024; 08 R251; reset none -/
  resv : List Resv := []
  /-- loss counts by zone and arm, those that differ from 0; 08 R253; reset none -/
  loss : List (Nat × Nat × Loss) := []
  /-- planner level 0 NORMAL, 1 CONSTRAINED, 2 SHEDDING; 08 R256; reset NORMAL -/
  level : Nat := 0
  /-- consecutive windows below the level's leaving threshold; 08 R256; reset 0 -/
  calm : Nat := 0
  /-- load of the last window, Q16.16 %; 08 R259; reset 0 -/
  load : Nat := 0
  /-- squash roots of the present tick: arm, cause, root segment, segments, a COMMITTED one among them; 08 R258; reset none -/
  roots : List (Nat × Nat × Nat × Nat × Bool) := []
  /-- cores 0-7; 08 R257; reset in service -/
  core : Vector BlockSt 8 := Vector.replicate 8 .inService
  /-- a tick is running past the next; 08 R229; reset false -/
  late : Bool := false
  /-- ticks completed; THE MODEL'S OWN: it tells how long a freed segment is still answered; 08 R260; reset 0 -/
  tick : Nat := 0
  /-- cycle of the last tick, skipped or not; 08 R228; reset none -/
  tickAt : Option Nat := none
  /-- in a pair: segments committed that enter the profile unit later: ID, cycle of the boundary; 13 R402; reset none -/
  entering : List (Nat × Nat) := []
  /-- line, class and arm states at the boundary that began the tick; 08 R228; reset none -/
  snap : PlanSnap := {}
  /-- line presets applied per line; 08 R240; reset 0 -/
  presets : Vector Nat 4 := Vector.replicate 4 0
  /-- PLAN_TICK_SKIP, PLAN_STARVED, PICK_MISSED, squashes, LATE_COMMIT squashes; 32 each; 08 R259; reset 0 -/
  cnt : Vector Nat 5 := Vector.replicate 5 0
deriving DecidableEq, Repr, Inhabited

/-- Profile mode (09 R265). -/
inductive Mode where
  | hold | point | table | geared | stream
deriving DecidableEq, Repr, Inhabited

/-- A limit record (09 R262), as stored. -/
structure Limits where
  vMax : Nat := 0
  aMax : Nat := 0
  dMax : Nat := 0
  dStop : Nat := 0
  jMax : Nat := 0
  posMin : Int := 0
  posMax : Int := 0
  lagLim : Nat := 0
deriving DecidableEq, Repr, Inhabited

/-- A point move (09 R270). -/
structure Move where
  target : Int
  v : Nat
  a : Nat
  d : Nat
  j : Nat
  tag : Nat
  /-- cycles run since it was planned -/
  n : Nat := 0
deriving DecidableEq, Repr, Inhabited

/-- A gear change (09 R281). -/
structure GearChange where
  slot : Nat
  /-- 0 engage, 1 change, 2 disengage -/
  kind : Nat
  /-- ratio after it -/
  ratio : Rat
  /-- master position m_c, unwrapped -/
  mc : Int
  blend : Nat
  tag : Nat
  /-- the master has crossed m_c -/
  started : Bool := false
  /-- profile-unit event slot -/
  ev : Nat := 0
deriving DecidableEq, Repr, Inhabited

/-- A homing run (09 R286). -/
structure Homing where
  latch : Nat
  edge : Nat
  negative : Bool
  moveHome : Bool
  v : Nat
  dist : Nat
  value : Int
  /-- output position at the start -/
  start : Rat
  /-- the search velocity has been reached -/
  fast : Bool := false
  /-- the edge has been found: the axis stops -/
  found : Bool := false
deriving DecidableEq, Repr, Inhabited

/-- Registration armed on a geared axis (09 R287); `left` counts the edges to come, none without limit. -/
structure Regis where
  latch : Nat
  edge : Nat
  x0 : Int
  pitch : Int
  w : Nat
  cMax : Nat
  left : Option Nat
deriving DecidableEq, Repr, Inhabited

/-- One axis of the profile unit (09 R263-R294). Positions, velocities and accelerations are exact: counts, counts/µs, counts/µs². -/
structure Prof where
  /-- mode; code 0-4; 09 R265; reset HOLD -/
  mode : Mode := .hold
  /-- output position, velocity, acceleration; exact; 09 R261, R267; reset 0 -/
  p : Rat := 0
  v : Rat := 0
  a : Rat := 0
  /-- lag; exact counts; 09 R263; reset 0 -/
  lag : Rat := 0
  /-- home offset o; signed Q48.16; 09 R261; reset 0 -/
  o : Int := 0
  /-- limit record; 64 bytes; 09 R262; reset zeros until an image supplies it -/
  lim : Limits := {}
  /-- deferred limit record; 64 bytes; 09 R272; reset none -/
  deferred : Option Limits := none
  /-- POS_LIMIT; 1; 09 R264; reset false -/
  posLimit : Bool := false
  /-- PROF_LAG_FAULT latched; 1; 09 R269; reset false -/
  lagFault : Bool := false
  /-- a per-axis stop is running, at d_stop when true; 09 R266; reset none -/
  stopping : Option Bool := none
  /-- present point move; 09 R270; reset none -/
  move : Option Move := none
  /-- state from which the present move was planned: p, v, a and class fraction; 09 R270; reset 0 -/
  plan : Rat × Rat × Rat × Rat := (0, 0, 0, 0)
  /-- queued or pending target: true when queued by RETARGET_AT_REST; 09 R271; reset none -/
  next : Option (Move × Bool) := none
  /-- STREAM_LATE; 32; 09 R284; reset 0 -/
  streamLate : Nat := 0
  /-- REG_OUTSIDE; 32; 09 R287; reset 0 -/
  regOutside : Nat := 0
  /-- master kind (0 line, 1 auxiliary axis) and index; 09 R280; reset none -/
  master : Option (Nat × Nat) := none
  /-- geared demand before the pending changes: ratio, demand and master position it is counted from; exact; 09 R280, R282; reset 0 -/
  ratio : Rat := 0
  base : Rat := 0
  baseM : Rat := 0
  /-- the master travelled downwards at engagement, so that changes are counted downwards; 09 R281; reset false -/
  gearNeg : Bool := false
  /-- a disengagement has been retired: HOLD follows at rest; 09 R281; reset false -/
  leaving : Bool := false
  /-- gearing offset of registration; exact counts; 09 R287; reset 0 -/
  regOff : Rat := 0
  /-- corrections that join the gearing offset at the next boundary; 09 R287; reset 0 -/
  regNew : Rat := 0
  /-- pending changes, at most 8, in order of m_c; 09 R281; reset none -/
  changes : List GearChange := []
  /-- demand of the last cycle and its velocity; exact; 09 R267; reset 0 -/
  dem : Rat × Rat := (0, 0)
  /-- the output follows its demand without lag; 09 R268; reset true -/
  tracking : Bool := true
  /-- homing run; 09 R286; reset none -/
  home : Option Homing := none
  /-- home offset taken, in force from the next boundary; 09 R286; reset none -/
  homeO : Option Int := none
  /-- registration; 09 R287; reset none -/
  reg : Option Regis := none
  /-- local time AT_REST began; ns; 09 R288; reset none -/
  restSince : Option Nat := none
  /-- hold current in use; 1; 09 R288; reset false -/
  holdCur : Bool := false
deriving DecidableEq, Repr, Inhabited

/-- TABLE mode of an owner (09 R273-R278): an arm (0-11) or an auxiliary axis. -/
structure Chain where
  /-- records to run, first running; 09 R274; reset none -/
  queue : List Seg := []
  /-- the first record is running; 09 R275; reset false -/
  started : Bool := false
  /-- σ in the first record: µs in a TIME span, line counts in a LINE span; exact; 09 R275; reset 0 -/
  sigma : Rat := 0
  /-- ρ; exact; 09 R277; reset 1 -/
  rho : Rat := 1
  /-- change of ρ in the last cycle; exact; 09 R277; reset 0 -/
  rhoD : Rat := 0
  /-- state at the start of the running record: position and derivative per axis; 09 R236; reset none -/
  from0 : List (Rat × Rat) := []
  /-- path lag, signed line counts; exact; 09 R275; reset 0 -/
  lag : Rat := 0
  /-- a stop along the path is running, at ρ̇_stop when true; 09 R278; reset none -/
  stopping : Option Bool := none
  /-- waits for its line to reach the position; line, position, event slot; 09 R274; reset none -/
  waitLine : Option (Nat × Int × Nat) := none
  /-- host table running: its records, repeats asked (0 without limit), repeats completed; 09 R274; reset none -/
  table : Option (List Seg × Nat × Nat) := none
  /-- the chain is the planner's; 09 R266; reset false -/
  planner : Bool := false
deriving DecidableEq, Repr, Inhabited

/-- A position stream (09 R283, R284). -/
structure Stream where
  axes : List Nat
  gap : Nat
  /-- positions received: cycle, place in the stream, position Q48.16 -/
  pts : List (Nat × Nat × Int) := []
  /-- END received for this cycle -/
  endAt : Option Nat := none
  /-- the point with END has been the demand -/
  ended : Bool := false
  /-- cycles missing in succession -/
  missing : Nat := 0
deriving DecidableEq, Repr, Inhabited

structure Profiles where
  /-- axes 0-127; 09 R261 -/
  ax : Vector Prof 128 := Vector.replicate 128 {}
  /-- owners: arms 0-11, then AUX0-AUX31; 09 R273 -/
  chain : Vector Chain 44 := Vector.replicate 44 {}
  /-- host table records, 512 in 64 KiB; 09 R273; reset none -/
  store : List Seg := []
  /-- streams 0-7; 09 R283; reset none -/
  stream : Vector (Option Stream) 8 := Vector.replicate 8 none
  /-- commutation tables, active and inactive copies; 256 × 16 each; 09 R288, R289; reset the factory table is loaded at activation -/
  tab : Vector (List Nat) 4 := Vector.replicate 4 []
  tabNext : Vector (List Nat) 4 := Vector.replicate 4 []
  /-- latch edges that wait for the uplinks around them: latch, rising, plant instant; 09 R285; reset none -/
  edges : List (Nat × Bool × Int) := []
  /-- a written copy becomes active at the next boundary; 09 R289; reset false -/
  tabDue : Vector Bool 4 := Vector.replicate 4 false
deriving DecidableEq, Repr, Inhabited

end Sys2Proof.Machine
end

