-- ==== Sys2Proof/Machine/Types/Ptime.lean ====
section
/-!
DEFINITION. State of the plant-time clock, the plant ports, the transmit time-stamp queues and the time triggers (chapter 03).
-/

namespace Sys2Proof.Machine

/-- Clock state (03 R83; codes R92). -/
inductive ClockSt where
  | freerun | acquiring | locked | holdover | grandmaster
deriving DecidableEq, Repr, Inhabited

/-- Configuration of an Ethernet port (03 R72, R78, R92). -/
structure PortCfg where
  profile : Nat := 0
  transport : Nat := 0
  slaveOnly : Bool := false
  oneStep : Bool := false
  unicast : Bool := false
  domain : Nat := 0
  logSync : Int := 0
  logAnnounce : Int := 0
  announceTimeout : Nat := 0
  txDelay : Int := 0
  rxDelay : Int := 0
  asymmetry : Int := 0
deriving DecidableEq, Repr, Inhabited

/-- A transmit time-stamp queue entry (03 R81). -/
structure TxEntry where
  id : Nat
  flags : Nat
  time : Int
  seqId : Nat
deriving DecidableEq, Repr, Inhabited

/-- A time-trigger slot in use (03 R89, R90). -/
structure Trig where
  slot : Nat
  action : Nat
  report : Bool
  fireIfPast : Bool
  param : Nat
  target : Int
  period : Nat
  count : Nat
  tag : Nat
  /-- cycle from whose t_pr on it is applied -/
  since : Nat := 0
  /-- index of the next point -/
  n : Nat := 0
  /-- firings since arming -/
  fires : Nat := 0
  /-- a comparator is loaded -/
  loaded : Bool := false
  /-- fires at the next t_pr with LATE -/
  past : Bool := false
deriving DecidableEq, Repr, Inhabited

structure Ptime where
  /-- clock state; code 0-4; 03 R83; reset FREERUN (log 9) -/
  st : ClockSt := .freerun
  /-- TRACEABLE; 1; 03 R83; reset false -/
  traceable : Bool := false
  /-- the clock has been TRACEABLE since image activation; 03 R74; reset false -/
  wasTraceable : Bool := false
  /-- STEP_PENDING; 1; 03 R83; reset false -/
  stepPending : Bool := false
  /-- a step decided: its Δ in ns and whether PTIME_STEP asked for it; 03 R86; reset none -/
  step : Option (Int × Bool) := none
  /-- offset from master at the last Sync; ns; 03 R92; reset 0 -/
  offset : Int := 0
  /-- frequency correction; ppb Q16.16; 03 R92; reset 0 -/
  corr : Int := 0
  /-- correction decided for the next boundary; 03 R85; reset none -/
  corrNext : Option Int := none
  /-- corrections of the last 16 s with their start, newest first; 03 R83; reset none -/
  corrHist : List (Nat × Int) := []
  /-- consecutive Syncs with |offset| ≤ 100 ns; 03 R83; reset 0 -/
  goodRun : Nat := 0
  /-- consecutive Syncs with |offset| > 1 µs; 03 R83; reset 0 -/
  badRun : Nat := 0
  /-- clock state decided for the next boundary; 03 R83; reset none -/
  next : Option ClockSt := none
  /-- slave port; 0-3 or none; 03 R92; reset none -/
  slave : Option Nat := none
  /-- local time at which the holdover limit ends; 03 R83; reset none -/
  holdEnd : Option Nat := none
  /-- the cross-cell holdover limit has expired; 03 R87; reset false -/
  crossGone : Bool := false
  /-- local time at which the cross-cell holdover limit ends; 03 R87; reset none -/
  crossEnd : Option Nat := none
  /-- of the last Sync on each plant port: its stamp less origin and correction; 1/655 360 ns; 03 R78, R83; reset none -/
  syncDiff : Vector (Option Int) 4 := Vector.replicate 4 none
  /-- stamp at the land of the last frame received on each port; 1/655 360 ns; 03 R77; reset none -/
  rxStamp : Vector (Option Int) 14 := Vector.replicate 14 none
  /-- mean path delay of each plant port; 1/65 536 ns; 03 R83; reset 0 -/
  pathDelay : Vector Int 4 := Vector.replicate 4 0
  /-- UTC offset; s; 03 R74; reset 0 (log 9) -/
  utcOffset : Int := 0
  /-- UTC_VALID; 1; 03 R74; reset false -/
  utcValid : Bool := false
  /-- currentUtcOffset and its valid flag of the last Announce accepted; 03 R74; reset none -/
  announced : Option (Int × Bool) := none
  /-- grandmaster identity; 8 bytes; 03 R92; reset none -/
  gmId : Bytes := []
  /-- stepsRemoved; 16; 03 R92; reset 0 -/
  stepsRemoved : Nat := 0
  /-- ports 0-13: PE0-PE3, CL0-CL1, SP0-SP7; 03 R77, R92; reset disabled, delays 0 -/
  ports : Vector PortCfg 14 := Vector.replicate 14 {}
  /-- transmit time-stamp queues of ports 0-5, oldest first, at most 16; 03 R79; reset none -/
  txq : Vector (List TxEntry) 6 := Vector.replicate 6 []
  /-- TXQ_LOST; 32; 03 R80; reset 0 -/
  txLost : Vector Nat 6 := Vector.replicate 6 0
  /-- the next entry of the queue carries LOST_BEFORE; 03 R80; reset false -/
  txLostBefore : Vector Bool 6 := Vector.replicate 6 false
  /-- frames to be sent by host request: port, flags, identifier, insert offset, frame; output queue; 03 R93; reset none -/
  txFrames : List (Nat × Nat × Nat × Nat × Bytes) := []
  /-- host frames with STAMP whose entry is not written yet, per port; 03 R93; reset 0 -/
  txAsked : Vector Nat 6 := Vector.replicate 6 0
  /-- wide format of consumer 0 per port; 03 R75; reset false (short) -/
  wide0 : Vector Bool 6 := Vector.replicate 6 false
  /-- wide format of consumer 1; 03 R75; reset true -/
  wide1 : Bool := true
  /-- wide format of consumer 2; 03 R75; reset true -/
  wide2 : Bool := true
  /-- time triggers in use, ascending slot; 03 R89; reset none -/
  trigs : List Trig := []
  /-- cancels on their way whose trigger was freed before its t_pr: ring, sequence, fire count, one-shot that fired; 03 R90; reset none -/
  freed : List (Nat × Nat × Nat × Bool) := []
deriving DecidableEq, Repr, Inhabited

end Sys2Proof.Machine
end

