-- ==== Sys2Proof/Machine/Types/Safety.lean ====
section
/-!
DEFINITION. State of the separation function, the safe I/O channels and the safety communication layer (chapters 10, 11).
-/

namespace Sys2Proof.Machine

/-- A run of occupied voxels (10 R298). -/
structure Run where
  x : Nat
  y : Nat
  z : Nat
  len : Nat
deriving DecidableEq, Repr, Inhabited

/-- An accepted scan (10 R298, R299). -/
structure Scan where
  number : Nat
  runs : List Run
  /-- local time its last byte crossed the land -/
  t : Nat
deriving DecidableEq, Repr, Inhabited

/-- One safety sensor (10 R297-R300). -/
structure Sensor where
  /-- scans accepted, newest first, kept back to the last intake; 10 R296; reset none -/
  scans : List Scan := []
  /-- scan in progress: number, local time of the head, runs declared, PDUs still to come, runs so far; 10 R299; reset none -/
  part : Option (Nat × Nat × Nat × Nat × List Run) := none
  /-- the scan in progress has failed a condition; 10 R299; reset false -/
  bad : Bool := false
  /-- in TIMEOUT; 10 R300; reset true (no scan accepted yet) -/
  timeout : Bool := true
  /-- last status byte; 10 R329; reset 0 -/
  status : Nat := 0
  /-- WINDOW_WARN of the last scan; 10 R328; reset false -/
  warn : Bool := false
  /-- accepted, discarded scans; SP_BAD; 32 each; 10 R329; reset 0 -/
  accepted : Nat := 0
  discarded : Nat := 0
  spBad : Nat := 0
  /-- scan age at the last intake, µs; 10 R329; reset 0 -/
  age : Nat := 0
deriving DecidableEq, Repr, Inhabited

/-- Separation of one arm (10 R312, R313, R322). -/
structure SepArm where
  /-- effective class e; 0-4; 10 R313; reset 0 -/
  e : Nat := 0
  /-- bound class b; 0-4; 10 R312; reset 0 -/
  b : Nat := 0
  /-- periods until b takes e; 10 R312; reset 0 -/
  trans : Nat := 0
  /-- q and h of Copper and Iron in the last period; 10 R313; reset 0 -/
  qC : Nat := 0
  hC : Nat := 0
  qI : Nat := 0
  hI : Nat := 0
  /-- cap c of the last period; 10 R315; reset 4 -/
  cap : Nat := 4
  /-- host cap, in force and set; 10 R315, R330; reset 4 -/
  hostCap : Nat := 4
  hostNext : Nat := 4
  /-- distances d_C and d_I, arm-to-arm minimum; mm; 10 R329; reset 0 -/
  dC : Nat := 0
  dI : Nat := 0
  armMin : Nat := 0
  /-- hold and resume; 10 R313; reset 0 -/
  hold : Nat := 0
  resume : Bool := false
  /-- an accepted operator reset waits for this period; 10 R313; reset false -/
  reset : Bool := false
  /-- latched fault cause, 0 none; 10 R322; reset 0 -/
  fault : Nat := 0
  /-- causes present in the last period, bit n for code n; 10 R323; reset 0 -/
  present : Nat := 0
  /-- SEP_CLEAR_FAULT waits for a reset: ring, sequence, local time of its validation; 10 R323; reset none -/
  clearing : Option (Nat × Nat × Nat) := none
  /-- consecutive cross-check violations, total; position mismatches; 10 R321, R307; reset 0 -/
  xRun : Nat := 0
  xTotal : Nat := 0
  posRun : Nat := 0
  /-- consecutive periods of a class above the one sent; 10 R322; reset 0 -/
  echo : Nat := 0
  /-- SC0 entries; 32; 10 R329; reset 0 -/
  sc0 : Nat := 0
  /-- local time at which e became SC0; 11 R342; reset 0 -/
  sc0At : Nat := 0
deriving DecidableEq, Repr, Inhabited

/-- One accepted uplink safety PDU of a node (10 R304), with the raw axis positions of the same uplink (R307). -/
structure SafePdu where
  cycle : Nat
  spos : List Nat
  status : Nat
  enforced : Nat
  raw : List Int
deriving DecidableEq, Repr, Inhabited

/-- What the separation function keeps of a node. -/
structure NodeSafe where
  /-- accepted uplink safety data, newest first, at most 16 cycles; 10 R304, R307; reset none -/
  hist : List SafePdu := []
  /-- class last sent to the node; none before the first; 10 R322; reset none -/
  sent : Option Nat := none
deriving DecidableEq, Repr, Inhabited

structure Sep where
  sensor : Vector Sensor 8 := Vector.replicate 8 {}
  arm : Vector SepArm 12 := Vector.replicate 12 {}
  node : Vector NodeSafe 24 := Vector.replicate 24 {}
  /-- periods since activation; 32; 10 R329; reset 0 -/
  periods : Nat := 0
  /-- local time of P of the present period and its cycle; 10 R296; reset none -/
  start : Option (Nat × Nat) := none
  /-- cycle of P, the device state's cap and the caps of the arms as they stood at P - 20 µs; 10 R296, R315; reset none -/
  intake : Option (Nat × Nat × List Nat) := none
  /-- SC0 caps of the device state held at the last intake; 10 R324; reset true -/
  auxStop : Bool := true
  /-- CROSSCHECK total; 32; 10 R329; reset 0 -/
  xTotal : Nat := 0
  /-- COPPER_FAIL and IRON_FAIL present; 10 R322; reset false -/
  copperFail : Bool := false
  ironFail : Bool := false
  /-- CROSSCHECK stands on more than half of the arms; 10 R322; reset false -/
  major : Bool := false
  /-- occupied voxels of Copper's last period, by linear index; 10 R302; reset none -/
  occ : List Nat := []
  /-- the class PDU that the safety die forms in the present period otherwise than its e, as the period was told: node and class;
  10 R322; reset none -/
  astray : Option (Nat × Nat) := none
  /-- a class PDU of the safety die that differs from Copper's e: node (0-23) and its class; 10 R322; reset none -/
  wrong : Option (Nat × Nat) := none
  /-- data of the last report PDUs of Copper and of Iron, per arm; 18 bytes; 10 R320; reset empty -/
  reports : Vector (Vector Bytes 12) 2 := Vector.replicate 2 (Vector.replicate 12 [])
deriving DecidableEq, Repr, Inhabited

/-- Input pair state (11 R335; codes R359). -/
inductive InSt where
  | untested | demand | released | discrepancy | faulted
deriving DecidableEq, Repr, Inhabited

/-- One input pair in one channel (11 R334-R336, R343). -/
structure InPair where
  /-- state; code 0-4; 11 R335; reset DEMAND -/
  st : InSt := .demand
  /-- local time at which the contacts began to disagree; 11 R335; reset none -/
  disagree : Option Nat := none
  /-- latched cause, 0 none; 11 R360; reset 0 -/
  cause : Nat := 0
  /-- SIO_CLEAR_FAULT reaches the channel's next logic cycle; 11 R332, R335; reset false -/
  clear : Bool := false
  /-- RESET: local time at which both contacts closed; 11 R343; reset none -/
  pressed : Option Nat := none
  /-- RESET: stuck until both open; 11 R343; reset false -/
  stuck : Bool := false
  /-- RESET: a press that has ended, not yet judged: press and release; 11 R343; reset none -/
  ended : Option (Nat × Nat) := none
  /-- RESET: a release accepted by this channel and not yet by the other: press and release; 11 R344; reset none -/
  acc : Option (Nat × Nat) := none
deriving DecidableEq, Repr, Inhabited

/-- Output pair state (11 R341; codes R359). -/
inductive OutSt where
  | off | armed | on | offSeq | inhibited | fault
deriving DecidableEq, Repr, Inhabited

/-- Safety connection state (11 R352). -/
inductive ConnSt where
  | sync | opened | timeout
deriving DecidableEq, Repr, Inhabited

/-- One output pair in one channel (11 R337-R342). -/
structure OutPair where
  /-- state; code 0-5; 11 R341; reset OFF -/
  st : OutSt := .off
  /-- local time at which the state was entered; 11 R341; reset 0 -/
  since : Nat := 0
  /-- EDM closed seen in OFF_SEQ: local time; 11 R341; reset none -/
  edmAt : Option Nat := none
  /-- local time since which EDM has been open in OFF or ARMED; 11 R341; reset none -/
  edmOpen : Option Nat := none
  /-- latched cause, 0 none; 11 R360; reset 0 -/
  cause : Nat := 0
  /-- an accepted reset serves the pair in the next logic cycle; 11 R344; reset false -/
  reset : Bool := false
  /-- switched on by a takeover: EDM open accepted, no reset; 13 R406; reset false -/
  takeover : Bool := false
  /-- this channel's switches of the two outputs closed; 11 R331; reset open -/
  sw : Vector Bool 2 := Vector.replicate 2 false
deriving DecidableEq, Repr, Inhabited

/-- One safe I/O channel (11 R331, R332). -/
structure SioChan where
  /-- filtered levels of SI0-SI31; 32; 11 R333; reset open -/
  si : Nat := 0
  /-- filtered levels of EDM0-EDM7; 8; 11 R333; reset open -/
  edm : Nat := 0
  /-- input pairs 0-15; 11 R335 -/
  inp : Vector InPair 16 := Vector.replicate 16 {}
  /-- output pairs 0-7; 11 R341 -/
  out : Vector OutPair 8 := Vector.replicate 8 {}
  /-- own fault stands; 11 R346; reset false -/
  fault : Bool := false
  /-- its code (11 SIO_CROSS, 12 SIO_CHANNEL), its object, its local time; 11 R347; reset 0 -/
  code : Nat := 0
  obj : Nat := 0
  faultAt : Nat := 0
  /-- a self-check has failed, until the channel's die is reset; 11 R347; reset false -/
  selfFail : Bool := false
  /-- the 18 data bytes of its last cross-comparison PDU as one number; 144; 11 R346; reset 0 -/
  word : Nat := 0
  /-- operator resets accepted in its present logic cycle, by pair; 16; 11 R346; reset 0 -/
  accBits : Nat := 0
  /-- bits that differ from the other channel, and since when; 11 R347; reset none -/
  diff : List (Nat × Nat) := []
  /-- state of the cross-comparison connection at this consumer; 11 R352; reset SYNC -/
  conn : ConnSt := .sync
  /-- consecutive PDUs with an advance of 1; 11 R352; reset 0 -/
  good : Nat := 0
  /-- logic cycle count of the other channel's last accepted PDU; 11 R351; reset 0 -/
  seen : Nat := 0
  /-- logic cycles since a valid cross-comparison PDU; 11 R347; reset 0 -/
  silent : Nat := 0
  /-- logic cycle count; 32; 11 R351; reset 0 -/
  count : Nat := 0
deriving DecidableEq, Repr, Inhabited

/-- A dark pulse in progress (11 R339). -/
structure Pulse where
  output : Nat
  /-- channel whose switch is open: 0 A, 1 B -/
  chan : Nat
  start : Nat
  /-- the demand of the pair switched to off meanwhile (R340) -/
  discard : Bool := false
deriving DecidableEq, Repr, Inhabited

/-- Per output: its pulse history (11 R339, R340). -/
structure OutTest where
  /-- channel of the next pulse; 11 R339; reset A -/
  next : Nat := 0
  /-- local time of the last pulse start; 11 R339; reset none -/
  last : Option Nat := none
  /-- local time of the last valid result, or of the switch-on; 11 R340; reset 0 -/
  since : Nat := 0
  /-- valid pulses; 32; 11 R361; reset 0 -/
  valid : Nat := 0
deriving DecidableEq, Repr, Inhabited

/-- One safety connection at its consumer in the KX96 (11 R349-R352). -/
structure Conn where
  id : Nat := 0
  kind : Nat := 0
  /-- watchdog, ms; 11 R356; reset 0 -/
  wd : Nat := 0
  st : ConnSt := .sync
  /-- reference sequence; 11 R352; reset none -/
  seq : Option Nat := none
  /-- last accepted stamp; 11 R351; reset none -/
  stamp : Option Nat := none
  /-- consecutive accepted PDUs with an advance of 1; 11 R352; reset 0 -/
  run : Nat := 0
  /-- local time of the last accepted PDU; 11 R352; reset 0 -/
  lastOk : Nat := 0
  /-- local times of the rejected PDUs of the last second, newest first; 11 R352; reset none -/
  rej : List Nat := []
  /-- TIMEOUT was entered by ERROR_RATE; 11 R352; reset false -/
  errRate : Bool := false
  /-- accepted, CRC_ERR, ID_ERR, SEQ_ERR, AGE_ERR, DUP, timeouts; 32 each; 11 R361; reset 0 -/
  cnt : Vector Nat 7 := Vector.replicate 7 0
  /-- last data accepted, 18 bytes; 11 R348; reset none -/
  data : Bytes := []
  /-- sequence of the next PDU produced on the reverse direction; 16; 11 R348; reset 0 -/
  txSeq : Nat := 0
deriving DecidableEq, Repr, Inhabited

structure Sio where
  /-- channels A and B; 11 R331 -/
  chan : Vector SioChan 2 := Vector.replicate 2 {}
  /-- per output pair: request ON; 11 R341; reset OFF -/
  req : Vector Bool 8 := Vector.replicate 8 false
  /-- host request word beside the output requests: last clear-fault request (8), cycle count of the last validation (16); 11 R346; reset 0 -/
  request : Nat := 0
  /-- per output pair: local time of the last SIO_OUT_SET ON; 11 R344; reset 0 -/
  reqAt : Vector Nat 8 := Vector.replicate 8 0
  /-- per output pair: latched ON request, ring and sequence; 11 R341; reset none -/
  latched : Vector (Option (Nat × Nat)) 8 := Vector.replicate 8 none
  /-- per output pair: local time of an accepted SIO_CLEAR_FAULT that waits for a reset; 11 R341; reset none -/
  cleared : Vector (Option Nat) 8 := Vector.replicate 8 none
  /-- per output: local time at which an external condition was last found, and its cause (4, 5 or 6); 11 R340, 18 R503; reset none -/
  found : Vector (Option (Nat × Nat)) 16 := Vector.replicate 16 none
  /-- local time of entry to FAULT_HALT; 11 R342; reset none -/
  haltAt : Option Nat := none
  /-- per output pair: last EDM close after switch-off, µs; DP_DISCARD; 11 R361; reset 0 -/
  edmClose : Vector Nat 8 := Vector.replicate 8 0
  dpDiscard : Vector Nat 8 := Vector.replicate 8 0
  /-- per output pair: local time of the last change of its demand; 11 R340; reset 0 -/
  demandAt : Vector Nat 8 := Vector.replicate 8 0
  /-- dark pulse in progress; 11 R339; reset none -/
  pulse : Option Pulse := none
  /-- local time at which the last pulse of the module ended; 11 R339; reset none -/
  lastPulse : Option Nat := none
  test : Vector OutTest 16 := Vector.replicate 16 {}
  /-- per input pair: discrepancies, accepted resets; 32 each; 11 R361; reset 0 -/
  disc : Vector Nat 16 := Vector.replicate 16 0
  resets : Vector Nat 16 := Vector.replicate 16 0
  /-- SAFETY_CONFIRM waits for a DEVICE reset: ring, sequence, local end of the 60 s; 11 R357; reset none -/
  confirm : Option (Nat × Nat × Nat) := none
  /-- accepted resets due at the next boundary: RESET pair, local time of the press; 11 R344; reset none -/
  resetsDue : List (Nat × Nat) := []
  /-- safety connections of the image, at most 128; 11 R356; reset none -/
  conn : List Conn := []
  /-- SCV of the active image as recomputed; 32; 11 R357; reset 0 -/
  scv : Nat := 0
  /-- VFIELD within range; 18 R494; reset false -/
  field : Bool := false
deriving DecidableEq, Repr, Inhabited

end Sys2Proof.Machine
end

