-- ==== Sys2Proof/Machine/Types/System.lean ====
section
/-!
DEFINITION. State of the device as a whole: device state, guarantee word, faults and their logs, supplies, reset word
and environment readings (chapters 01, 16, 18). Every field's docstring reads: what; width; file R<n>; reset value.
-/

namespace Sys2Proof.Machine

/-- Device state (01 R33; codes 16 R454). -/
inductive DevState where
  | off | reset | boot | safeIdle | configured | commissioning | ready | automatic | degraded | faultHalt
deriving DecidableEq, Repr, Inhabited

/-- Fault record (16 R456); `index` and the check word are formed when it is read. -/
structure FaultRec where
  code : Nat
  kind : Nat
  object : Nat
  cycle : Nat
  time : Int
  stOld : Nat
  stNew : Nat
  detail : Nat
  index : Nat
deriving DecidableEq, Repr, Inhabited

/-- A fault whose boundary has not come yet (01 R32), with the kind of its record (16 R456): 1 halting, 2 degrading, 3 degrading cause
removed. -/
structure FaultDue where
  code : Nat
  kind : Nat
  object : Nat
  detail : Nat
deriving DecidableEq, Repr, Inhabited

/-- The command whose completion report is still owed (16 R452). -/
structure Owed where
  opcode : Nat
  ring : Nat
  seq : Nat
deriving DecidableEq, Repr, Inhabited

structure Sys where
  /-- device state DEV_STATE; code 0-9; 01 R33, 16 R454; reset RESET (0x01, 15 R431) -/
  dev : DevState := .reset
  /-- DEGRADED was entered from AUTOMATIC; 1 bit; 01 R31; reset false -/
  fromAuto : Bool := false
  /-- DUHORN_RUN; 1 bit; 15 R431; reset 0 -/
  duhorn : Bool := false
  /-- HEARTBEAT BEAT; 32; 15 R431; reset 0 -/
  heartbeat : Nat := 0
  /-- IMAGE_OK, GCOND bit 0; 1; 01 R23; reset 0 -/
  imageOk : Bool := false
  /-- SUPPLY_OK, GCOND bit 1; 1; 01 R23, 18 R489; reset 0 -/
  supplyOk : Bool := false
  /-- TEMP_OK, GCOND bit 2; 1; 01 R23, 19 R511; reset 1 -/
  tempOk : Bool := true
  /-- SLOTS_OK, GCOND bit 3; 1; 01 R23; reset 0 -/
  slotsOk : Bool := false
  /-- AXES_OK, GCOND bit 4; 1; 01 R23; reset 0 -/
  axesOk : Bool := false
  /-- CONFIRMED, GCOND bit 5; 1; 01 R23, 11 R357; reset 0 -/
  confirmed : Bool := false
  /-- GCOND_LATCH bits 8-12; 5; 01 R23; reset 0 -/
  latch : Nat := 0
  /-- SAFETY_DEFAULTS in force; 1; 16 R453, 11 R356; reset false -/
  safetyDefaults : Bool := false
  /-- section numbers that fell back, in directory order; list; 17 R478; reset none -/
  fallback : List Nat := []
  /-- directory positions of the sections that fell back; 128-bit map; 17 R484; reset 0 -/
  fallbackMap : Nat := 0
  /-- faults that fall due at the next boundary; list; 01 R32; reset none -/
  due : List FaultDue := []
  /-- halting faults found whose cause is present, as code and object; list; 16 R459; reset none -/
  haltCauses : List (Nat × Nat) := []
  /-- degrading causes present, as code, object and detail; list; 16 R455; reset none -/
  degCauses : List (Nat × Nat × Nat) := []
  /-- fault code of the halting fault; 16; 16 R453; reset 0 -/
  haltCode : Nat := 0
  /-- object of the halting fault; 8; 16 R453; reset 0 -/
  haltObject : Nat := 0
  /-- cycle count of entry to FAULT_HALT; 32; 16 R453; reset 0 -/
  haltCycle : Nat := 0
  /-- volatile fault log, newest first, at most 256; records; 16 R456; reset none -/
  log : List FaultRec := []
  /-- fault records logged since reset; 32; 16 R453; reset 0 -/
  logged : Nat := 0
  /-- persistent log in NOR, newest first, at most 64; records; 16 R456; reset none (kept through reset of the control die) -/
  nor : List FaultRec := []
  /-- halting records since manufacture; 32; 16 R457; reset 0 (kept through reset of the control die) -/
  norCount : Nat := 0
  /-- CLEAR_PENDING: the CLEAR_FAULT that waits and the local time its 60 s end; 16 R459; reset none -/
  clearPending : Option (Owed × Nat) := none
  /-- an accepted operator reset of DEVICE scope awaits the boundary; 1; 11 R344; reset false -/
  deviceReset : Bool := false
  /-- AUTO_LATCHED: the request for AUTOMATIC latched under R28; 16 R458; reset none -/
  autoLatched : Option Owed := none
  /-- a change to READY from automatic operation that waits for every arm in HOLD; 01 R33; reset none -/
  readyWait : Option Owed := none
  /-- the automatic-mode shut-down sequence is running; 1; 01 R31; reset false -/
  autoStopping : Bool := false
  /-- local time at which the automatic-mode off-time ends; ns; 01 R31; reset none -/
  autoOffEnd : Option Nat := none
  /-- an accepted SYS_RESET: no further command is validated; 1; 16 R461; reset false -/
  resetting : Bool := false
  /-- local time at which the control die left RESET; ns; 16 R453; reset 0 -/
  releasedAt : Nat := 0
  /-- case temperature used for TEMP_OK; signed Q8.8; 16 R460, 19 R511; reset DESIGN CHOICE 0 (log 5) -/
  tCase : Int := 0
  /-- consecutive case readings above 100 °C; 19 R511; reset 0 -/
  hotRun : Nat := 0
  /-- peak case temperature since reset; signed Q8.8; 16 R460; reset DESIGN CHOICE 0 (log 5) -/
  tPeak : Int := 0
  /-- hottest control-die sensor; signed Q8.8; 16 R460; reset DESIGN CHOICE 0 (log 5) -/
  tDie : Int := 0
  /-- safety-die sensor; signed Q8.8; 16 R460; reset DESIGN CHOICE 0 (log 5) -/
  tSafe : Int := 0
deriving DecidableEq, Repr, Inhabited

/-- One supply as the monitor judges it (18 R488). -/
structure Supply where
  /-- at or above 10 % of nominal -/
  present : Bool := false
  /-- risen through its up threshold and not below undervoltage since -/
  up : Bool := false
  /-- above its overvoltage threshold -/
  overV : Bool := false
  /-- local time at which it became present -/
  since : Nat := 0
  /-- it has been up since it became present: a later rise to up follows a brown-out -/
  risen : Bool := false
deriving DecidableEq, Repr, Inhabited

/-- Causes of an entry to RESET with their RSTSTAT codes (18 R501). -/
inductive Cause where
  | powerOn | resetN | sequence | brownout | clock | overtemp | bootWatchdog | sysReset
deriving DecidableEq, Repr, Inhabited

structure Power where
  /-- the fourteen supplies, index of R488; present, up, over; 18 R488; reset: VSAFE and VSAFEIO up, the others absent (log 3) -/
  sup : Vector Supply 14 := Vector.ofFn (fun i =>
    { present := i.val = 8 ∨ i.val = 9, up := i.val = 8 ∨ i.val = 9, risen := i.val = 8 ∨ i.val = 9 })
  /-- RSTSTAT VALID: the supply monitor is powered; 1; 18 R501; reset 1 -/
  valid : Bool := true
  /-- RSTSTAT SUPPLY; 4; 18 R501; reset 0xF -/
  supplyIx : Nat := 15
  /-- RSTSTAT RULE; 4; 18 R501; reset 0 -/
  rule : Nat := 0
  /-- RSTSTAT CAUSE; 4; 18 R501; reset POWER_ON -/
  cause : Cause := .powerOn
  /-- RSTSTAT COUNT; 8; 18 R501; reset 1 -/
  count : Nat := 1
  /-- RSTSTAT SEQ_HOLD; 1; 18 R491, R501; reset 0 -/
  seqHold : Bool := false
  /-- RESET_N level low now; pin; 18 R499, R501; reset false (live) -/
  resetLow : Bool := false
  /-- local time RESET_N went low; ns; 18 R501; reset 0 -/
  resetLowAt : Nat := 0
  /-- RSTSTAT RESET_N_STUCK; 1; 18 R501; reset 0 -/
  resetStuck : Bool := false
  /-- RSTSTAT SAFE_DIE_RESET; 1; 18 R501; reset 0 -/
  safeReset : Bool := false
  /-- SRST_N level low now; pin; 18 R499, R501; reset false (live) -/
  srstLow : Bool := false
  /-- PERST_N level low now; pin; 18 R499; reset false -/
  perstLow : Bool := false
  /-- RSTSTAT REFCLK_BAD; 1; 18 R497, R501; reset 0 -/
  refclkBad : Bool := false
  /-- REFCLK valid and every PLL locked; 18 R497; reset true -/
  clockOk : Bool := true
  /-- PCIE_REFCLK present and the link up; 18 R497; reset true -/
  linkUp : Bool := true
  /-- local time every control supply has been absent since; ns; 18 R491, R501; reset some 0 -/
  absentSince : Option Nat := some 0
  /-- all control supplies have been absent for t_sqoff: the next rise is a POWER_ON entry; 18 R501; reset false -/
  nextPowerOn : Bool := false
  /-- a rule of R490 or an OVERTEMP still bars the release; 18 R493, R495; reset false -/
  hot : Bool := false
  /-- local time since which the release conditions of R493 have held; ns; 18 R493; reset none -/
  releaseSince : Option Nat := none
  /-- VFIELD reversed; 18 R494; reset false -/
  fieldReversed : Bool := false
  /-- the safety die's channel B, Iron and safety layer run their firmware; 18 R500, R502; reset false -/
  safeRun : Bool := false
  /-- RSTOUT_N driven low; pin; 18 R499; reset true -/
  rstoutLow : Bool := true
deriving DecidableEq, Repr, Inhabited

end Sys2Proof.Machine
end

