-- ==== Sys2Proof/Machine/Types/Transfer.lean ====
section
/-!
DEFINITION. Free values of the pair's transfers: 13 R402 names the services PLAN_DELTA and STATE and gives their contents no layout.
-/

namespace Sys2Proof.Config

open Sys2Proof.Machine

/-- The planner state once a PLAN_DELTA is complete: its bytes, the planner state before. -/
opaque planDelta : Bytes → Planner → Planner
/-- The bytes of the PLAN_DELTA of a tick: the planner state before and after it. -/
opaque planDeltaOut : Planner → Planner → Bytes
/-- What a state transfer leaves: its bytes, and the loops, arm sequences, profile unit, safe I/O and planner before. -/
opaque takeState : Bytes → Loops × Joints × Profiles × Sio × Planner → Loops × Joints × Profiles × Sio × Planner
/-- The bytes of a STATE transfer. -/
opaque stateOut : Loops × Joints × Profiles × Sio × Planner → Bytes

end Sys2Proof.Config
end

