-- ==== Sys2Proof/Machine/State.lean ====
section
/-!
DEFINITION. The state of the machine: everything the spec gives the module (`Chip`) and the queue of waiting commands.
Every command of the table has an effect the spec gives, so no meaning faults and none refuses.
-/

namespace Sys2Proof.Machine

/-- Faults of the model. The spec gives the block no access that stops it: none is raised. -/
inductive Fault where
  /-- An access the spec says does not exist. Raised by no meaning (safe). -/
  | noSuchAccess
deriving DecidableEq, Repr

/-- Refusals of the model. -/
inductive Refusal where
  /-- A command of the table whose meaning is not in the model yet, by its mnemonic. Raised by its arm of exec only (safe). -/
  | notModelled (mnemonic : String)
deriving DecidableEq, Repr

/-- A command accepted whose effect falls due later (01 R19, R32; 15 R438): the cycle of its boundary, or of its t_pr. -/
structure Deferred where
  due : Nat
  ring : Nat
  seq : Nat
  opcode : Nat
  payload : Bytes
deriving DecidableEq, Repr, Inhabited

/-- Everything the spec gives the module. -/
structure Chip where
  /-- local time of the control die; ns; 01 R13, 03 R72; reset 0 (log 1) -/
  now : Nat := 0
  /-- plant time minus local time at t0 of the cycle in progress; ns; 03 R72, R85; reset 0 (log 9) -/
  ptOff : Int := 0
  /-- n, the cycle in progress; 01 R13; reset 0 -/
  cyc : Nat := 0
  /-- local time of t0 of the cycle in progress; ns; 01 R13; reset 0 (log 1) -/
  t0 : Nat := 0
  /-- active configuration image, its sections in force; 17 R475-R478; reset the values that hold without an image (log 20) -/
  cfg : Image := {}
  /-- an image is active; 17 R478; reset false -/
  active : Bool := false
  /-- device as a whole; 01, 16 -/
  sys : Sys := {}
  /-- supplies, reset word; 18 -/
  pow : Power := {}
  /-- register page, rings, tunnel; 15 -/
  mb : Mailbox := {}
  /-- anchors: key slots and security version counters; 17 -/
  anchor : Anchors := {}
  /-- flash, boot; 17 -/
  boot : Boot := {}
  /-- lines, events, latches; 02 -/
  lt : LineTime := {}
  /-- plant time; 03 -/
  pt : Ptime := {}
  /-- cell star; 04 -/
  star : Star := {}
  /-- loop engines; 05 -/
  loops : Loops := {}
  /-- joint supervision, arm sequences; 06 -/
  joints : Joints := {}
  /-- Tungsten; 07 -/
  solver : Solver := {}
  /-- run-ahead planner; 08 -/
  planner : Planner := {}
  /-- profile unit; 09 -/
  prof : Profiles := {}
  /-- separation; 10 -/
  sep : Sep := {}
  /-- safe I/O, safety layer; 11 -/
  sio : Sio := {}
  /-- the metrology die; 12 -/
  metro : Metro := {}
  /-- the control die's side of weighing; 12 -/
  mlink : MetroLink := {}
  /-- pairing; 13 -/
  pair : Pair := {}
  /-- self-test; 14 -/
  ster : Sterling := {}
  /-- commands whose effect is due at a boundary; list; 01 R19, 15 R438; reset none -/
  deferB : List Deferred := []
  /-- commands whose effect is due at t_pr; list; 02 R51; reset none -/
  deferP : List Deferred := []
  /-- datagrams and frames sent by no other named output in the present cycle: kind (0 line state, 1 ARP, 2 pair frame,
  3 interlock pulse, 4 safety PDU on SP, 5 metrology message, 6 host frame), port, bytes; output, newest first; 02 R68, 10 R297, 13 R394; reset none -/
  wire : List (Nat × Nat × Bytes) := []
  /-- THE MODEL'S OWN: how many free values have been taken (log 2); reset 0 -/
  free : Nat := 0
deriving DecidableEq, Repr, Inhabited

/-- The state of the block: the module, and the commands that wait, first in, first out. -/
structure State where
  /-- commands waiting; list; THE MODEL'S OWN (the block's interface); reset none -/
  pending : List Instr := []
  /-- the module -/
  chip : Chip := {}
deriving DecidableEq, Repr

/-- The machine right after reset: no command waits, every field at its reset value. -/
def State.reset : State := {}

end Sys2Proof.Machine
end

