-- ==== Sys2Proof/Machine/Types/Reply.lean ====
section
/-!
DEFINITION. Status codes and the answer a command's body gives (16 R449-R451).
-/

namespace Sys2Proof.Machine

/-- The status codes (16 R451), in code order 0x00-0x0C. -/
inductive Status where
  | ok | busy | refusedState | badParam | notPermitted | checkFail | queued | timeout | noResource | sealed
  | unconfirmed | squashed | partly
deriving DecidableEq, Repr, Inhabited

/-- Handling of a command in a pair (16 R447): mirrored, primary only, unit-local. -/
inductive PairGroup where
  | mirrored | primary | unitLocal
deriving DecidableEq, Repr, Inhabited

/-- What a command's checks and effect answer: a status, the response bytes after the 4-byte head, the module after it, whether
the bytes are carried although the status is a failure (16 R449, e.g. 02 R61), and whether a response is written now. -/
structure Reply where
  st : Status
  data : Bytes := []
  chip : Chip
  named : Bool := false
  later : Bool := false
deriving DecidableEq, Repr

end Sys2Proof.Machine
end

