-- ==== Sys2Proof/Machine/Flags.lean ====
section
/-!
DEFINITION. The status words and codes the module shows: GCOND, ring STATUS, RSTSTAT, device and pair states, status codes.
-/

namespace Sys2Proof.Machine

open Sys2Proof

/-- Status codes (16 R451). -/
def Status.code : Status → Nat
  | .ok => 0 | .busy => 1 | .refusedState => 2 | .badParam => 3 | .notPermitted => 4 | .checkFail => 5
  | .queued => 6 | .timeout => 7 | .noResource => 8 | .sealed => 9 | .unconfirmed => 10 | .squashed => 11
  | .partly => 12

/-- Whether a response with this status carries its full layout (16 R449, Response length). -/
def Status.full : Status → Bool
  | .ok | .queued | .partly => true
  | _ => false

/-- Device state codes (16 R454). -/
def DevState.code : DevState → Nat
  | .off => 0 | .reset => 1 | .boot => 2 | .safeIdle => 3 | .configured => 4 | .commissioning => 5
  | .ready => 6 | .automatic => 7 | .degraded => 8 | .faultHalt => 9

/-- Pair state codes (13 R401); 0xFF unpaired (15 R431). -/
def pairCode : Option PairSt → Nat
  | some .wait => 0 | some .primary => 1 | some .standby => 2 | some .silent => 3 | some .isolated => 4
  | none => 0xFF

/-- GCOND bits [5:0] (01 R23). -/
def Sys.gcond (s : Sys) : Nat :=
  bits [s.imageOk, s.supplyOk, s.tempOk, s.slotsOk, s.axesOk, s.confirmed]

/-- GCOND and GCOND_LATCH as one word (01 R23): bits [7:0] and [15:8]. -/
def Sys.gword (s : Sys) : Nat := s.gcond + 256 * s.latch

/-- GCOND bits [4:0] are all 1 (01 R24, R33). -/
def Sys.allOk (s : Sys) : Bool := s.imageOk && s.supplyOk && s.tempOk && s.slotsOk && s.axesOk

/-- Entries a ring holds: (PROD - CONS) mod 2^16 (15 R432). -/
def Ring.used (r : Ring) : Nat := (r.prod + 65536 - r.cons) % 65536

/-- Depth taken at ENABLE (15 R432). -/
def Ring.depth (r : Ring) : Nat := 2 ^ r.depthTaken

/-- The producer of a ring is the host (15 R433). -/
def hostRing (r : Nat) : Bool := r < 8 || r = 24 || r = 25 || r = 30 || r = 31

/-- ATTACH: the ring is tunnelled (15 R443; rings 30 and 31 never, R434). -/
def attached (c : Chip) (r : Nat) : Bool := r < 30 && c.active && mbit c.cfg.sys.tunnel r

/-- Ring STATUS (15 R431). -/
def ringStatus (c : Chip) (n : Nat) : Nat :=
  let r := vget c.mb.rings n
  let served := r.enable && !r.stopped && (!attached c n || c.mb.tunOpen)
  bits [r.badEntry, r.overflow, !hostRing n && decide (r.depth ≤ r.used) && r.enable, r.msgAborted, r.resendLimit, r.dmaFault,
    served] + 65536 * r.expect

/-- RSTSTAT CAUSE codes (18 R501). -/
def Cause.code : Cause → Nat
  | .powerOn => 0 | .resetN => 1 | .sequence => 2 | .brownout => 3 | .clock => 4 | .overtemp => 5
  | .bootWatchdog => 6 | .sysReset => 7

/-- RSTSTAT (18 R501); the whole register reads 0 while the supply monitor is unpowered. -/
def Power.rststat (p : Power) : Nat :=
  if !p.valid then 0 else
  bits [true, false, p.refclkBad, p.srstLow, p.safeReset, p.resetStuck, p.resetLow, p.seqHold]
    + 256 * p.count + 65536 * p.cause.code + 0x100000 * p.rule + 0x1000000 * p.supplyIx

/-- DEV_STATUS (15 R431). -/
def devStatus (c : Chip) : Nat :=
  c.sys.dev.code + 256 * pairCode c.pair.st + 65536 * b2n c.sys.duhorn

/-- The pair state of a unit that holds the output token: an unpaired unit, or PRIMARY (13 R391, R397). -/
def holdsToken (c : Chip) : Bool := c.pair.st = none || c.pair.st = some .primary

/-- The unit is one of a pair that works as two (13 R396): its pair link is open. -/
def mirrors (c : Chip) : Bool := c.pair.st = some .primary && c.pair.link

/-- Line state codes (02 R67). -/
def LineSt.code : LineSt → Nat
  | .idle => 0 | .syncing => 1 | .valid => 2 | .holdover => 3 | .lost => 4

/-- Clock state codes (03 R92). -/
def ClockSt.code : ClockSt → Nat
  | .freerun => 0 | .acquiring => 1 | .locked => 2 | .holdover => 3 | .grandmaster => 4

/-- Channel state codes (04 R130). -/
def ChSt.code : ChSt → Nat
  | .unused => 0 | .down => 1 | .lock => 2 | .claiming => 3 | .ranging => 4 | .admitting => 5 | .active => 6 | .excluded => 7

/-- Engine state codes (05 R164). -/
def EngSt.code : EngSt → Nat
  | .pool => 0 | .inService => 1 | .underTest => 2 | .failed => 3

/-- Block state codes (07 R226, 14 R427). -/
def BlockSt.code : BlockSt → Nat
  | .pool => 0 | .inService => 1 | .underTest => 2 | .failed => 3

/-- Arm state codes (06 R192). -/
def ArmSt.code : ArmSt → Nat
  | .disabled => 0 | .enabling => 1 | .hold => 2 | .running => 3 | .stopping => 4 | .faulted => 5

/-- Pick state codes (08 R259). -/
def PickSt.code : PickSt → Nat
  | .pending => 0 | .planned => 1 | .active => 2 | .done => 3 | .missed => 4 | .cancelled => 5

/-- Segment state codes (08 R259). -/
def SegSt.code : SegSt → Nat
  | .proposed => 0 | .committed => 1 | .squashed => 2 | .retired => 3

/-- Profile mode codes (09 R293). -/
def Mode.code : Mode → Nat
  | .hold => 0 | .point => 1 | .table => 2 | .geared => 3 | .stream => 4

/-- Input pair state codes (11 R359). -/
def InSt.code : InSt → Nat
  | .untested => 0 | .demand => 1 | .released => 2 | .discrepancy => 3 | .faulted => 4

/-- Output pair state codes (11 R359). -/
def OutSt.code : OutSt → Nat
  | .off => 0 | .armed => 1 | .on => 2 | .offSeq => 3 | .inhibited => 4 | .fault => 5

/-- Safety connection state codes (11 R361). -/
def ConnSt.code : ConnSt → Nat
  | .sync => 0 | .opened => 1 | .timeout => 2

/-- Metrology state codes (12 R388). -/
def MetroSt.code : MetroSt → Nat
  | .run => 0 | .adjust => 1 | .fwInvalid => 2 | .noContact => 3

end Sys2Proof.Machine
end

