-- ==== Sys2Proof/Machine/Operands.lean ====
section
/-!
DEFINITION. Reading the operands of commands: index ranges, masks, reserved fields, ring acceptance, pair handling.
-/

namespace Sys2Proof.Machine

open Sys2Proof

/-- A layout of exactly `n` bytes whose listed checks hold (16 R449: length, reserved fields, choices, ranges). -/
def lay (n : Nat) (checks : Bytes → List Bool) (b : Bytes) : Bool := b.length = n && (checks b).all id

/-- A request with no payload. -/
def layNone (b : Bytes) : Bool := b.isEmpty

/-- The byte at `off` is at most `hi`. -/
def bLe (b : Bytes) (off hi : Nat) : Bool := byteN b off ≤ hi

/-- Arm, axis, node, line and target indices (16 R449, Indices). -/
def isArm (n : Nat) : Bool := n < 12
def isAxis (n : Nat) : Bool := n < 128
def isNode (n : Nat) : Bool := 1 ≤ n && n ≤ 24
def isLine (n : Nat) : Bool := n < 4

/-- Target byte of 09 R293: 0x00-0x0B an arm, 0x40-0x5F AUX0-AUX31; the owner number 0-43. -/
def targetOwner (t : Nat) : Option Nat :=
  if t < 12 then some t else if 0x40 ≤ t && t ≤ 0x5F then some (12 + (t - 0x40)) else none

/-- The target byte of an owner number. -/
def ownerTarget (o : Nat) : Nat := if o < 12 then o else 0x40 + (o - 12)

/-- Commands by opcode: the opcodes of R447 that a ring can carry. -/
def listedOpcode (op : Nat) : Bool :=
  let g := op / 256; let l := op % 256
  match g with
  | 1 => 1 ≤ l && l ≤ 0x0A
  | 2 => (1 ≤ l && l ≤ 6) || (0x10 ≤ l && l ≤ 0x12) || l = 0x20
  | 3 => (1 ≤ l && l ≤ 6) || l = 0x10 || l = 0x11
  | 4 => (1 ≤ l && l ≤ 4) || l = 0x10 || l = 0x11 || l = 0x20
  | 5 => (1 ≤ l && l ≤ 4) || (0x10 ≤ l && l ≤ 0x19)
  | 6 => 1 ≤ l && l ≤ 9
  | 7 => 1 ≤ l && l ≤ 7
  | 8 => 1 ≤ l && l ≤ 0x10
  | 9 => 1 ≤ l && l ≤ 7
  | 0xA => (1 ≤ l && l ≤ 7) || l = 0x10 || l = 0x11
  | 0xB => (1 ≤ l && l ≤ 6) || (0x81 ≤ l && l ≤ 0x87)
  | 0xC => 1 ≤ l && l ≤ 4
  | 0xD => 1 ≤ l && l ≤ 5
  | 0xE => (1 ≤ l && l ≤ 3) || (0x10 ≤ l && l ≤ 0x12) || l = 0x20 || l = 0x21
  | _ => false

/-- The four identification commands (16 R448). -/
def identOpcode (op : Nat) : Bool := op = 0x0101 || op = 0x0102 || op = 0x0103 || op = 0x0108

/-- Ring acceptance of a listed opcode (16 R448, 15 R434); `duhorn` false: the boot ROM serves (17 R485). -/
def ringAccepts (duhorn : Bool) (ring op : Nat) : Bool :=
  if ring < 8 then
    duhorn && !(op = 0x0809 || op = 0x0A10 || op = 0x0A11 || (0x0B81 ≤ op && op ≤ 0x0B87) || op / 256 = 0x0E)
  else if ring = 30 then duhorn && (op = 0x0A10 || op = 0x0A11 || op = 0x0A01)
  else if ring = 31 then
    identOpcode op || (op / 256 = 0x0E && (duhorn || op = 0x0E10 || op = 0x0E11 || op = 0x0E12 || op = 0x0E20))
  else false

/-- Handling of a command in a pair (16 R447, last column; 13 R396). -/
def pairGroup (op : Nat) : PairGroup :=
  let g := op / 256; let l := op % 256
  match g with
  | 1 => if l = 4 || l = 5 then .mirrored else .unitLocal
  | 2 => if l = 1 || l = 5 || l = 0x12 then .unitLocal else .mirrored
  | 3 => if l = 3 || l = 6 then .primary else .unitLocal
  | 4 => if l = 0x10 || l = 0x11 || l = 0x20 then .primary else .unitLocal
  | 5 => if (1 ≤ l && l ≤ 4) || l = 0x12 || l = 0x14 || l = 0x17 then .unitLocal else .mirrored
  | 6 => if l = 1 || l = 8 || l = 9 then .unitLocal else if 4 ≤ l && l ≤ 6 then .primary else .mirrored
  | 7 => if l = 1 || l = 2 || l = 7 then .primary else .unitLocal
  | 8 => if l = 1 then .unitLocal else .mirrored
  | 9 => if l = 4 || l = 5 then .mirrored else .unitLocal
  | 0xA => if l = 4 || l = 5 || l = 0x10 || l = 0x11 then .mirrored else .unitLocal
  | 0xC => if l = 2 then .primary else .unitLocal
  | _ => .unitLocal

/-- Subsystem number of an opcode's or event's group, as an index of `SysCfg.evRing` (15 R440):
0 system, 1 line, 2 cell, 3 loops, 4 planner, 5 separation, 6 pairing, 7 triggers. -/
def subsystemOf (op : Nat) : Nat :=
  match op / 256 with
  | 2 => 1 | 3 => if op / 16 = 0x31 then 7 else 1
  | 4 => 2 | 5 => 3 | 8 => 3 | 6 => 4 | 7 => 4 | 9 => 5 | 0xA => 5 | 0xC => 6 | 0xD => 6 | _ => 0

end Sys2Proof.Machine
end

