-- ==== Sys2Proof/Machine/Ops.lean ====
section
/-!
DEFINITION. The named operations the meanings share: changing one unit's state, interrupts, writing entries to rings, posting
events, recording faults, deferring an effect to its boundary, and serving a host command. The block has no exception entry:
a fault or an interrupt is an effect on the state.
-/

namespace Sys2Proof.Machine

open Sys2Proof

/-! ### Changing one unit -/

def Chip.onSys (c : Chip) (f : Sys → Sys) : Chip := { c with sys := f c.sys }
def Chip.onPow (c : Chip) (f : Power → Power) : Chip := { c with pow := f c.pow }
def Chip.onMb (c : Chip) (f : Mailbox → Mailbox) : Chip := { c with mb := f c.mb }
def Chip.onBoot (c : Chip) (f : Boot → Boot) : Chip := { c with boot := f c.boot }
def Chip.onLt (c : Chip) (f : LineTime → LineTime) : Chip := { c with lt := f c.lt }
def Chip.onPt (c : Chip) (f : Ptime → Ptime) : Chip := { c with pt := f c.pt }
def Chip.onStar (c : Chip) (f : Star → Star) : Chip := { c with star := f c.star }
def Chip.onLoops (c : Chip) (f : Loops → Loops) : Chip := { c with loops := f c.loops }
def Chip.onJoints (c : Chip) (f : Joints → Joints) : Chip := { c with joints := f c.joints }
def Chip.onSolver (c : Chip) (f : Solver → Solver) : Chip := { c with solver := f c.solver }
def Chip.onPlanner (c : Chip) (f : Planner → Planner) : Chip := { c with planner := f c.planner }
def Chip.onProf (c : Chip) (f : Profiles → Profiles) : Chip := { c with prof := f c.prof }
def Chip.onSep (c : Chip) (f : Sep → Sep) : Chip := { c with sep := f c.sep }
def Chip.onSio (c : Chip) (f : Sio → Sio) : Chip := { c with sio := f c.sio }
def Chip.onMetro (c : Chip) (f : Metro → Metro) : Chip := { c with metro := f c.metro }
def Chip.onMlink (c : Chip) (f : MetroLink → MetroLink) : Chip := { c with mlink := f c.mlink }
def Chip.onPair (c : Chip) (f : Pair → Pair) : Chip := { c with pair := f c.pair }
def Chip.onSter (c : Chip) (f : Sterling → Sterling) : Chip := { c with ster := f c.ster }

/-- How far plant time runs ahead of REFCLK over `g` ns under the correction in force, in whole ns (03 R85). -/
def Chip.slewed (c : Chip) (g : Int) : Int := quot 9 (g * c.pt.corr) 65536000000000

/-- Plant time at the local instant `t`, ns since the PTP epoch: from t0 of the cycle on, at the corrected rate (03 R72, R85). -/
def Chip.plantAt (c : Chip) (t : Nat) : Int := t + c.ptOff + c.slewed ((t : Int) - c.t0)

/-- Plant time now. -/
def Chip.plant (c : Chip) : Int := c.plantAt c.now

/-- The local instant of the plant instant `x` (03 R85). -/
def Chip.localAt (c : Chip) (x : Int) : Nat := (x - c.ptOff - c.slewed (x - c.ptOff - c.t0)).toNat

/-- Cycle period in ns (01 R13). -/
def Chip.period (c : Chip) : Nat := Config.periodNs c.cfg.sys.period

/-- Cycle count carried in frames and events: n mod 2^32 (01 R13). -/
def Chip.count (c : Chip) : Nat := c.cyc % 4294967296

/-- Time moves to `t`, never back (01 R13). -/
def Chip.atTime (c : Chip) (t : Nat) : Chip := { c with now := max c.now t }

/-- An instant `off` ns of plant time after t0 of the cycle in progress (01 R14). -/
def Chip.atOff (c : Chip) (off : Nat) : Chip := c.atTime (c.localAt (c.t0 + c.ptOff + off))

/-- A wire output of the module (state field `wire`). -/
def Chip.emit (c : Chip) (kind port : Nat) (b : Bytes) : Chip := { c with wire := (kind, port, b) :: c.wire }

/-! ### Rings and interrupts -/

/-- Write-back of a ring's PROD, CONS and STATUS (15 R431), done after every index change while WB_EN is set. -/
def writeBack (c : Chip) (r : Nat) : Chip :=
  if c.mb.wbEn then
    let g := vget c.mb.rings r
    c.onMb (fun m => { m with wb := vset m.wb r (g.prod, g.cons, ringStatus c r) })
  else c

/-- A ring block changed by `f`. -/
def onRing (c : Chip) (r : Nat) (f : Ring → Ring) : Chip :=
  c.onMb (fun m => { m with rings := vmod m.rings r f })

/-- A ring block changed by `f`, with its write-back. -/
def moveRing (c : Chip) (r : Nat) (f : Ring → Ring) : Chip := writeBack (onRing c r f) r

/-- The mask bit of a vector in the MSI-X table: bit 0 of its fourth word. PRESUMED (log 80): R430 names MSI-X and does not restate it. -/
def masked (m : Mailbox) (n : Nat) : Bool := mbit (vget m.msix (4 * n + 3)) 0

/-- An MSI-X vector leaves the endpoint (15 R430), or waits in the pending-bit array while it is masked; none while the link is down
(18 R497) or PERST_N is low (18 R499). -/
def vector (c : Chip) (n : Nat) : Chip :=
  if c.pow.linkUp && !c.pow.perstLow then c.onMb (fun m =>
    if masked m n then { m with pba := mput m.pba n true } else { m with irqOut := n :: m.irqOut }) else c

/-- A word of the MSI-X table is written (15 R430): a vector that waits leaves when its mask bit falls. -/
def msixWrite (c : Chip) (w v : Nat) : Chip :=
  let n := w / 4
  let c := c.onMb (fun m => { m with msix := vset m.msix w v })
  if mbit c.mb.pba n && !masked c.mb n then vector (c.onMb (fun m => { m with pba := mput m.pba n false })) n else c

/-- Ring r raises its interrupt (15 R431): INT_STATUS bit r, and vector r unless INT_MASK bit r is set. -/
def ringInt (c : Chip) (r : Nat) : Chip :=
  if (vget c.mb.rings r).irqEn then
    let c := c.onMb (fun m => { m with intStatus := mput m.intStatus r true })
    let c := onRing c r (fun g => { g with unsignalled := 0 })
    if mbit c.mb.intMask r then c else vector c r
  else c

/-- A cause bit of ERR_STATUS is set, with vector 32 unless ERR_MASK masks it (15 R431). -/
def errSet (c : Chip) (bit : Nat) : Chip :=
  let c := c.onMb (fun m => { m with errStatus := mput m.errStatus bit true })
  if mbit c.mb.errMask bit then c else vector c 32

/-- After `n` entries are written: the interrupt at once with COALESCE 0, else after COALESCE entries (15 R431). -/
def signalled (c : Chip) (r n : Nat) : Chip :=
  let c := onRing c r (fun g => { g with unsignalled := g.unsignalled + n })
  let g := vget c.mb.rings r
  if g.coalesce = 0 || g.coalesce ≤ g.unsignalled then ringInt c r else c

/-- Entries of a message of `len` payload bytes: at least one (15 R435). -/
def entriesOf (len : Nat) : Nat := max 1 ((len + 51) / 52)

/-- The entries of a message (15 R435): FIRST, LAST, LOST_BEFORE on the first, 52 payload bytes each; `seq i` numbers them. -/
def entries (opcode cls len : Nat) (payload : Bytes) (lost : Bool) (seq : Nat → Nat) : List Entry :=
  let n := entriesOf len
  (List.range n).map fun k =>
    { opcode := opcode, seq := seq k % 65536, cls := cls, len := len,
      flags := b2n (k = 0) + 2 * b2n (k + 1 = n) + 16 * b2n (lost && k = 0),
      payload := Sys2Proof.Machine.slice payload (52 * k) 52 }

/-- The ring is in service and has room for `n` entries (15 R432, R437). -/
def ringRoom (c : Chip) (r n : Nat) : Bool :=
  let g := vget c.mb.rings r
  g.enable && !g.stopped && g.held.isEmpty && decide (g.used + n ≤ g.depth)

/-- An entry as it lies in its slot (15 R435). -/
def entryBytes (e : Entry) (retry : Bool := false) : Bytes :=
  let b := le 2 e.opcode ++ le 2 e.seq ++ le 1 (e.flags ||| 8 * b2n retry) ++ le 1 e.cls ++ le 2 e.len ++ fit 52 e.payload
  b ++ le 4 (crc32c b)

/-- A tunnel datagram: header with its check, then the entries (15 R444). -/
def tunnelBytes (session ring type ack : Nat) (es : List Bytes) : Bytes :=
  let h := le 2 1 ++ le 1 ring ++ le 1 type ++ le 2 ack ++ le 1 es.length ++ zeros 1 ++ le 4 session
  h ++ le 4 (crc32c h) ++ es.flatten

/-- A tunnel datagram as it leaves (15 R443): plant port, address and port of the KX96 and of the peer, and the datagram. -/
def tunnelFrame (c : Chip) (b : Bytes) : Bytes :=
  let g := c.cfg.sys
  le 1 g.tunPort ++ le 4 g.own.1 ++ le 2 g.own.2 ++ le 4 g.peer.1 ++ le 2 g.peer.2 ++ b

/-- Entries of a tunnelled ring leave in DATA datagrams of at most 22 (15 R444, R445). -/
def tunSend (c : Chip) (r : Nat) (es : List Entry) (retry : Bool) : Chip :=
  let k := (es.length + 21) / 22
  c.onMb (fun m => { m with
    tunOut := (List.range k).reverse.map (fun j =>
      tunnelFrame c (tunnelBytes m.session r 1 0 (((es.drop (22 * j)).take 22).map (entryBytes · retry)))) ++ m.tunOut,
    tunSent := vset m.tunSent r c.now })

/-- Entries are written to a KX96-produced ring: data, then PROD, then write-back and interrupt (15 R432, R439). -/
def putEntries (c : Chip) (r : Nat) (es : List Entry) : Chip :=
  let c := moveRing c r (fun g => { g with buf := g.buf ++ es, prod := (g.prod + es.length) % 65536 })
  if attached c r then
    if c.mb.tunOpen then tunSend (c.onMb (fun m => { m with tunTries := vmod m.tunTries r (fun n => max n 1) })) r es false else c
  else signalled c r es.length

/-- Entries that may not be dropped: written where there is room, else held back in order, with OVERFLOW (15 R431, R437). -/
def putOrHold (c : Chip) (r : Nat) (es : List Entry) : Chip :=
  if ringRoom c r es.length then putEntries c r es
  else onRing c r (fun g => { g with held := g.held ++ es, overflow := true })

/-- Held entries move to their ring as far as it has room (15 R432, R437). -/
def flushHeld (c : Chip) (r : Nat) : Chip :=
  let g := vget c.mb.rings r
  if !g.enable || g.stopped || g.held.isEmpty then c else
  let es := g.held.take (g.depth - g.used)
  putEntries (onRing c r (fun g => { g with held := g.held.drop es.length })) r es

/-- A response message for a command of ring `ring` (15 R433-R436): on rings 0-7 onto ring + 8, every entry carrying the
command's sequence; on rings 30 and 31 in place, with CONS set to PROD. -/
def respond (c : Chip) (ring seq opcode : Nat) (payload : Bytes) : Chip :=
  let es := entries opcode 2 payload.length payload false (fun _ => seq)
  if ring < 8 then putOrHold (onRing c ring (fun g => { g with msg := none })) (ring + 8) es
  else ringInt (moveRing c ring (fun g => { g with buf := es, cons := g.prod, msg := none })) ring

/-- An entry or record to be written to a ring when DELIVER_ENTRY takes it (15 R440). -/
def enqueue (c : Chip) (m : OutMsg) : Chip := c.onMb (fun b => { b with out := b.out ++ [m] })

/-- A 16-byte event record (06 R192): code, bytes 2 and 3, cycle count, detail. -/
def evBytes (c : Chip) (code b2 b3 : Nat) (detail : Bytes) : Bytes :=
  le 2 code ++ le 1 b2 ++ le 1 b3 ++ le 4 c.count ++ fit 8 detail

/-- Posts an event of subsystem `sub` on its ring (15 R440, 16 R462). -/
def post (c : Chip) (sub code b2 b3 : Nat) (detail : Bytes) : Chip :=
  enqueue c { ring := vget c.cfg.sys.evRing sub, opcode := code, cls := 3, payload := evBytes c code b2 b3 detail, len := 16 }

/-- CMD_COMPLETE on the ring of the opcode's subsystem (16 R452, R462); a command mirrored by the partner (ring 0xFF) reports none. -/
def complete (c : Chip) (opcode : Nat) (st : Status) (ring seq : Nat) (fires : Nat := 0) : Chip :=
  if ring = 0xFF then c else
  post c (subsystemOf opcode) 0x0110 0xFF 0xFF (le 2 opcode ++ le 1 st.code ++ le 1 ring ++ le 2 seq ++ le 2 fires)

/-! ### Faults -/

/-- A halting or degrading fault is detected: its cause stands at once, and the device takes the fault at the next boundary (01 R32,
R34; 16 R455). A cause that stands already is no new entry. -/
def raiseFault (c : Chip) (code : Nat) (halting : Bool) (object : Nat) (detail : Nat := 0) : Chip :=
  if (if halting then c.sys.haltCauses.any (fun h => h = (code, object))
    else c.sys.degCauses.any (fun d => d.1 = code ∧ d.2.1 = object)) then c else
  c.onSys (fun s => { s with
    due := s.due ++ [{ code := code, kind := if halting then 1 else 2, object := object, detail := detail }],
    haltCauses := if halting then s.haltCauses ++ [(code, object)] else s.haltCauses,
    degCauses := if halting then s.degCauses else s.degCauses ++ [(code, object, detail)] })

/-- The time of a fault record: wide, of its boundary (16 R456). -/
def recordFault (c : Chip) (code kind object old new detail : Nat) : Chip :=
  c.onSys (fun s =>
    let r : FaultRec := {
      code := code, kind := kind, object := object, cycle := c.count, time := c.t0 + c.ptOff,
      stOld := old, stNew := new, detail := detail, index := s.logged }
    { s with
      log := (r :: s.log).take 256, logged := inc s.logged,
      nor := if kind = 1 then ({ r with index := s.norCount } :: s.nor).take 64 else s.nor,
      norCount := if kind = 1 then inc s.norCount else s.norCount })

/-- DEVICE_FAULT (16 R462). -/
def postFault (c : Chip) (code kind object detail : Nat) : Chip :=
  post c 0 0x0103 0xFF 0xFF (le 2 code ++ le 1 kind ++ le 1 object ++ le 4 detail)

/-- A cause of a degrading fault is gone: its bit in SYS_GET_STATUS clears, and the next boundary records it (16 R455, R456). -/
def degradeGone (c : Chip) (code object : Nat) : Chip :=
  match c.sys.degCauses.find? (fun d => d.1 = code ∧ d.2.1 = object) with
  | some d => c.onSys (fun s => { s with
      degCauses := s.degCauses.filter (fun d => ¬ (d.1 = code ∧ d.2.1 = object)),
      due := s.due ++ [{ code := code, kind := 3, object := object, detail := d.2.2 }] })
  | none => c

/-- The cause of a halting fault is gone: no record (16 R456). -/
def haltGone (c : Chip) (code object : Nat) : Chip :=
  c.onSys (fun s => { s with haltCauses := s.haltCauses.filter (fun h => ¬ (h.1 = code ∧ h.2 = object)) })

/-- The device state changes, and DEVICE_STATE is posted (16 R462). -/
def setDev (c : Chip) (d : DevState) (code : Nat := 0) : Chip :=
  let old := c.sys.dev
  post (c.onSys (fun s => { s with dev := d })) 0 0x0101 0xFF 0xFF (le 1 d.code ++ le 1 old.code ++ le 2 code)

/-! ### Acyclic blocks (04 R126, R127; 13 R402) -/

/-- An acyclic block (04 R126). -/
def acycBlock (flags seq id total : Nat) (payload : Bytes) : Bytes :=
  let b := le 1 1 ++ le 1 flags ++ le 2 seq ++ le 2 id ++ le 2 total ++ fit 52 payload
  b ++ le 4 (crc32c b)

/-- The blocks of a transfer of `data`, without RETRY, with their sequences from `seq` on (04 R126, R127). -/
def acycBlocks (seq id : Nat) (data : Bytes) : List (Nat × Bytes) :=
  let n := (data.length + 51) / 52
  (List.range n).map (fun i =>
    let s := (seq + i) % 65536
    (s, acycBlock (b2n (i = 0) + 2 * b2n (i + 1 = n)) s id data.length (slice data (52 * i) 52)))

/-- A block as it is sent again (04 R127). -/
def withRetry (b : Bytes) : Bytes :=
  let h := patch (b.take 60) 1 (le 1 (byteN b 1 ||| 4))
  h ++ le 4 (crc32c h)

/-- A received block is valid (04 R126). -/
def acycValid (b : Bytes) : Bool := b.length = 64 && byteN b 0 = 1 && byteN b 1 < 8 && ru b 60 4 = crc32c (b.take 60)

/-- A pair-link transfer is queued: 0x0101 COMMAND, 0x0102 COMMIT, 0x0103 PLAN_DELTA, 0x0104 STATE (13 R402), with the cycle count
at which it takes effect and its serial number in place of the object index and subindex of R128. -/
def queueItem (c : Chip) (service due : Nat) (data : Bytes) : Chip :=
  c.onPair (fun p =>
    let t := p.tx
    let d := data.take 4084
    let m := le 2 service ++ zeros 2 ++ le 4 due ++ le 2 t.serial ++ le 2 d.length ++ d
    let bl := acycBlocks t.seq t.id m
    { p with tx := { t with
      blocks := t.blocks ++ bl.map (fun b => (t.id, { seq := b.1, data := b.2 })), seq := (t.seq + bl.length) % 65536,
      id := (t.id + 1) % 65536, serial := (t.serial + 1) % 65536 } })

/-- Data longer than a transfer holds travels in as many as it needs (13 R402, 04 R128). -/
def queueLong (c : Chip) (service due : Nat) (data : Bytes) : Chip :=
  (List.range ((data.length + 4083) / 4084)).foldl (fun c i => queueItem c service due (slice data (4084 * i) 4084)) c

/-! ### Effects that fall due later -/

/-- Cycles a boundary effect lies ahead: one, and one more for a mirrored command of a working pair (01 R19, 13 R396). -/
def ahead (c : Chip) (op : Nat) : Nat := if pairGroup op = .mirrored && mirrors c then 2 else 1

/-- The cycle count of the boundary at which a command validated now takes effect. -/
def dueCount (c : Chip) (op : Nat) : Nat := (c.cyc + ahead c op) % 4294967296

/-- The command takes effect at the boundary (15 R438). -/
def deferB (c : Chip) (op : Nat) (q : Req) (extra : Nat := 0) : Chip :=
  let d : Deferred := {
    due := c.cyc + ahead c op + extra, ring := q.ring, seq := q.seq, opcode := op, payload := q.payload }
  { c with deferB := c.deferB ++ [d] }

/-- The cycle of the next t_pr (02 R51). -/
def nextTpr (c : Chip) : Nat := if c.now < c.t0 + Config.tPr then c.cyc else c.cyc + 1

/-- The command takes effect at the next t_pr (02 R51), one cycle later when it is mirrored (13 R396). -/
def deferP (c : Chip) (op : Nat) (q : Req) : Chip :=
  let d : Deferred := { due := nextTpr c + (ahead c op - 1), ring := q.ring, seq := q.seq, opcode := op, payload := q.payload }
  { c with deferP := c.deferP ++ [d] }

/-- A next free value of the model (log 2). -/
def takeFree (c : Chip) : Chip := { c with free := c.free + 1 }

/-! ### Serving host commands -/

/-- A reply. -/
def answer (c : Chip) (st : Status) (data : Bytes := []) : Reply := { st := st, data := data, chip := c }

/-- A refusal: nothing changes. -/
def refuse (c : Chip) (st : Status) : Reply := { st := st, chip := c }

/-- The response payload of a reply (16 R449). -/
def Reply.payload (r : Reply) : Bytes :=
  le 1 r.st.code ++ zeros 3 ++ (if r.st.full || r.named then r.data else [])

/-- Whether messages of a ring are validated at all: the device state (16 R453, R461) and the ring's service (15 R432, R437). -/
def serves (c : Chip) (ring : Nat) : Bool :=
  let d := c.sys.dev
  d ≠ .off && d ≠ .reset && !c.sys.resetting && (c.sys.duhorn || ring = 31)
    && (vget c.mb.rings ring).enable && !(vget c.mb.rings ring).stopped && (!attached c ring || c.mb.tunOpen)

/-- The checks of steps 2 and 3 of R450, then the command's own: the reply. -/
def judge (op : Nat) (layout : Bytes → Bool) (body : Req → Chip → Reply) (q : Req) (c : Chip) : Reply :=
  if !ringAccepts c.sys.duhorn q.ring op then refuse c .notPermitted
  else if pairGroup op ≠ .unitLocal && !holdsToken c then refuse c .notPermitted
  else if !layout q.payload then refuse c .badParam
  else body q c

/-- A host command is served (15 R437, 16 R450); in a pair an accepted mirrored command is sent to the partner (13 R396): where its ring is served and no other message of the ring is ahead of it, it is
validated once the response ring has room for its longest response, `longest` bytes, and answered; without room it waits. -/
def serve (op longest : Nat) (layout : Bytes → Bool) (body : Req → Chip → Reply) (q : Req) (c : Chip) : Chip :=
  let this : Msg := { opcode := op, seq := q.seq, cls := 1, payload := q.payload }
  let g := vget c.mb.rings q.ring
  if !(q.ring < 8 || q.ring = 30 || q.ring = 31) then
    if q.ring = 24 || q.ring = 25 then onRing c q.ring (fun g => { g with drop := inc g.drop }) else c
  else if !serves c q.ring then c
  else if g.msg.isSome && g.msg ≠ some this then c
  else if q.ring < 8 && !ringRoom c (q.ring + 8) (entriesOf longest) then onRing c q.ring (fun g => { g with msg := some this })
  else
    let r := judge op layout body q c
    let r := if r.st.full && pairGroup op = .mirrored && mirrors c then
      { r with chip := queueItem r.chip 0x0101 (c.count + 2) (le 2 op ++ q.payload) } else r
    if r.later then onRing r.chip q.ring (fun g => { g with msg := none })
    else respond r.chip q.ring q.seq op r.payload

/-! ### The end of every command -/

/-- The conditions of GCOND [4:0] that have fallen between two states (01 R23). -/
def fallen (a b : Sys) : Nat := a.gcond &&& (b.gcond ^^^ 0x3F) &&& 0x1F

/-- What has fallen is latched (01 R23); a cause 0x0101 lasts until its condition is set again (16 R459). -/
def settleLatch (c0 c : Chip) : Chip :=
  c.onSys (fun s => { s with
    latch := s.latch ||| fallen c0.sys s, haltCauses := s.haltCauses.filter (fun h => !(h.1 = 0x0101 && mbit s.gcond h.2)) })

/-- GCOND_CHANGE once Duhorn runs (16 R462). -/
def settleReport (c0 c : Chip) : Chip :=
  if c.sys.duhorn && c.sys.gword ≠ c0.sys.gword then post c 0 0x0104 0xFF 0xFF (le 2 c.sys.gword ++ le 2 c0.sys.gword) else c

/-- A fallen condition is a halting fault in the states of R24. -/
def settleHalts (fell : Nat) (c : Chip) : Chip :=
  if c.sys.dev = .ready || c.sys.dev = .automatic || c.sys.dev = .degraded then
    (List.range 5).foldl (fun c b => if mbit fell b then raiseFault c 0x0101 true b c.sys.gword else c) c else c

/-- A change of DEV_STATE or PAIR_STATE sets STATE_CHANGE (15 R431). -/
def settleState (c0 c : Chip) : Chip := if c.sys.dev ≠ c0.sys.dev || c.pair.st ≠ c0.pair.st then errSet c 4 else c

/-- What holds of the whole module after every command, whatever it was: time never runs back; and while the control die is out
of reset a GCOND bit that has cleared is latched (01 R23), GCOND_CHANGE reports the change once Duhorn runs (16 R462), a
cleared bit is a halting fault in the states of R24 until it is set again, and a change of DEV_STATE or PAIR_STATE sets STATE_CHANGE (15 R431). -/
def settle (c0 c1 : Chip) : Chip :=
  let c := c1.atTime c0.now
  if c.sys.dev = .off || c.sys.dev = .reset then c else
  settleState c0 (settleHalts (fallen c0.sys c1.sys) (settleReport c0 (settleLatch c0 c)))

/-- A command of the control die or the safety die: the anchors (17 R464) and the metrology die (12 R365) keep what they hold. -/
def run (f : Chip → Chip) (s : State) : Host.Outcome State Fault Refusal :=
  .next { s with chip := { settle s.chip (f s.chip) with anchor := s.chip.anchor, metro := s.chip.metro } }

/-- A command that may change the anchors: it may only move a key slot onward and raise a counter (17 R464, R465). -/
def runAnchor (f : Chip → Chip) (s : State) : Host.Outcome State Fault Refusal :=
  .next { s with chip := { settle s.chip (f s.chip) with metro := s.chip.metro } }

/-- A command of the metrology die: the anchors keep what they hold. -/
def runMetro (f : Chip → Chip) (s : State) : Host.Outcome State Fault Refusal :=
  .next { s with chip := { settle s.chip (f s.chip) with anchor := s.chip.anchor } }

/-- A host command. -/
def host (op longest : Nat) (layout : Bytes → Bool) (body : Req → Chip → Reply) (q : Req) (s : State) :
    Host.Outcome State Fault Refusal :=
  run (serve op longest layout body q) s

end Sys2Proof.Machine
end

