-- ==== Sys2Proof/Machine/Mailbox.lean ====
section
/-!
DEFINITION. Meanings of the host attachment (chapter 15): the register page, doorbells and entries, interrupts, DMA faults, the
UDP tunnel. DELIVER_ENTRY and TELEMETRY_PERIOD are in Delivery.lean.
-/

namespace Sys2Proof.Machine

open Sys2Proof

/-- Every control supply is up (18 R488): indices 0-7. -/
def controlUp (c : Chip) : Bool := (List.range 8).all (fun k => (vget c.pow.sup k).up)

/-- The endpoint serves the register page (15 R431, 18 R499, R501). -/
def pageServed (c : Chip) : Bool := controlUp c && c.pow.linkUp && !c.pow.perstLow

/-- Registers outside the global block are served too: the control die is out of reset (18 R501). -/
def ringsServed (c : Chip) : Bool := pageServed c && c.sys.dev ≠ .reset && c.sys.dev ≠ .off

/-- The ring block an offset lies in, with the offset in the block (15 R431). -/
def ringOf (off : Nat) : Option (Nat × Nat) :=
  if 0x1000 ≤ off && off < 0x1800 then some ((off - 0x1000) / 64, (off - 0x1000) % 64) else none

/-- CTRL of a ring as it reads (15 R431). -/
def ctrlWord (c : Chip) (r : Nat) : Nat :=
  let g := vget c.mb.rings r
  g.depthLog2 + 16 * b2n g.enable + 32 * b2n g.irqEn + 128 * b2n (attached c r) + 65536 * g.coalesce

/-- What a register reads (15 R431). A control die in reset shows reset values but for RSTSTAT and DEV_STATE. -/
def readPage (c : Chip) (off : Nat) : Nat :=
  match ringOf off with
  | some (r, o) =>
    let g := vget c.mb.rings r
    match o with
    | 0x00 => g.baseLo | 0x04 => g.baseHi | 0x08 => ctrlWord c r | 0x0C => g.prod | 0x10 => g.cons
    | 0x14 => ringStatus c r | 0x18 => g.drop | 0x1C => g.crcErr | _ => 0
  | none =>
    match off with
    | 0x0000 => 0x00960000 + 256 * (Config.siliconRev % 256) + 1
    | 0x0004 => devStatus c
    | 0x0008 => c.sys.gword
    | 0x000C => if c.star.run then c.count else 0
    | 0x0010 => c.sys.heartbeat
    | 0x0014 => c.pow.rststat
    | 0x0020 => c.mb.intStatus | 0x0024 => c.mb.intMask
    | 0x0028 => c.mb.errStatus | 0x002C => c.mb.errMask
    | 0x0030 => 256 * c.mb.wbLo + b2n c.mb.wbEn | 0x0034 => c.mb.wbHi
    | _ =>
      if 0x8000 ≤ off && off < 0x8210 then vget c.mb.msix ((off - 0x8000) / 4)
      else if off = 0x9000 then c.mb.pba % 4294967296
      else if off = 0x9004 then c.mb.pba / 4294967296
      else 0

/-! ### Indices and rings -/

/-- PROD written (15 R431-R434, R443). -/
def doorbellOp (r v : Nat) (c : Chip) : Chip :=
  let g := vget c.mb.rings r
  if !hostRing r || attached c r then errSet c 2
  else
    let m := (v + 65536 - g.cons) % 65536
    if r ≥ 30 then
      if g.cons ≠ g.prod || g.depth / 2 < m then errSet c 1
      else moveRing c r (fun g => { g with prod := v % 65536, expectAtBell := g.expect, part := [] })
    else if g.depth < m then errSet c 1
    else moveRing c r (fun g => { g with prod := v % 65536 })

/-- CONS written (15 R432). An index that does not lie between CONS and PROD is ignored (log 21), and so is one written over PCIe to a
ring that serves only the tunnel (15 R443, log 45). -/
def consOp (r v : Nat) (c : Chip) : Chip :=
  let g := vget c.mb.rings r
  if hostRing r then errSet c 3
  else if attached c r then c
  else
    let k := (v + 65536 - g.cons) % 65536
    if g.used < k then c
    else flushHeld (moveRing c r (fun g => { g with cons := v % 65536, buf := g.buf.drop k })) r

/-- Rings whose content is held and offered again (15 R432). -/
def keepsContent (r : Nat) : Bool := (8 ≤ r && r < 16) || r = 28 || r = 29

/-- ENABLE goes from 0 to 1 (15 R432). -/
def ringOn (r : Nat) (g : Ring) : Ring :=
  let d := if 4 ≤ g.depthLog2 && g.depthLog2 ≤ 12 then g.depthLog2 else 4
  let all := if keepsContent r then g.buf ++ g.held else []
  let now := all.take (2 ^ d)
  { g with
    enable := true, base := g.baseHi * 4294967296 + g.baseLo, depthTaken := d, stopped := false,
    prod := now.length, cons := 0, expect := 0, expectAtBell := 0, buf := now, held := all.drop now.length,
    part := [], await := false, rejects := 0, abandoned := false, firstSeen := none, msg := none, unsignalled := 0 }

/-- ENABLE goes from 1 to 0 (15 R432). -/
def ringOff (r : Nat) (g : Ring) : Ring :=
  if hostRing r then { g with
    enable := false, cons := g.prod, part := [], msg := none, await := false, rejects := 0, firstSeen := none }
  else { g with enable := false }

/-- CTRL written (15 R431, R432). A tunnelled ring is in service by the tunnel alone (15 R443, log 45). -/
def ringCtrl (r v : Nat) (c : Chip) : Chip :=
  let on := mbit v 4
  let was := (vget c.mb.rings r).enable
  let c := onRing c r (fun g => { g with
    coalesce := (v / 65536) % 256, irqEn := mbit v 5, depthLog2 := v % 16 })
  if attached c r then c
  else if on && !was then moveRing c r (ringOn r)
  else if !on && was then moveRing c r (ringOff r)
  else c

def execDoorbell (ring : Fin 32) (v : Nat) : State → Host.Outcome State Fault Refusal :=
  run fun c => if ringsServed c then doorbellOp ring v c else c

def execRingEnable (ring : Fin 32) (v : Nat) : State → Host.Outcome State Fault Refusal :=
  run fun c => if ringsServed c then ringCtrl ring v c else c

def execConsWrite (ring : Fin 32) (v : Nat) : State → Host.Outcome State Fault Refusal :=
  run fun c => if ringsServed c then consOp ring v c else c

/-! ### Other registers -/

/-- Bits of a word cleared where ones are written. -/
def clearBits (x v : Nat) : Nat := x &&& (x ^^^ v)

/-- Ones written to the W1C bits of GCOND_LATCH, RSTSTAT, INT_STATUS, ERR_STATUS and ring STATUS (15 R431, 01 R23, 18 R501). -/
def w1cOp (off v : Nat) (c : Chip) : Chip :=
  match ringOf off with
  | some (r, 0x14) =>
    if ringsServed c then
      moveRing c r (fun g => { g with
        badEntry := g.badEntry && !mbit v 0, overflow := g.overflow && !mbit v 1, msgAborted := g.msgAborted && !mbit v 3,
        resendLimit := g.resendLimit && !mbit v 4, dmaFault := g.dmaFault && !mbit v 5 })
    else c
  | some _ => c
  | none =>
    if off = 0x14 then
      if pageServed c then c.onPow (fun p => { p with
        resetStuck := p.resetStuck && !mbit v 5, safeReset := p.safeReset && !mbit v 4, refclkBad := p.refclkBad && !mbit v 2 })
      else c
    else if !ringsServed c then c
    else if off = 0x08 then c.onSys (fun s => { s with latch := clearBits s.latch ((v / 256) % 32) })
    else if off = 0x20 then c.onMb (fun m => { m with intStatus := clearBits m.intStatus (v % 4294967296) })
    else if off = 0x28 then c.onMb (fun m => { m with errStatus := clearBits m.errStatus (v % 32) })
    else c

def execW1cClear (off : Nat) (v : Nat) : State → Host.Outcome State Fault Refusal := run (w1cOp off v)

/-- A read: the containing word is returned; DROP and CRC_ERR clear (15 R431). -/
def readOp (off : Nat) (c : Chip) : Chip :=
  if !pageServed c then c else
  let w := off - off % 4
  let c := c.onMb (fun m => { m with rdata := readPage c w })
  match ringOf w with
  | some (r, 0x18) => onRing c r (fun g => { g with drop := 0 })
  | some (r, 0x1C) => onRing c r (fun g => { g with crcErr := 0 })
  | _ => c

def execReadClear (off : Nat) : State → Host.Outcome State Fault Refusal := run (readOp off)

/-- A write to the page (15 R431): stored, handed to the register's own rule, or ignored with BAD_ACCESS. -/
def writeOp (off v width : Nat) (c : Chip) : Chip :=
  if !pageServed c then c
  else if off = 0x14 && width = 4 then w1cOp off v c
  else if c.sys.dev = .reset || c.sys.dev = .off then c
  else if width ≠ 4 || off % 4 ≠ 0 then errSet c 3
  else match ringOf off with
  | some (r, o) =>
    match o with
    | 0x00 => onRing c r (fun g => { g with baseLo := v - v % 4096 })
    | 0x04 => onRing c r (fun g => { g with baseHi := v })
    | 0x08 => ringCtrl r v c
    | 0x0C => doorbellOp r (v % 65536) c
    | 0x10 => consOp r (v % 65536) c
    | 0x14 => w1cOp off v c
    | _ => errSet c 3
  | none =>
    match off with
    | 0x0008 | 0x0020 | 0x0028 => w1cOp off v c
    | 0x0024 => c.onMb (fun m => { m with intMask := v })
    | 0x002C => c.onMb (fun m => { m with errMask := v % 32 })
    | 0x0030 => c.onMb (fun m => { m with wbLo := v / 256, wbEn := mbit v 0 })
    | 0x0034 => c.onMb (fun m => { m with wbHi := v })
    | _ =>
      if 0x8000 ≤ off && off < 0x8210 then msixWrite c ((off - 0x8000) / 4) v
      else errSet c 3

def execRegisterWrite (off : Nat) (v : Nat) (width : Nat) : State → Host.Outcome State Fault Refusal :=
  run (writeOp off v width)

/-- t_coal after the first unsignalled entry (15 R439). -/
def execInterruptCoalesce (ring : Fin 32) : State → Host.Outcome State Fault Refusal :=
  run fun c => if (vget c.mb.rings ring).unsignalled > 0 then ringInt c ring else c

/-- A ring DMA fails (15 R431). -/
def execDmaErr (ring : Fin 32) : State → Host.Outcome State Fault Refusal :=
  run fun c => if (vget c.mb.rings ring).enable then
    errSet (moveRing c ring (fun g => { g with dmaFault := true, stopped := true })) 0 else c

/-! ### Entries -/

/-- A command message answered without its body (15 R434-R436): nothing else changes. -/
def answerBare (c : Chip) (r seq opcode : Nat) (st : Status) : Chip := respond c r seq opcode (le 1 st.code ++ zeros 3)

/-- On rings 30 and 31, an answer at once: EXPECT moves past the whole doorbell (15 R434). -/
def answerBell (c : Chip) (r opcode : Nat) (st : Status) : Chip :=
  let g := vget c.mb.rings r
  let c := onRing c r (fun g => { g with part := [], expect := (g.expectAtBell + g.used) % 65536 })
  answerBare c r g.expectAtBell opcode st

/-- A complete message of accepted entries: judged for ring, class, count and length, and else left for its command (15 R435-R437, 16 R450). -/
def messageIn (c : Chip) (r : Nat) (es : List Entry) : Chip :=
  let f := es.headD default
  let form := f.cls = 1 && es.length = entriesOf f.len && es.all (fun e => e.len = f.len) && es.length ≤ (vget c.mb.rings r).depth
  let c := onRing c r (fun g => { g with part := [], firstSeen := none })
  if listedOpcode f.opcode && !ringAccepts c.sys.duhorn r f.opcode then answerBare c r f.seq f.opcode .notPermitted
  else if !listedOpcode f.opcode || !form then answerBare c r f.seq f.opcode .badParam
  else
    let body := (es.map (·.payload)).flatten.take f.len
    onRing c r (fun g => { g with msg := some { opcode := f.opcode, seq := f.seq, cls := f.cls, payload := body } })

/-- The entry of a read that holds. -/
def entryOf (e : EntryRead) : Entry :=
  { opcode := e.opcode, seq := e.seq, cls := e.cls, len := e.len, payload := e.payload,
    flags := b2n e.first + 2 * b2n e.last + 4 * b2n e.ackreq + 8 * b2n e.retry }

/-- One more entry is consumed from a host-produced ring. -/
def consumed (c : Chip) (r : Nat) : Chip := moveRing c r (fun g => { g with cons := (g.cons + 1) % 65536 })

/-- An entry that is consumed and discarded (15 R436, R442). -/
def discardEntry (c : Chip) (r : Nat) : Chip := onRing (consumed c r) r (fun g => { g with drop := inc g.drop })

/-- An entry is rejected (15 R436): BAD_ENTRY, the interrupt, EXPECT kept; at the fourth rejection the message is abandoned
and its command answered with CHECK_FAIL (streams have no responses, R433). -/
def rejectEntry (c : Chip) (r : Nat) : Chip :=
  let c := ringInt (onRing (consumed c r) r (fun g => { g with badEntry := true, await := true, rejects := g.rejects + 1 })) r
  let g := vget c.mb.rings r
  if g.rejects < 4 then c
  else
    let who := match g.part with
      | f :: _ => (f.opcode, f.seq)
      | [] => (0, g.expect)
    let c := onRing c r (fun g => { g with
      resendLimit := true, part := [], await := false, rejects := 0, abandoned := true })
    if r < 8 then answerBare c r who.2 who.1 .checkFail else c

/-- An accepted entry joins its message (15 R436). -/
def joinEntry (c : Chip) (r : Nat) (e : EntryRead) : Chip :=
  let c := onRing (consumed c r) r (fun g => { g with
    expect := (e.seq + 1) % 65536, await := false, rejects := 0, abandoned := false })
  let c := if e.ackreq then ringInt c r else c
  let g := vget c.mb.rings r
  if r = 24 || r = 25 then
    if e.opcode ≠ 0x0809 || e.cls ≠ 4 then onRing c r (fun g => { g with drop := inc g.drop, part := [] })
    else
      let es := (if e.first then [] else g.part) ++ [entryOf e]
      let c := if e.first && !g.part.isEmpty then onRing c r (fun g => { g with msgAborted := true }) else c
      if !e.first && g.part.isEmpty then onRing c r (fun g => { g with drop := inc g.drop })
      else if e.last then onRing c r (fun g => { g with
        part := [], msg := some { opcode := 0x0809, seq := (es.headD default).seq, cls := 4, payload := ((es.map (·.payload)).flatten).take e.len } })
      else onRing c r (fun g => { g with part := es })
  else if e.first then
    let c := match g.part with
      | f :: _ => answerBare (onRing c r (fun g => { g with msgAborted := true, part := [] })) r f.seq f.opcode .checkFail
      | [] => c
    if e.last then messageIn c r [entryOf e] else onRing c r (fun g => { g with part := [entryOf e] })
  else if g.part.isEmpty then onRing c r (fun g => { g with drop := inc g.drop })
  else if e.last then messageIn c r (g.part ++ [entryOf e])
  else onRing c r (fun g => { g with part := g.part ++ [entryOf e] })

/-- One entry of rings 0-7, 24 and 25 (15 R436): `e` is the read that held, or the last that failed. -/
def entryIn (c : Chip) (r : Nat) (e : EntryRead) : Chip :=
  let g := vget c.mb.rings r
  let c := if e.checkOk then c else onRing c r (fun g => { g with crcErr := inc g.crcErr })
  if g.abandoned then
    if e.checkOk && e.first then joinEntry c r e
    else if e.checkOk then discardEntry c r
    else rejectEntry (onRing c r (fun g => { g with rejects := 0 })) r
  else if g.await && !(e.seq = g.expect && e.retry) then discardEntry c r
  else if e.checkOk && e.seq = g.expect then joinEntry c r e
  else rejectEntry c r

/-- One entry of the lockstep rings 30 and 31 (15 R434). -/
def bellEntry (c : Chip) (r : Nat) (e : EntryRead) : Chip :=
  let g := vget c.mb.rings r
  let firstOp := match g.part with
    | f :: _ => f.opcode
    | [] => 0
  let c := if e.checkOk then c else onRing c r (fun g => { g with crcErr := inc g.crcErr })
  if !(e.checkOk && e.seq = g.expect) then
    answerBell (onRing c r (fun g => { g with badEntry := true })) r firstOp .checkFail
  else
    let es := g.part ++ [entryOf e]
    let c := onRing c r (fun g => { g with part := es, expect := (g.expect + 1) % 65536 })
    if es.length < g.used then c
    else
      let f := es.headD default
      let framed := mbit f.flags 0 && mbit (es.getLastD default).flags 1
        && (es.drop 1).all (fun x => !mbit x.flags 0) && es.dropLast.all (fun x => !mbit x.flags 1)
        && es.length = entriesOf f.len
      if framed then messageIn c r es else answerBell c r f.opcode .badParam

/-- The entry of up to four reads (15 R436): the first that holds; when all four fail, the last. Re-reads may still come. -/
def readEntry (reads : List EntryRead) : Option EntryRead :=
  match reads.find? (·.checkOk) with
  | some e => some e
  | none => if reads.length < 4 then none else reads.getLast?

def execMailboxEntryReceived (ring : Fin 32) (reads : List EntryRead) : State → Host.Outcome State Fault Refusal :=
  run fun c =>
    let g := vget c.mb.rings ring
    if !hostRing ring || attached c ring || !serves c ring || g.msg.isSome || g.used = 0 then c else
    match readEntry reads with
    | none => c
    | some e => if ring.val ≥ 30 then bellEntry c ring e else entryIn c ring e

/-! ### The UDP tunnel -/

/-- A datagram leaves the tunnel port. -/
def tunOut (c : Chip) (b : Bytes) : Chip := c.onMb (fun m => { m with tunOut := tunnelFrame c b :: m.tunOut })

def tunDrop (c : Chip) : Chip := c.onMb (fun m => { m with tunDiscard := inc m.tunDiscard })

/-- An entry as a tunnel datagram carries it. DESIGN CHOICE (log 77): reserved flags [7:5] of an entry, and a non-zero byte 7 of the
datagram's header (15 R444), are ignored: the spec names no reaction to them. -/
def parseEntry (b : Bytes) : EntryRead :=
  { opcode := ru b 0 2, seq := ru b 2 2, first := mbit (byteN b 4) 0, last := mbit (byteN b 4) 1,
    ackreq := mbit (byteN b 4) 2, retry := mbit (byteN b 4) 3, cls := byteN b 5, len := ru b 6 2,
    payload := slice b 8 52, checkOk := ru b 60 4 = crc32c (slice b 0 60) }

/-- OPEN: a new non-zero session; host-produced rings restart, KX96-produced rings resume (15 R445). -/
def tunnelOpen (c : Chip) : Chip :=
  let v := Config.tunnelSession c.mb.sessions % 4294967296
  let v := if v = 0 then 1 else v
  let c := c.onMb (fun m => { m with session := v, sessions := m.sessions + 1, tunOpen := true })
  let c := tunOut c (tunnelBytes v 0 4 0 [])
  (List.range 30).foldl (fun c r =>
    if !attached c r then c
    else if hostRing r then moveRing c r (fun g => { g with
      enable := true, expect := 0, part := [], await := false, rejects := 0, abandoned := false, msg := none })
    else
      let c := c.onMb (fun m => { m with tunTries := vset m.tunTries r 1 })
      let c := moveRing c r (fun g => { g with enable := true })
      let es := (vget c.mb.rings r).buf
      if es.isEmpty then c else tunSend c r es false) c

/-- One entry of a DATA datagram: an entry already accepted is discarded (15 R445); none is taken past an unvalidated message. -/
def tunnelEntry (r : Nat) (c : Chip) (b : Bytes) : Chip :=
  let g := vget c.mb.rings r
  let e := parseEntry b
  let behind := (g.expect + 65536 - e.seq) % 65536
  if g.msg.isSome then c
  else if e.checkOk && !g.abandoned && 0 < behind && behind < 32768 then c
  else entryIn (onRing c r (fun g => { g with prod := (g.prod + 1) % 65536 })) r e

/-- ACK: the entries up to the last one with this sequence are acknowledged, and CONS advances (15 R444). -/
def tunnelAck (r ack : Nat) (c : Chip) : Chip :=
  let g := vget c.mb.rings r
  let skip := (g.buf.takeWhile (fun e => e.seq ≠ ack)).length
  if skip = g.buf.length then c
  else
    let k := skip + ((g.buf.drop skip).takeWhile (fun e => e.seq = ack)).length
    let c := moveRing c r (fun g => { g with buf := g.buf.drop k, cons := (g.cons + k) % 65536 })
    let more := !(vget c.mb.rings r).buf.isEmpty
    flushHeld (c.onMb (fun m => { m with tunTries := vset m.tunTries r (b2n more) })) r

/-- A datagram at the tunnel port (15 R443-R445). -/
def tunnelIn (src port : Nat) (d : Bytes) (c : Chip) : Chip :=
  if c.cfg.sys.tunnel = 0 || !c.active then c
  else
    let ring := byteN d 2; let ty := byteN d 3; let n := byteN d 6
    let good := (src, port) = c.cfg.sys.peer && d.length = 16 + 64 * n && ru d 0 2 = 1 && ru d 12 4 = crc32c (slice d 0 12)
      && (ty = 1 → 1 ≤ n ∧ n ≤ 22) && (ty ≠ 1 → n = 0) && 1 ≤ ty && ty ≤ 3
    if !good then tunDrop c
    else if ty = 3 then (if ru d 8 4 = 0 then tunnelOpen c else tunDrop c)
    else if !c.mb.tunOpen || ru d 8 4 ≠ c.mb.session || !attached c ring then tunDrop c
    else if ty = 1 then
      if !hostRing ring then tunDrop c
      else
        let c := (List.range n).foldl (fun c k => tunnelEntry ring c (slice d (16 + 64 * k) 64)) c
        let e := (vget c.mb.rings ring).expect
        tunOut c (tunnelBytes c.mb.session ring 2 ((e + 65535) % 65536) [])
    else if hostRing ring then tunDrop c
    else tunnelAck ring (ru d 4 2) c

def execTunnelDatagram (src port : Nat) (dgram : Bytes) : State → Host.Outcome State Fault Refusal := run (tunnelIn src port dgram)

/-- 2 ms without acknowledgement: re-sent with RETRY; after the fourth sending the tunnel is down (15 R445). -/
def execTunnelResend (ring : Fin 32) : State → Host.Outcome State Fault Refusal :=
  run fun c =>
    let g := vget c.mb.rings ring
    if !attached c ring || hostRing ring || !c.mb.tunOpen || g.buf.isEmpty then c
    else if vget c.mb.tunTries ring < 4 then
      let c := c.atTime (vget c.mb.tunSent ring + 2000000)
      tunSend (c.onMb (fun m => { m with tunTries := vmod m.tunTries ring (· + 1) })) ring g.buf true
    else
      let c := c.atTime (vget c.mb.tunSent ring + 2000000)
      c.onMb (fun m => { m with tunOpen := false })

end Sys2Proof.Machine
end

