-- ==== Sys2Proof/Machine/System.lean ====
section
/-!
DEFINITION. Meanings of the device-wide commands (chapter 16): identification, status, device state, clearing a halt, fault log,
environment, echo, reset, latch; and of the readings that feed them.
-/

namespace Sys2Proof.Machine

open Sys2Proof

/-! ### Arms and auxiliary axes, as the device states ask of them -/

/-- Every arm satisfies `p`. -/
def allArms (c : Chip) (p : ArmSeq → Bool) : Bool := (List.range 12).all (fun a => p (vget c.joints.arm a))

/-- Every auxiliary axis satisfies `p`. -/
def allAux (c : Chip) (p : ArmSeq → Bool) : Bool := (List.range 32).all (fun a => p (vget c.joints.aux a))

/-- At rest, DISABLED or FAULTED (16 R459). -/
def armRest (a : ArmSeq) : Bool := a.st = .hold || a.st = .disabled || a.st = .faulted

/-- Automatic operation: AUTOMATIC, and DEGRADED entered from AUTOMATIC (01 R31). -/
def automaticOp (c : Chip) : Bool := c.sys.dev = .automatic || (c.sys.dev = .degraded && c.sys.fromAuto)

/-- The automatic-mode shut-down or its minimum off-time runs (01 R28, R31). -/
def autoOffRuns (c : Chip) : Bool :=
  c.sys.autoStopping || (match c.sys.autoOffEnd with | some e => decide (c.now < e) | none => false)

/-! ### Identification and status -/

/-- SYS_GET_IDENTITY (16 R453). -/
def bodyIdentity (_ : Req) (c : Chip) : Reply :=
  answer c .ok (le 2 0x0096 ++ le 1 Config.siliconRev ++ zeros 1 ++ fit 32 Config.unitId ++ fit 16 Config.serial
    ++ le 2 Config.madeYear ++ le 1 Config.madeWeek ++ zeros 1)

def execSysGetIdentity (q : Req) : State → Host.Outcome State Fault Refusal := host 0x0101 60 layNone bodyIdentity q

/-- Three version bytes. -/
def ver3 (v : Nat × Nat × Nat) : Bytes := le 1 v.1 ++ le 1 v.2.1 ++ le 1 v.2.2

/-- SYS_GET_VERSION (16 R453); zero in bytes 8-39 while the boot ROM serves. -/
def bodyVersion (_ : Req) (c : Chip) : Reply :=
  let rom := ver3 Config.bootRomVersion ++ zeros 1
  if !c.sys.duhorn then answer c .ok (rom ++ zeros 32)
  else
    let f := vget c.boot.fw c.boot.running
    answer c .ok (rom ++ ver3 f.version ++ le 1 c.boot.running ++ le 4 f.build ++ ver3 f.subVersion ++ zeros 1
      ++ (if c.active then le 4 c.cfg.generation ++ ver3 c.cfg.glopo ++ zeros 1 ++ le 4 c.sio.scv ++ fit 8 c.boot.imageDigest
          else zeros 20))

def execSysGetVersion (q : Req) : State → Host.Outcome State Fault Refusal := host 0x0102 40 layNone bodyVersion q

/-- The bit of byte 17 of SYS_GET_STATUS for a degrading fault code (16 R455). -/
def degradeBit (code : Nat) : Nat :=
  if code = 0x0402 then 0 else if code = 0x0501 || code = 0x0601 || code = 0x0602 then 1
  else if code = 0x0701 then 2 else if code = 0x0C01 then 3 else 4

/-- Degrading causes present (16 R453 byte 17). -/
def degradeByte (c : Chip) : Nat := maskOf 5 (fun b => c.sys.degCauses.any (fun d => degradeBit d.1 = b))

/-- Milliseconds of an interval still to run, rounded up. -/
def msLeft (now : Nat) (till : Option Nat) : Nat :=
  match till with
  | some e => (e - now + 999999) / 1000000
  | none => 0

/-- SYS_GET_STATUS (16 R453); BOOT with zero in bytes 6-35 while the boot ROM serves. -/
def bodyStatus (_ : Req) (c : Chip) : Reply :=
  if !c.sys.duhorn then answer c .ok (le 1 DevState.boot.code ++ le 1 0xFF ++ zeros 30)
  else
    let s := c.sys
    answer c .ok (le 1 s.dev.code ++ le 1 (pairCode c.pair.st) ++ le 2 s.gword ++ le 4 c.count
      ++ le 4 ((c.now - s.releasedAt) / 1000000000)
      ++ le 1 (bits [s.safetyDefaults, s.clearPending.isSome, s.autoLatched.isSome, !s.fallback.isEmpty])
      ++ le 1 (degradeByte c) ++ le 2 s.haltCode ++ le 1 s.haltObject ++ zeros 3 ++ le 4 s.haltCycle ++ le 4 s.logged
      ++ le 4 (msLeft c.now s.autoOffEnd))

def execSysGetStatus (q : Req) : State → Host.Outcome State Fault Refusal := host 0x0103 36 layNone bodyStatus q

/-! ### Changing the device state -/

/-- The layout of SET_DEVICE_STATE: four targets (16 R458). -/
def laySetState : Bytes → Bool := lay 4 fun b => [4 ≤ byteN b 0 && byteN b 0 ≤ 7, rsv b 1 3]

/-- Bytes 4-11 of its response: the present state and a cycle count. -/
def stateReply (c : Chip) (st : Status) (cyc : Nat) : Reply :=
  answer c st (le 1 c.sys.dev.code ++ zeros 3 ++ le 4 cyc)

/-- The request for AUTOMATIC that is latched is ended with a status (01 R30). -/
def dropLatchedAuto (c : Chip) (st : Status) : Chip :=
  match c.sys.autoLatched with
  | some o => complete (c.onSys (fun s => { s with autoLatched := none })) o.opcode st o.ring o.seq
  | none => c

/-- Why a target cannot be entered from the present state, in the order of R450 step 5; none: it can (01 R33, 16 R458). -/
def stateBars (c : Chip) (target : Nat) : Option Status :=
  let d := c.sys.dev
  let staging := d = .configured || d = .commissioning
  if target = 4 then
    if d = .commissioning && allArms c (·.st = .disabled) then none else some .refusedState
  else if target = 5 then
    if d = .configured && c.sys.haltCauses.isEmpty then none else some .refusedState
  else if target = 6 then
    if staging then
      if !c.sys.confirmed then some .unconfirmed else if c.sys.allOk then none else some .refusedState
    else if d = .automatic then none
    else if d = .degraded then
      if degradeByte c ≠ 0 then some .refusedState
      else if c.sys.fromAuto then none
      else if !c.sys.confirmed then some .unconfirmed
      else if c.sys.allOk then none else some .refusedState
    else some .refusedState
  else if d = .ready || d = .degraded then
    if d = .degraded && degradeByte c ≠ 0 then some .refusedState
    else if !c.sys.confirmed then some .unconfirmed
    else if c.sys.allOk && !c.sys.safetyDefaults then none else some .refusedState
  else some .refusedState

/-- A change to READY that waits for every arm in HOLD (16 R458). -/
def slowReady (c : Chip) (target : Nat) : Bool := target = 6 && automaticOp c

/-- SET_DEVICE_STATE (16 R458). Latching of AUTOMATIC comes before the other conditions (01 R28, log 22). -/
def bodySetState (q : Req) (c : Chip) : Reply :=
  let t := byteN q.payload 0
  let o : Owed := { opcode := 0x0104, ring := q.ring, seq := q.seq }
  if t = c.sys.dev.code then
    let c := if t = 6 then dropLatchedAuto c .refusedState else c
    stateReply c .ok c.count
  else if t = 7 && (c.sys.dev = .ready || (c.sys.dev = .degraded && !c.sys.fromAuto)) && autoOffRuns c then
    stateReply ((dropLatchedAuto c .refusedState).onSys (fun s => { s with autoLatched := some o })) .queued 0xFFFFFFFF
  else match stateBars c t with
  | some st => refuse c st
  | none =>
    if slowReady c t then
      if c.sys.readyWait.isSome then refuse c .busy
      else stateReply (deferB c 0x0104 q) .queued 0xFFFFFFFF
    else stateReply (deferB c 0x0104 q) .queued (dueCount c 0x0104)

def execSetDeviceState (q : Req) : State → Host.Outcome State Fault Refusal := host 0x0104 12 laySetState bodySetState q

/-! ### Clearing a halt -/

/-- CLEAR_FAULT (16 R459). -/
def bodyClearFault (q : Req) (c : Chip) : Reply :=
  let bars := firstFail [
    (c.sys.dev ≠ .faultHalt, Status.refusedState),
    (!c.sys.haltCauses.isEmpty, .refusedState),
    (!(allArms c armRest && allAux c armRest), .refusedState),
    (c.sys.clearPending.isSome, .busy)]
  match bars with
  | some st => refuse c st
  | none =>
    answer (c.onSys (fun s => { s with
      clearPending := some ({ opcode := 0x0105, ring := q.ring, seq := q.seq }, c.now + 60000000000) })) .queued

def execClearFault (q : Req) : State → Host.Outcome State Fault Refusal := host 0x0105 4 layNone bodyClearFault q

/-- CLEAR_PENDING ends with a status (16 R459). -/
def endClear (c : Chip) (st : Status) : Chip :=
  match c.sys.clearPending with
  | some (o, _) => complete (c.onSys (fun s => { s with clearPending := none })) o.opcode st o.ring o.seq
  | none => c

/-- 60 s without an accepted reset (16 R459). -/
def execClearFaultTimeout : State → Host.Outcome State Fault Refusal :=
  run fun c => match c.sys.clearPending with
    | some (_, e) => endClear (c.atTime e) .timeout
    | none => c

/-! ### Fault log, environment, echo, reset, latch -/

/-- A fault record (16 R456). -/
def faultBytes (r : FaultRec) : Bytes :=
  let b := le 2 r.code ++ le 1 r.kind ++ le 1 r.object ++ le 4 r.cycle ++ wide r.time ++ le 1 r.stOld ++ le 1 r.stNew
    ++ le 4 r.detail ++ le 4 r.index
  b ++ le 4 (crc32c b)

/-- SYS_GET_FAULT_LOG (16 R457). -/
def layFaultLog : Bytes → Bool := lay 8 fun b => [1 ≤ byteN b 4 && byteN b 4 ≤ 4, bLe b 5 1, rsv b 6 2]

def bodyFaultLog (q : Req) (c : Chip) : Reply :=
  let first := ru q.payload 0 4
  let log := if byteN q.payload 5 = 0 then c.sys.log else c.sys.nor
  match log with
  | [] => if first = 0xFFFFFFFF then answer c .ok (zeros 4 ++ le 4 0xFFFFFFFF ++ le 4 0xFFFFFFFF) else refuse c .badParam
  | top :: _ =>
    let from' := if first = 0xFFFFFFFF then some log else
      (match log.dropWhile (fun r => r.index ≠ first) with | [] => none | l => some l)
    match from' with
    | none => refuse c .badParam
    | some l =>
      let recs := l.take (byteN q.payload 4)
      answer c .ok (le 1 recs.length ++ zeros 3 ++ le 4 (log.getLastD top).index ++ le 4 top.index
        ++ (recs.map faultBytes).flatten)

def execSysGetFaultLog (q : Req) : State → Host.Outcome State Fault Refusal := host 0x0106 144 layFaultLog bodyFaultLog q

/-- Supply k is within its range as SYS_GET_ENV shows it (16 R460, 18 R489). -/
def supplyIn (c : Chip) (k : Nat) : Bool :=
  let s := vget c.pow.sup k
  if k = 12 then c.metro.power && c.metro.excOk && decide (c.now < c.mlink.heard + 100000000)
  else s.up && !s.overV && (k ≠ 10 && k ≠ 11 || c.metro.power)

/-- SYS_GET_ENV (16 R460): the power figures are estimates, so each is a free value. -/
def bodyEnv (_ : Req) (c : Chip) : Reply :=
  let p := fun k => le 4 (Config.powerEstimate k c.free)
  answer (takeFree c) .ok (leI 2 c.sys.tDie ++ leI 2 c.sys.tSafe ++ leI 2 c.sys.tCase ++ leI 2 c.sys.tPeak
    ++ le 2 (maskOf 14 (supplyIn c)) ++ zeros 2 ++ p 0 ++ p 1 ++ p 2)

def execSysGetEnv (q : Req) : State → Host.Outcome State Fault Refusal := host 0x0107 28 layNone bodyEnv q

/-- SYS_ECHO (16 R460). -/
def bodyEcho (q : Req) (c : Chip) : Reply := answer c .ok q.payload

def execSysEcho (q : Req) : State → Host.Outcome State Fault Refusal := host 0x0108 1024 (fun b => b.length ≤ 1020) bodyEcho q

/-- Every node is STOPPED or has no ACTIVE channel (16 R461; node states 04 R103). -/
def nodesStopped (c : Chip) : Bool :=
  (List.range 24).all fun k =>
    let n := vget c.star.node k
    n.state = 3 || (List.range 2).all (fun h => (vget n.ch h).st ≠ .active)

/-- SYS_RESET (16 R461): the control die enters RESET within the 10 ms that follow, at the next tick of Brass (log 23). -/
def laySysReset : Bytes → Bool := lay 8 fun b => [ru b 0 4 = 0xC0DE0096, rsv b 4 4]

def bodySysReset (_ : Req) (c : Chip) : Reply :=
  let d := c.sys.dev
  let off := fun (a : ArmSeq) => a.st = .disabled || a.st = .faulted
  let bars := firstFail [
    (c.pair.st = some .primary && c.pair.partner = 2, Status.notPermitted),
    (!(d = .safeIdle || d = .configured || d = .faultHalt), .refusedState),
    (!(allArms c off && allAux c off && nodesStopped c), .refusedState)]
  match bars with
  | some st => refuse c st
  | none => answer (c.onSys (fun s => { s with resetting := true })) .ok

def execSysReset (q : Req) : State → Host.Outcome State Fault Refusal := host 0x0109 4 laySysReset bodySysReset q

/-- SYS_CLEAR_LATCH (16 R460). -/
def bodyClearLatch (q : Req) (c : Chip) : Reply :=
  let m := byteN q.payload 0
  let c := c.onSys (fun s => { s with latch := s.latch &&& (s.latch ^^^ m) })
  answer c .ok (le 2 c.sys.gword)

def execSysClearLatch (q : Req) : State → Host.Outcome State Fault Refusal :=
  host 0x010A 6 (lay 4 fun b => [bLe b 0 0x1F, rsv b 1 3]) bodyClearLatch q


end Sys2Proof.Machine
end

