-- ==== Sys2Proof/Machine/Power.lean ====
section
/-!
DEFINITION. Meanings of the supplies, the reset lands and the clocks (chapter 18). Entry to RESET and to OFF is one shared
operation each. HEARTBEAT_TICK stands here since a SYS_RESET takes effect at it (log 23).
-/

namespace Sys2Proof.Machine

open Sys2Proof

/-! ### What the monitor judges -/

/-- Every control supply is absent (18 R491). -/
def controlAbsent (c : Chip) : Bool := (List.range 8).all (fun k => !(vget c.pow.sup k).present)

/-- VSAFE and VSAFEIO are up: the supply monitor is powered (18 R492). -/
def safetyUp (c : Chip) : Bool := (vget c.pow.sup 8).up && (vget c.pow.sup 9).up

/-- SUPPLY_OK (18 R489). -/
def judgeSupply (c : Chip) : Chip :=
  let ok := (List.range 14).all fun k =>
    let s := vget c.pow.sup k
    (10 ≤ k && k ≤ 12) || (s.up && !s.overV)
  let field := let f := vget c.pow.sup 13; f.up && !f.overV && !c.pow.fieldReversed
  let held := c.sys.dev = .reset || c.sys.dev = .off
  (c.onSys (fun s => { s with supplyOk := !held && ok && !c.pow.fieldReversed })).onSio (fun s => { s with field := field })

/-- The release conditions of R493 that the model holds; REFCLK is valid when RESET_RELEASE says the die is released. -/
def releaseOk (c : Chip) : Bool :=
  controlUp c && safetyUp c && c.pow.valid && !c.pow.seqHold && !c.pow.resetLow && !c.pow.srstLow && !c.pow.hot

/-- Since when the release conditions have held (18 R493). -/
def judgeRelease (c : Chip) : Chip :=
  c.onPow (fun p => { p with releaseSince := if releaseOk c then (match p.releaseSince with | some t => some t | none => some c.now) else none })

/-- A supply's readings after a change to `mv` (18 R488). -/
def supplyAt (k mv t : Nat) (s : Supply) : Supply :=
  let (uv, up, ov, tenth) := Config.supplyRow k
  { present := tenth ≤ mv,
    up := if s.up then uv ≤ mv else up ≤ mv,
    overV := ov < mv,
    since := if s.present then s.since else t,
    risen := tenth ≤ mv && (s.risen && s.present || up ≤ mv) }

/-! ### Entry to RESET and OFF -/

/-- Order of the causes of R502; POWER_ON is no cause that arises within a reset, so any cause replaces it (log 24). -/
def causeRank : Cause → Nat
  | .sequence => 0 | .brownout => 1 | .clock => 2 | .overtemp => 3 | .resetN => 4 | .bootWatchdog => 5 | .sysReset => 6
  | .powerOn => 7

/-- The control die loses its state (18 R493): everything but time, the supplies and reset word, the anchors, flash and NOR, the
safety die's channel B with every switch open (18 R500), the pins and levels of the surroundings, and the metrology die. -/
def wipe (c : Chip) (d : DevState) : Chip :=
  let b := vget c.sio.chan 1
  let b := { b with out := vmapIdx b.out (fun _ o => { o with sw := Vector.replicate 2 false }) }
  { c with
    cyc := 0, t0 := c.now, cfg := {}, active := false,
    sys := {
      dev := d, nor := c.sys.nor, norCount := c.sys.norCount,
      tCase := c.sys.tCase, tDie := c.sys.tDie, tSafe := c.sys.tSafe, tPeak := c.sys.tCase },
    mb := {}, lt := { enc := vmapIdx c.lt.enc (fun _ e => { a := e.a, b := e.b }) }, pt := {}, ptOff := 0,
    star := { node := vmapIdx c.star.node (fun _ n => { ch := vmapIdx n.ch (fun _ h => { linkUp := h.linkUp }) }) },
    loops := {}, joints := {}, solver := {}, planner := {}, prof := {}, sep := {},
    sio := { chan := (Vector.replicate 2 {}).set 1 b, field := c.sio.field },
    mlink := { txSeq := c.mlink.txSeq, link := c.mlink.link, heard := c.mlink.heard, copy := c.mlink.copy },
    pair := {}, ster := {}, deferB := [], deferP := [], wire := [],
    boot := { c.boot with
      watchdog := none, recovery := false, op := none, activation := none, runTrial := false,
      revertedNote := false, imageDigest := [], firstFailed := 0 } }

/-- The control die enters RESET (18 R493, R499, R501, R502): COUNT rises for an entry, CAUSE is replaced only by an earlier one. -/
def enterReset (c : Chip) (cause : Cause) (sup : Nat := 15) (rule : Nat := 0) : Chip :=
  let already := c.sys.dev = .reset || c.sys.dev = .off
  let takes := !already || causeRank cause < causeRank c.pow.cause
  let p := c.pow
  let p := if takes then { p with
    cause := cause, supplyIx := if cause = .sequence || cause = .brownout then sup else 15,
    rule := if cause = .sequence then rule else 0 } else p
  let p := if already then p else { p with count := min (p.count + 1) 255 }
  let p := { p with rstoutLow := true, releaseSince := none, seqHold := p.seqHold || cause = .sequence }
  let c := { c with pow := p }
  judgeRelease (if c.sys.dev = .reset then c else wipe c (if c.sys.dev = .off then .off else .reset))

/-- The control die leaves OFF when a supply is present, and enters it when every control and safety supply is gone (01 R33). -/
def judgeOff (c : Chip) : Chip :=
  let gone := controlAbsent c && !(vget c.pow.sup 8).present && !(vget c.pow.sup 9).present
  if gone then (if c.sys.dev = .off then c else wipe c .off)
  else if c.sys.dev = .off then c.onSys (fun s => { s with dev := .reset }) else c

/-! ### Supplies -/

/-- The rule of R490 that a supply breaks as it becomes present (rules 1-4), judged on the others. -/
def riseRule (c : Chip) (k : Nat) : Nat :=
  let up := fun j => (vget c.pow.sup j).up
  if k = 1 && !up 0 then 1
  else if (k = 2 || k = 3) && !(up 0 && up 1) then 2
  else if 4 ≤ k && k ≤ 7 && !(up 2 && up 3) then 3
  else if (k = 7 && !up 4) || (k = 6 && !up 7) then 4
  else 0

/-- A supply becomes present or up and is judged (18 R490, R501). -/
def riseOp (k mv t : Nat) (c : Chip) : Chip :=
  let c := c.atTime t
  let old := vget c.pow.sup k
  let new := supplyAt k mv c.now old
  let control := k < 8
  -- a rise after a full absence is a POWER_ON entry
  let c := if control && new.present && !old.present && c.pow.nextPowerOn && c.pow.valid then
      c.onPow (fun p => { p with
        nextPowerOn := false, seqHold := false, cause := .powerOn, supplyIx := 15, rule := 0, count := min (p.count + 1) 255 })
    else c
  let c := if control && new.present then c.onPow (fun p => { p with absentSince := none }) else c
  let broken := if control && new.present && !old.present then riseRule c k else 0
  let broken := if broken = 0 && control && new.up && !old.risen && 20000000 < c.now - old.since && old.present then 6 else broken
  let broken := if broken = 0 && control && new.overV then 7 else broken
  let c := c.onPow (fun p => { p with sup := vset p.sup k new, fieldReversed := p.fieldReversed && k ≠ 13 })
  -- the supply monitor powers up with the safety supplies
  let c := if !c.pow.valid && safetyUp c then c.onPow (fun p => { p with
      valid := true, cause := .powerOn, supplyIx := 15, rule := 0, count := 1, seqHold := false,
      nextPowerOn := false, absentSince := if controlAbsent c then some c.now else none }) else c
  let c := judgeOff c
  let c := if broken ≠ 0 && c.pow.valid then enterReset c .sequence k broken else c
  let c := if k = 13 && new.up && !new.overV then c.onLt (fun l => { l with enc := vmapIdx l.enc (fun _ e => { e with epwr := true }) }) else c
  judgeRelease (judgeSupply c)

def execSupplyRise (sup : Fin 14) (mv : Nat) (t : Nat) : State → Host.Outcome State Fault Refusal := run (riseOp sup mv t)

/-- A broken rule holds the control die with SEQ_HOLD (18 R491). -/
def execSequenceViolation (rule : Nat) (sup : Fin 14) (t : Nat) : State → Host.Outcome State Fault Refusal :=
  run fun c => if c.pow.valid && sup.val < 8 then enterReset (c.atTime t) .sequence sup rule else c

/-- Supplies that may not be present when supply k ceases to be (18 R490 rule 5). -/
def laterThan : Nat → List Nat
  | 0 => [1, 2, 3, 4, 5, 6, 7] | 1 => [2, 3, 4, 5, 6, 7] | 2 => [4, 5, 6, 7] | 3 => [4, 5, 6, 7]
  | 4 => [7] | 7 => [6] | _ => []

/-- A control supply that was up falls below its undervoltage threshold (18 R493), or one collapses out of order below 10 % (rule 5). -/
def brownOp (k mv t : Nat) (c : Chip) : Chip :=
  let old := vget c.pow.sup k
  let new := supplyAt k mv t old
  if 8 ≤ k || new.up then c else
  let c := (c.atTime t).onPow (fun p => { p with sup := vset p.sup k new })
  let collapsed := old.present && !new.present && (laterThan k).any (fun j => (vget c.pow.sup j).present)
  let c := if controlAbsent c then
    c.onPow (fun p => { p with absentSince := match p.absentSince with | some a => some a | none => some c.now }) else c
  let c := if !c.pow.valid then c
    else if collapsed then enterReset c .sequence k 5 else if old.up then enterReset c .brownout k else c
  judgeOff (judgeSupply c)

def execBrownout (sup : Fin 14) (mv : Nat) (t : Nat) : State → Host.Outcome State Fault Refusal := run (brownOp sup mv t)

/-- Every control supply absent for t_sqoff (18 R491, R501). -/
def execSupplyAbsent (t : Nat) : State → Host.Outcome State Fault Refusal :=
  run fun c => match c.pow.absentSince with
    | some a =>
      if controlAbsent c && a + Config.tSqoff ≤ t then
        (c.atTime t).onPow (fun p => { p with seqHold := false, nextPowerOn := p.valid })
      else c
    | none => c

/-- The safety die's channel B, Iron and safety layer lose their state; every channel B switch opens (18 R492, R499). -/
def resetSafetyDie (c : Chip) : Chip :=
  let c := c.onSio (fun s => { s with chan := vset s.chan 1 {} })
  c.onPow (fun p => { p with safeRun := false })

/-- Loss of VSAFE or VSAFEIO (18 R492). -/
def safetyLossOp (io : Bool) (t : Nat) (c : Chip) : Chip :=
  let c := resetSafetyDie (c.atTime t)
  let c := enterReset c .brownout (if io then 9 else 8)
  let c := c.onPow (fun p => { p with
    sup := vset p.sup (if io then 9 else 8) {}, valid := false, supplyIx := 15, rule := 0, cause := .powerOn, count := 1,
    seqHold := false, resetStuck := false, safeReset := false, refclkBad := false, nextPowerOn := false, releaseSince := none })
  judgeOff (judgeSupply c)

def execSafetySupplyLoss (io : Bool) (t : Nat) : State → Host.Outcome State Fault Refusal := run (safetyLossOp io t)

/-- VFIELD out of range or reversed (18 R494): encoder supplies off, SUPPLY_OK 0; the channels act in their next logic cycles. -/
def fieldOp (reversed : Bool) (mv : Nat) (c : Chip) : Chip :=
  let new := supplyAt 13 mv c.now (vget c.pow.sup 13)
  if !reversed && new.up && !new.overV then c else
  let c := c.onPow (fun p => { p with
    sup := vset p.sup 13 (if reversed then {} else new), fieldReversed := reversed })
  judgeSupply (c.onLt (fun l => { l with enc := vmapIdx l.enc (fun _ e => { e with epwr := false, retryAt := none }) }))

def execFieldSupplyFault (reversed : Bool) (mv : Nat) : State → Host.Outcome State Fault Refusal := run (fieldOp reversed mv)

/-! ### Temperature and clocks -/

/-- Readings every 1 ms (19 R511, 16 R460): ten case readings in succession above 100 °C clear TEMP_OK, the first at or below it
sets it again; a control die held for OVERTEMP may be released once its sensor reads below 110 °C (18 R495). -/
def temperatureOp (tCase tDie tSafe : Int) (c : Chip) : Chip :=
  let c := judgeRelease (c.onPow (fun p => { p with hot := p.hot && decide (110 * 256 ≤ tDie) }))
  if c.sys.dev = .off || c.sys.dev = .reset then c else
  c.onSys fun s =>
    let run := if tCase > 100 * 256 then s.hotRun + 1 else 0
    { s with
      tCase := tCase, tDie := tDie, tSafe := tSafe, tPeak := max s.tPeak tCase, hotRun := run,
      tempOk := if run = 0 then true else if 10 ≤ run then false else s.tempOk }

def execTemperatureReading (tCase tDie tSafe : Int) : State → Host.Outcome State Fault Refusal :=
  run (temperatureOp tCase tDie tSafe)

def execOvertemp (t : Nat) : State → Host.Outcome State Fault Refusal :=
  run fun c => enterReset ((c.atTime t).onPow (fun p => { p with hot := true })) .overtemp

/-- REFCLK out of its limits, or a PLL out of lock (18 R497). -/
def execClockFault (refclk : Bool) (t : Nat) : State → Host.Outcome State Fault Refusal :=
  run fun c => enterReset ((c.atTime t).onPow (fun p => { p with clockOk := false, refclkBad := p.refclkBad || refclk })) .clock

/-- A failed self-check of channel B (18 R498, 11 R347). -/
def execSafetyClockFault : State → Host.Outcome State Fault Refusal :=
  run fun c =>
    let c := c.onSio (fun s => { s with chan := vmod s.chan 1 (fun h => { h with fault := true, selfFail := true, code := 12, obj := 1, faultAt := c.now }) })
    raiseFault c 0x0A0C true 1

/-! ### Reset lands -/

/-- The release conditions have held for t_pgood: BOOT (18 R493). -/
def releaseOp (t : Nat) (c : Chip) : Chip :=
  let c := if c.sys.resetting && c.sys.dev ≠ .reset && c.sys.dev ≠ .off then enterReset c .sysReset else c
  match c.pow.releaseSince with
  | some a =>
    if c.sys.dev = .reset && releaseOk c && a + Config.tPgood ≤ t then
      let c := (c.atTime t).onPow (fun p => { p with rstoutLow := false, clockOk := true, releaseSince := none })
      judgeSupply (c.onSys (fun s => { s with dev := .boot, releasedAt := c.now }))
    else c
  | none => c

def execResetRelease (t : Nat) : State → Host.Outcome State Fault Refusal := run (releaseOp t)

def execResetN (low : Bool) (t : Nat) : State → Host.Outcome State Fault Refusal :=
  run fun c =>
    let c := c.atTime t
    if low then
      let c := c.onPow (fun p => { p with resetLow := true, resetLowAt := if p.resetLow then p.resetLowAt else c.now })
      enterReset c .resetN
    else judgeRelease (c.onPow (fun p => { p with resetLow := false }))

def execResetNStuck (t : Nat) : State → Host.Outcome State Fault Refusal :=
  run fun c => if c.pow.resetLow && c.pow.resetLowAt + Config.tRstuck ≤ t then
    (c.atTime t).onPow (fun p => { p with resetStuck := true }) else c

/-- SRST_N (18 R499, R500): low resets the safety-die logic; the control die finds SIO_CHANNEL and IRON_FAIL. -/
def srstOp (low : Bool) (t : Nat) (c : Chip) : Chip :=
  let c := c.atTime t
  if low then
    let c := resetSafetyDie (c.onPow (fun p => { p with srstLow := true, safeReset := true }))
    if c.sys.dev = .reset || c.sys.dev = .off then judgeRelease c
    else
      let c := c.onSep (fun s => { s with ironFail := true })
      let c := c.onSio (fun s => { s with chan := vmod s.chan 1 (fun h => { h with fault := true, selfFail := true, code := 12, obj := 1, faultAt := c.now }) })
      raiseFault (raiseFault c 0x0A0C true 1) 0x0907 true 0xFF
  else judgeRelease (c.onPow (fun p => { p with srstLow := false }))

def execSrstN (low : Bool) (t : Nat) : State → Host.Outcome State Fault Refusal := run (srstOp low t)

/-- Duhorn reloads the safety sub-image after the release of the safety die (18 R500); the causes go, the halt stays. -/
def execSafetySubimageReload (ok : Bool) : State → Host.Outcome State Fault Refusal :=
  run fun c =>
    if ok && c.sys.duhorn && !c.pow.safeRun && !c.pow.srstLow && safetyUp c then
      let c := c.onPow (fun p => { p with safeRun := true })
      let c := c.onSio (fun s => { s with chan := vmod s.chan 1 (fun h => { h with fault := false, selfFail := false }) })
      haltGone (haltGone (c.onSep (fun s => { s with ironFail := false })) 0x0A0C 1) 0x0907 0xFF
    else c

/-- PERST_N (18 R499): the endpoint and the page are reset, and every PCIe-attached ring is disabled; high, the link trains again. -/
def perstOp (low : Bool) (c : Chip) : Chip :=
  let c := c.onPow (fun p => { p with perstLow := low, linkUp := !low })
  if !low then c else
  let c := (List.range 32).foldl (fun c r =>
    if attached c r then c else onRing c r (fun g =>
      let g := ringOff r g
      { buf := g.buf, held := g.held, prod := g.prod, cons := g.cons, nextSeq := g.nextSeq, lost := g.lost })) c
  c.onMb (fun m => { m with
    intStatus := 0, intMask := 0xFFFFFFFF, errStatus := 0, errMask := 0x1F, wbLo := 0, wbEn := false, wbHi := 0,
    msix := Vector.replicate 132 0, pba := 0 })

def execPerstN (low : Bool) : State → Host.Outcome State Fault Refusal := run (perstOp low)

def execPcieRefclkLoss : State → Host.Outcome State Fault Refusal :=
  run fun c => c.onPow (fun p => { p with linkUp := false })

/-- BEAT every 1 ms while Duhorn runs (15 R431); an accepted SYS_RESET takes effect here (16 R461, log 23). -/
def heartbeatOp (c : Chip) : Chip :=
  if !c.sys.duhorn then c
  else if c.sys.resetting then enterReset c .sysReset
  else c.onSys (fun s => { s with heartbeat := (s.heartbeat + 1) % 4294967296 })

def execHeartbeatTick : State → Host.Outcome State Fault Refusal := run heartbeatOp

end Sys2Proof.Machine
end

