-- ==== Sys2Proof/Machine/Boot.lean ====
section
/-!
DEFINITION. Meanings of boot, firmware and configuration images (chapter 17), but for IMAGE_ACTIVATION, which is in Activate.lean.
Machine/Package.lean reads packages and images from their bytes; whether a Falcon-1024 signature verifies comes with the command (log 71).
-/

namespace Sys2Proof.Machine

open Sys2Proof

/-! ### Keys, packages, boot record -/

/-- The boot record is written: the older copy, with the next sequence (17 R468). -/
def writeRec (b : Boot) : Boot := { b with recSeq := (b.recSeq + 1) % 4294967296, recCopy := 1 - b.recCopy % 2 }

/-- The configuration slot that does not hold the active image; slot 0 where none does (17 R479, log 25). -/
def stagedSlot (b : Boot) : Nat := if b.activeSlot = 0 then 1 else 0

/-- FW_EVENT (17 R486). -/
def fwEvent (c : Chip) (what image : Nat) : Chip :=
  post c 0 0x0E02 0xFF 0xFF (le 1 what ++ le 1 image ++ le 1 c.anchor.secVer ++ zeros 1 ++ le 4 (vget c.boot.fw image).build)

/-- IMAGE_EVENT (17 R486). -/
def imageEvent (c : Chip) (what : Nat) (st : Status) (sect generation : Nat) : Chip :=
  post c 0 0x0E01 0xFF 0xFF (le 1 what ++ le 1 st.code ++ le 2 sect ++ le 4 generation)

/-! ### Boot -/

/-- An unfinished burn is completed toward the later state on both dies (17 R480). -/
def completeBurn (n : Anchors) : Anchors :=
  let k := Vector.ofFn (fun j : Fin 3 => (vget n.keys j).later (vget n.safeKeys j))
  { n with keys := k, safeKeys := k }

/-- The boot ROM (17 R471): record, trial, swap, verification; it starts Duhorn or stays for recovery. -/
def bootRomOp (c : Chip) : Chip :=
  if c.sys.dev ≠ .boot || c.boot.watchdog.isSome || c.boot.recovery then c else
  let c := { c with anchor := completeBurn c.anchor }
  let b := c.boot
  let (b, reverted) :=
    if b.trial && b.attempts = 2 then
      ({ writeRec b with preferred := 1 - b.preferred % 2, trial := false, attempts := 0 }, true)
    else if b.trial then ({ writeRec b with attempts := b.attempts + 1 }, false)
    else (b, false)
  let b := if b.swapAtBoot then { writeRec b with activeSlot := stagedSlot b, swapAtBoot := false } else b
  let b := { b with revertedNote := reverted }
  let order := [b.preferred % 2, 1 - b.preferred % 2]
  match order.find? (fun k => packageValid c.anchor (vget b.fw k)) with
  | some img =>
    let c := { c with boot := { b with running := img, runTrial := b.trial && img = b.preferred, watchdog := some c.now } }
    c.onPow (fun p => { p with safeRun := true })
  | none => { c with boot := { b with recovery := true } }

def execBootRom : State → Host.Outcome State Fault Refusal := runAnchor bootRomOp

def execBootWatchdog (t : Nat) : State → Host.Outcome State Fault Refusal :=
  run fun c => match c.boot.watchdog with
    | some w => if c.sys.dev = .boot && w + Config.tBwd ≤ t then enterReset (c.atTime t) .bootWatchdog else c
    | none => c

/-- Duhorn reaches SAFE_IDLE and activates the active slot's image if it says so (17 R472). -/
def safeIdleOp (c : Chip) : Chip :=
  if c.sys.dev ≠ .boot || c.boot.watchdog.isNone then c else
  let c := c.onSys (fun s => { s with duhorn := true })
  let c := setDev c .safeIdle
  let c := fwEvent c (if c.boot.runTrial && c.boot.attempts = 1 then 1 else 0) c.boot.running
  let c := if c.boot.revertedNote then fwEvent c 2 c.boot.running else c
  let slot := vget c.boot.cfgSlot c.boot.activeSlot
  let auto := c.boot.activeSlot < 2 && slot.complete && slot.autoActivate
  c.onBoot (fun b => { b with
    watchdog := none, revertedNote := false, activation := if auto then some b.activeSlot else none })

def execSafeIdleReached : State → Host.Outcome State Fault Refusal := run safeIdleOp

/-! ### Configuration images -/

/-- Steps 1-4 of R478 for an image in flash; none: they pass. -/
def slotBars (c : Chip) (s : CfgSlot) : Option Status :=
  firstFail [
    (!(s.complete && s.wellFormed), Status.checkFail),
    (!(s.certOk && mbit (activeMask c.anchor.keys) s.certSlot), .checkFail),
    (!s.imgSig, .checkFail),
    (!verLe s.minDuhorn (vget c.boot.fw c.boot.running).version, .notPermitted)]

/-- IMAGE_GET_STATUS (17 R484). -/
def bodyImageStatus (_ : Req) (c : Chip) : Reply :=
  let st := vget c.boot.cfgSlot (stagedSlot c.boot)
  let ok := (slotBars c st).isNone
  answer c .ok (le 1 c.boot.activeSlot ++ le 1 (bits [c.boot.swapAtBoot, ok]) ++ zeros 2
    ++ le 4 (if c.active then c.cfg.generation else 0) ++ le 4 (if ok then st.generation else 0)
    ++ fit 32 c.boot.imageDigest ++ le 16 c.sys.fallbackMap ++ le 2 c.boot.firstFailed)

def execImageGetStatus (q : Req) : State → Host.Outcome State Fault Refusal := host 0x0E01 66 layNone bodyImageStatus q

/-- A chunk command's payload: offset a multiple of 16, 16 to 65 504 bytes of data from byte 16 (17 R484). -/
def chunkLay (b : Bytes) : Bool := 32 ≤ b.length && b.length ≤ 65520 && ru b 0 4 % 16 = 0
  && ru b 0 4 + (b.length - 16) ≤ ru b 4 4

/-- IMAGE_LOAD (17 R479, R484): answered when the chunk is programmed. -/
def bodyImageLoad (q : Req) (c : Chip) : Reply :=
  let p := q.payload
  let off := ru p 0 4
  let tgt := stagedSlot c.boot
  let s := vget c.boot.cfgSlot tgt
  let bars := firstFail [
    (off ≠ 0 && (off ≠ s.data.length || ru p 4 4 ≠ s.total), Status.badParam),
    (c.boot.op.isSome || c.boot.swapAtBoot, .busy)]
  match bars with
  | some st => refuse c st
  | none =>
    let c := c.onBoot (fun b => { b with
      op := some { isFw := false, ring := q.ring, seq := q.seq, target := tgt, offset := off, data := p.drop 16,
                   total := ru p 4 4, last := mbit (byteN p 8) 0 },
      cfgSlot := if off = 0 then vset b.cfgSlot tgt { total := ru p 4 4 } else b.cfgSlot })
    { st := .ok, chip := c, later := true }

def execImageLoad (q : Req) : State → Host.Outcome State Fault Refusal :=
  host 0x0E02 8 (fun b => chunkLay b && ru b 4 4 ≤ 33554432 && bLe b 8 1 && rsv b 9 7) bodyImageLoad q

/-- IMAGE_ACTIVATE (17 R479). -/
def bodyImageActivate (q : Req) (c : Chip) : Reply :=
  let mode := byteN q.payload 0
  let tgt := stagedSlot c.boot
  let staged := slotBars c (vget c.boot.cfgSlot tgt)
  let now := c.sys.dev = .safeIdle && c.boot.activation.isNone
  let bars := firstFail [
    (mode = 0 && !now, Status.refusedState),
    (c.boot.op.isSome, .busy),
    (mode ≠ 2 && staged.isSome, staged.getD .ok)]
  match bars with
  | some st => refuse c st
  | none =>
    let c := c.onBoot (fun b =>
      if mode = 0 then { writeRec b with activeSlot := tgt, activation := some tgt }
      else if mode = 1 then { writeRec b with swapAtBoot := true }
      else if b.swapAtBoot then { writeRec b with swapAtBoot := false } else b)
    answer c .ok (le 1 c.boot.activeSlot)

def execImageActivate (q : Req) : State → Host.Outcome State Fault Refusal :=
  host 0x0E03 5 (lay 4 fun b => [bLe b 0 2, rsv b 1 3]) bodyImageActivate q

/-! ### Firmware -/

/-- The 16 bytes of an image in FW_GET_STATUS (17 R484); of an image not completely written only zeros (log 20). -/
def fwBytes (n : Anchors) (f : FwImage) : Bytes :=
  if !f.complete then zeros 16 else
  le 1 (b2n (packageValid n f)) ++ le 1 f.secVer ++ ver3 f.version ++ zeros 3 ++ le 4 f.build ++ le 1 (f.signing n) ++ zeros 3

/-- Slot states, a byte each. -/
def keyBytes (k : Vector KeyState 3) : Bytes := (k.toList.map (fun s => byte s.code))

/-- FW_GET_STATUS (17 R484). -/
def bodyFwStatus (_ : Req) (c : Chip) : Reply :=
  let b := c.boot
  answer c .ok (le 1 b.running ++ le 1 b.preferred ++ le 1 (bits [b.trial, b.recovery]) ++ le 1 b.attempts
    ++ le 1 c.anchor.secVer ++ keyBytes c.anchor.keys ++ fwBytes c.anchor (vget b.fw 0) ++ fwBytes c.anchor (vget b.fw 1))

def execFwGetStatus (q : Req) : State → Host.Outcome State Fault Refusal := host 0x0E10 44 layNone bodyFwStatus q

/-- The image that 0xFF names: the one not running; in recovery, where none runs, the one not preferred (17 R474, log 25). -/
def otherImage (c : Chip) : Nat := if c.sys.duhorn then 1 - c.boot.running % 2 else 1 - c.boot.preferred % 2

/-- FW_LOAD (17 R474, R485): answered when the chunk is programmed. -/
def bodyFwLoad (q : Req) (c : Chip) : Reply :=
  let p := q.payload
  let off := ru p 0 4
  let tgt := if byteN p 8 = 0xFF then otherImage c else byteN p 8
  let f := vget c.boot.fw tgt
  let bars := firstFail [
    (off ≠ 0 && (off ≠ f.data.length || ru p 4 4 ≠ f.total), Status.badParam),
    (off = 0 && byteN p 22 < c.anchor.secVer, .notPermitted),
    (c.sys.duhorn && tgt = c.boot.running, .refusedState),
    (c.boot.op.isSome, .busy)]
  match bars with
  | some st => refuse c st
  | none =>
    let cancels := off = 0 && c.boot.trial && c.boot.preferred = tgt && !c.boot.runTrial
    let c := c.onBoot (fun b => { b with
      op := some { isFw := true, ring := q.ring, seq := q.seq, target := tgt, offset := off, data := p.drop 16,
                   total := ru p 4 4, last := mbit (byteN p 9) 0 },
      fw := if off = 0 then vset b.fw tgt { total := ru p 4 4 } else b.fw })
    let c := if cancels then
      fwEvent (c.onBoot (fun b => { writeRec b with trial := false, attempts := 0, preferred := 1 - tgt % 2 })) 4 tgt else c
    { st := .ok, chip := c, later := true }

def execFwLoad (q : Req) : State → Host.Outcome State Fault Refusal :=
  host 0x0E11 9 (fun b => chunkLay b && ru b 4 4 ≤ 67108864 && (bLe b 8 1 || byteN b 8 = 0xFF) && bLe b 9 1 && rsv b 10 6)
    bodyFwLoad q

/-- A chunk is programmed (17 R472, R484): the command is answered; with LAST the whole is checked. `sigs` and `subs` tell which of its
signatures verify: blocks of a package and of its sub-image; of an image bit 0 the certificate's, bit 1 its own. -/
def flashDone (sigs subs : Nat) (c : Chip) : Chip :=
  match c.boot.op with
  | none => c
  | some o =>
    let done := o.offset + o.data.length
    let whole := o.last && done = o.total
    if o.isFw then
      let c := c.onBoot (fun b => { b with
        op := none,
        fw := vmod b.fw o.target (fun f => { f with
          data := f.data ++ o.data, complete := whole, blocks := if whole then sigs else 0, subBlocks := if whole then subs else 0 }) })
      respond c o.ring o.seq 0x0E11 (le 1 0 ++ zeros 3 ++ le 4 done
        ++ le 1 (b2n (o.last && packageOk c.anchor (vget c.boot.fw o.target))))
    else
      let c := c.onBoot (fun b => { b with
        op := none,
        cfgSlot := vmod b.cfgSlot o.target (fun s => { s with
          data := s.data ++ o.data, complete := whole, certSig := whole && mbit sigs 0, imgSig := whole && mbit sigs 1 }) })
      respond c o.ring o.seq 0x0E02 (le 1 0 ++ zeros 3 ++ le 4 done)

def execFlashOperationDone (sigs subs : Nat) : State → Host.Outcome State Fault Refusal := run (flashDone sigs subs)

/-- FW_SWITCH (17 R473, R484). CONFIRM raises both counters to the running package's security version, never lower. -/
def bodyFwSwitch (q : Req) (c : Chip) : Reply :=
  let mode := byteN q.payload 0
  let b := c.boot
  let o := otherImage c
  let f := vget b.fw o
  let run' := vget b.fw b.running
  let minV := if c.active then (vget b.cfgSlot b.activeSlot).minDuhorn else (0, 0, 0)
  let bars := firstFail [
    (mode ≠ 0 && !c.sys.duhorn, Status.notPermitted),
    (mode = 0 && !(packageOk c.anchor f && verLe minV f.version), .refusedState),
    (mode = 1 && !(b.runTrial && b.trial), .refusedState),
    (b.op.isSome, .busy)]
  match bars with
  | some st => refuse c st
  | none =>
    let c :=
      if mode = 0 then c.onBoot (fun b => { writeRec b with preferred := o, trial := true, attempts := 0 })
      else if mode = 1 then
        let n := c.anchor
        let c := { c with anchor := { n with safeSecVer := max n.safeSecVer (min 64 run'.secVer), secVer := max n.secVer (min 64 run'.secVer) } }
        fwEvent (c.onBoot (fun b => { writeRec b with trial := false, attempts := 0, runTrial := false })) 3 b.running
      else if b.runTrial then c.onBoot (fun b => { writeRec b with preferred := o, trial := false, attempts := 0 })
      else if b.trial then c.onBoot (fun b => { writeRec b with preferred := b.running, trial := false, attempts := 0 })
      else c
    answer c .ok (le 1 c.boot.preferred ++ le 1 c.anchor.secVer)

def execFwSwitch (q : Req) : State → Host.Outcome State Fault Refusal :=
  runAnchor (serve 0x0E12 6 (lay 4 fun b => [bLe b 0 2, rsv b 1 3]) bodyFwSwitch q)

/-! ### Attestation and keys -/

/-- The metrology identity as Brass holds it (17 R481 bytes 204-219): name "CSTN", version, state, check string, event counter. -/
def metroIdentity (c : Chip) : Bytes :=
  let m := c.mlink.copy
  [0x43, 0x53, 0x54, 0x4E] ++ le 1 m.fwMajor ++ le 1 m.fwMinor ++ le 1 m.st.code ++ zeros 1 ++ fit 4 m.fwDigest ++ le 4 m.events

/-- The report of 256 bytes (17 R481). -/
def attestReport (nonce : Bytes) (c : Chip) : Bytes :=
  let f := vget c.boot.fw c.boot.running
  [0x4B, 0x58, 0x41, 0x52] ++ le 2 1 ++ le 1 c.sys.dev.code
    ++ le 1 (bits [c.sys.confirmed, c.sys.safetyDefaults, c.sys.imageOk, c.boot.runTrial])
    ++ fit 32 Config.unitId ++ fit 32 nonce ++ le 4 c.count ++ wide (c.t0 + c.ptOff) ++ le 1 c.pt.st.code
    ++ le 1 c.anchor.secVer ++ keyBytes c.anchor.keys ++ le 1 c.boot.running
    ++ ver3 Config.bootRomVersion ++ zeros 1 ++ ver3 f.version ++ zeros 1 ++ slice f.data 40 32 ++ shake256 f.subImage 32
    ++ fit 32 (if c.active then c.boot.imageDigest else []) ++ le 4 (if c.active then c.cfg.generation else 0)
    ++ le 4 (if c.active then c.sio.scv else 0) ++ metroIdentity c ++ zeros 36

/-- ATTEST_GET (17 R481, R482). -/
def bodyAttest (q : Req) (c : Chip) : Reply :=
  if byteN q.payload 0 = 1 then answer c .ok (le 2 3200 ++ zeros 2 ++ fit 3200 Config.deviceCert)
  else if !c.sys.duhorn then refuse c .notPermitted
  else
    let r := attestReport (slice q.payload 4 32) c
    answer c .ok (le 2 1536 ++ zeros 2 ++ r ++ fit 1280 (Config.falconSign 0 (shake256 r 64)))

def execAttestGet (q : Req) : State → Host.Outcome State Fault Refusal :=
  host 0x0E20 3208 (fun b => bLe b 0 1 && rsv b 1 3 && b.length = (if byteN b 0 = 0 then 36 else 4)) bodyAttest q

/-- Slot states after a rotation order (17 R480). -/
def rotated (k : Vector KeyState 3) (on off : Nat) : Vector KeyState 3 :=
  let k := vmod k on (fun s => if s = .standby then .active else s)
  if off < 3 then vset k off .revoked else k

/-- KEY_ROTATE (17 R480, R485): `keyOk`: the key the order carries is a Falcon-1024 public key; `sigOk`: its signature verifies under it
(log 71). -/
def bodyKeyRotate (keyOk sigOk : Bool) (q : Req) (c : Chip) : Reply :=
  let p := q.payload
  let on := byteN p 0
  let off := byteN p 1
  let after' := activeMask (rotated c.anchor.keys on off)
  let fwStays := (List.range 2).all (fun k => let f := vget c.boot.fw k; !f.complete || f.signing c.anchor &&& after' ≠ 0)
  let certStays := !c.active || mbit after' (vget c.boot.cfgSlot c.boot.activeSlot).certSlot
  let bars := firstFail [
    (!(c.sys.dev = .safeIdle || c.sys.dev = .configured), Status.refusedState),
    (slice p 4 32 ≠ fit 32 Config.unitId, .refusedState),
    (vget c.anchor.keys on ≠ .standby, .refusedState),
    (off ≠ 0xFF && (vget c.anchor.keys off ≠ .active || off = on), .refusedState),
    (!(fwStays && certStays), .refusedState),
    (c.boot.op.isSome, .busy),
    (!(shake256 (slice p 36 1793) 32 = vget c.anchor.keyDigest on && keyOk && sigOk), .checkFail)]
  match bars with
  | some st => refuse c st
  | none =>
    let c := { c with anchor := { c.anchor with
      safeKeys := rotated c.anchor.safeKeys on off, keys := rotated c.anchor.keys on off } }
    answer (fwEvent c 5 c.boot.running) .ok (keyBytes c.anchor.keys)

def execKeyRotate (q : Req) (keyOk sigOk : Bool) : State → Host.Outcome State Fault Refusal :=
  runAnchor (serve 0x0E21 7
    (lay 3112 fun b => [1 ≤ byteN b 0 && byteN b 0 ≤ 2, byteN b 1 ≤ 2 || byteN b 1 = 0xFF, rsv b 2 2, rsv b 1829 3])
    (bodyKeyRotate keyOk sigOk) q)

end Sys2Proof.Machine
end

