-- ==== Sys2Proof/Machine/Ptime.lean ====
section
/-!
DEFINITION. Plant time (chapter 03): the clock and its servo, the plant ports, transmit time-stamps, host frames, and the commands of
plant time and of time triggers. A step taking effect is in Star.lean, a trigger firing in Events.lean.
-/

namespace Sys2Proof.Machine

open Sys2Proof

/-! ### The clock -/

/-- The clock's state once the change decided has taken effect. -/
def Ptime.stNext (p : Ptime) : ClockSt := p.next.getD p.st

/-- The clock follows a master (03 R83). -/
def follows (s : ClockSt) : Bool := s = .acquiring || s = .locked

/-- An arm or auxiliary axis is not DISABLED, or a weigh window is open (03 R84). -/
def stepBarred (c : Chip) : Bool :=
  !((List.range 12).all (fun a => (vget c.joints.arm a).st = .disabled)
    && (List.range 32).all (fun a => (vget c.joints.aux a).st = .disabled)
    && (List.range 8).all (fun k => (vget c.metro.chan k).win.isNone))

/-- R84 on this unit; `asked`: AUTO_STEP in the image, or PTIME_STEP. -/
def stepOk (c : Chip) (asked : Bool) : Bool :=
  match c.sys.dev with
  | .safeIdle => true
  | .configured | .commissioning | .ready => asked && !stepBarred c
  | _ => false

/-- A step is permitted: R84, and in a pair on the primary only, with R84 met by the partner as its MIRROR frame says (13 R398). -/
def stepPermitted (c : Chip) (asked : Bool) : Bool :=
  stepOk c asked && (c.pair.st = none || (c.pair.st = some .primary && mbit c.pair.pFlags 3))

/-- Total correction limit, ±300 ppm in ppb Q16.16 (03 R85). -/
def corrMax : Int := 300000 * 65536

/-- The correction aimed at for an offset (03 R85): frequency, and a slew within the configured rate. -/
def corrFor (c : Chip) (o : Int) (slew : Bool) : Int :=
  let rate : Int := c.cfg.ptime.slewPpm * 1000 * 65536
  let s := if slew then clampI (-rate) rate (Config.servoSlew o c.pt.corr) else 0
  clampI (-corrMax) corrMax (Config.servoFreq o c.pt.corr + s)

/-- The stamp of a frame received at local `t`, referred to the land, in 1/655 360 ns of plant time (03 R77, R78). -/
def rxLand (c : Chip) (port : Nat) (fast : Bool) (t : Nat) : Int :=
  c.plantAt t * 655360 - (Config.rxLatency port fast * 65536 : Nat) - 10 * (vget c.pt.ports port).rxDelay

/-- Every Ethernet port stamps the frames it receives (03 R77). -/
def stampRx (c : Chip) (port : Nat) (fast : Bool) (t : Nat) : Chip :=
  c.onPt (fun p => { p with rxStamp := vset p.rxStamp port (some (rxLand c port fast t)) })

/-- The stamp of a Sync less its origin and correction field (1/65 536 ns), in 1/655 360 ns (03 R83). -/
def syncRaw (c : Chip) (port : Nat) (origin correction : Int) (rx : Nat) : Int :=
  rxLand c port false rx - origin * 655360 - correction * 10

/-- The offset from the master at a Sync, ns (03 R77, R78, R83): the stamp less origin, correction field, mean path delay and the link's
asymmetry, to the nearest ns (log 67). -/
def syncOffset (c : Chip) (port : Nat) (origin correction : Int) (rx : Nat) : Int :=
  roundDiv (syncRaw c port origin correction rx - (vget c.pt.pathDelay port + (vget c.pt.ports port).asymmetry) * 10) 655360

/-- The state machine of R83 on one measured offset. -/
def syncOp (port : Nat) (origin correction : Int) (rx : Nat) (c : Chip) : Chip :=
  let c := (stampRx (c.atTime rx) port false rx).onPt (fun p => { p with
    syncDiff := vset p.syncDiff port (some (syncRaw c port origin correction rx)) })
  if c.pt.slave ≠ some port || !follows c.pt.stNext || c.pt.step.isSome
    || (!holdsToken c && c.pair.st ≠ some .wait && c.pair.link) then c
  else
    let o := syncOffset c port origin correction rx
    let locked := c.pt.stNext = .locked
    let inWin := decide (o.natAbs ≤ c.cfg.ptime.slewWindow)
    let c := c.onPt (fun p => { p with
      offset := o,
      goodRun := if o.natAbs ≤ 100 then p.goodRun + 1 else 0,
      badRun := if 1000 < o.natAbs then p.badRun + 1 else 0 })
    if locked then
      c.onPt (fun p => { p with
        corrNext := some (corrFor c o true), next := if 4 ≤ p.badRun then some .acquiring else p.next })
    else if inWin then
      c.onPt (fun p => { p with
        corrNext := some (corrFor c o true), stepPending := false, next := if 16 ≤ p.goodRun then some .locked else p.next })
    else if stepPermitted c c.cfg.ptime.autoStep then c.onPt (fun p => { p with step := some (-o, false) })
    else c.onPt (fun p => { p with corrNext := some (corrFor c o false), stepPending := true })

def execSyncReceived (port : Fin 4) (origin correction : Int) (rx : Nat) : State → Host.Outcome State Fault Refusal :=
  run (syncOp port origin correction rx)

/-- No port is in SLAVE any more (03 R83). -/
def slaveGone (p : Ptime) : Ptime :=
  { p with slave := none, next := match p.stNext with
      | .locked => some .holdover
      | .acquiring => some .freerun
      | _ => p.next }

/-- The enabled plant ports (03 R72). -/
def plantPorts (c : Chip) : List Nat := (List.range 4).filter (fun k => (vget c.pt.ports k).profile ≠ 0)

/-- Every enabled plant port is SLAVE_ONLY: the algorithm never selects the KX96's own clock (03 R72). -/
def slaveOnlyClock (c : Chip) : Bool := !(plantPorts c).isEmpty && (plantPorts c).all (fun k => (vget c.pt.ports k).slaveOnly)

/-- The best master clock algorithm decides (03 R83): a port in SLAVE, none, or the KX96's own clock, which SLAVE_ONLY rules out. -/
def slaveOp (sel : Option Nat) (own : Bool) (c : Chip) : Chip :=
  if !c.active then c
  else if own && (!holdsToken c || slaveOnlyClock c) then c.onPt slaveGone
  else if own then c.onPt (fun p => { p with slave := none, next := if p.st = .grandmaster then none else some .grandmaster })
  else match sel with
  | none => c.onPt slaveGone
  | some k =>
    if (vget c.pt.ports k).profile = 0 then c
    else c.onPt (fun p => { p with slave := some k, next := if follows p.stNext then p.next else some .acquiring })

def execPtpPortSlave (sel : Option (Fin 4)) (ownClock : Bool) : State → Host.Outcome State Fault Refusal :=
  run (slaveOp (sel.map (·.val)) ownClock)

/-- The holdover limit expires (03 R83): FREERUN at the next boundary. -/
def execPtpHoldoverExpiry : State → Host.Outcome State Fault Refusal :=
  run fun c => match c.pt.holdEnd with
    | some e => (c.atTime e).onPt (fun p => { p with holdEnd := none, next := if p.stNext = .holdover then some .freerun else p.next })
    | none => c

/-- The cross-cell holdover limit expires (03 R87). -/
def execCrossCellHoldoverExpiry : State → Host.Outcome State Fault Refusal :=
  run fun c => match c.pt.crossEnd with
    | some e => (c.atTime e).onPt (fun p => { p with crossEnd := none, crossGone := p.crossGone || p.st = .holdover })
    | none => c

/-- An Announce accepted from the master (03 R74); stepsRemoved counts this clock too (log 30). -/
def announceOp (port : Nat) (utc : Int) (valid : Bool) (gm : Bytes) (steps : Nat) (c : Chip) : Chip :=
  let c := stampRx c port false c.now
  if c.pt.slave ≠ some port then c else
  c.onPt fun p =>
    let p := { p with announced := some (utc, valid), gmId := gm, stepsRemoved := (steps + 1) % 65536 }
    if follows p.st || p.st = .holdover then { p with utcOffset := utc, utcValid := valid } else p

def execAnnounceReceived (port : Fin 4) (utcOffset : Int) (utcValid : Bool) (gmId : Bytes) (stepsRemoved : Nat) :
    State → Host.Outcome State Fault Refusal :=
  run (announceOp port utcOffset utcValid gmId stepsRemoved)

/-- The instant of a transmitted frame at the land, in 1/655 360 ns of plant time (03 R77, R78). -/
def txLand (c : Chip) (port : Nat) (raw : Int) : Int :=
  (raw + c.ptOff + c.slewed (raw - c.t0)) * 655360 + (Config.txLatency port false * 65536 : Nat) + 10 * (vget c.pt.ports port).txDelay

/-- The mean path delay in 1/65 536 ns (03 R72, R78, R83; the two mechanisms are IEEE 1588-2019's, log 68): own request out at raw `tx`,
its answer in at `rx`. Request-response: `far` is the master's receive instant less the correction field, and the last Sync gives the
other direction. Peer delay: `far` is the responder's turnaround. Both in 1/65 536 ns. -/
def pathDelayOf (c : Chip) (port : Nat) (tx far : Int) (rx : Nat) : Option Int :=
  let out := txLand c port tx
  if (vget c.pt.ports port).profile = 1 then (vget c.pt.syncDiff port).map (fun d => quot 12 (d + far * 10 - out) 20)
  else some (quot 12 (rxLand c port false rx - out - far * 10) 20)

/-- A path-delay measurement completes on a port that takes part (03 R83). -/
def delayOp (port : Nat) (tx far : Int) (rx : Nat) (c : Chip) : Chip :=
  let c := stampRx (c.atTime rx) port false rx
  if (vget c.pt.ports port).profile = 0 then c else
  match pathDelayOf c port tx far rx with
  | some d => c.onPt (fun p => { p with pathDelay := vset p.pathDelay port d })
  | none => c

def execDelayRespReceived (port : Fin 4) (times : DelayTimes) : State → Host.Outcome State Fault Refusal :=
  run (delayOp port times.tx times.far times.rx)

/-- The correction averaged over the last 16 s (03 R83). -/
def corrAverage (now : Nat) (hist : List (Nat × Int)) (corr : Int) : Int :=
  let from' := now - 16000000000
  let w := hist.foldl (fun (acc : Int × Nat × Nat) h =>
    let start := max h.1 from'
    let d := acc.2.2 - start
    (acc.1 + h.2 * d, acc.2.1 + d, min acc.2.2 start)) (0, 0, now)
  if w.2.1 = 0 then corr else quot 3 w.1 w.2.1

/-- A new correction in force from `now` on, with those of the last 16 s (03 R83, R85). -/
def setCorr (now : Nat) (k : Int) (p : Ptime) : Ptime :=
  let old := p.corrHist
  { p with corr := k, corrHist := (now, k) :: (old.takeWhile (fun h => now ≤ h.1 + 16000000000)
      ++ (old.filter (fun h => h.1 + 16000000000 < now)).take 1) }

/-- The clock enters a state (03 R74, R83, R87). The average that HOLDOVER holds is reached at 0.1 ppm a cycle like every correction
(R85). In ACQUIRING before an Announce has been accepted, UTC offset and UTC_VALID stay as they are (log 67). -/
def enterClock (now : Nat) (g : PtimeCfg) (s : ClockSt) (p : Ptime) : Ptime :=
  let old := p.st
  let p := { p with st := s, next := none, goodRun := 0, badRun := 0, holdEnd := none, crossEnd := none, crossGone := false }
  let told := fun (p : Ptime) => match p.announced with
    | some (u, v) => { p with utcOffset := u, utcValid := v }
    | none => p
  match s with
  | .locked => told { p with traceable := true, wasTraceable := true }
  | .acquiring => told p
  | .holdover => told { p with
      corrNext := some (corrAverage now p.corrHist p.corr), holdEnd := some (now + g.holdS * 1000000000),
      crossEnd := if g.crossS = 0 then none else some (now + g.crossS * 1000000000), crossGone := g.crossS = 0 }
  | .freerun => { p with
      traceable := p.traceable && old ≠ .holdover, corrNext := none, utcOffset := g.utcOffset, utcValid := g.utcValid }
  | .grandmaster => { p with
      corrNext := none, utcOffset := g.utcOffset, utcValid := g.utcValid, gmId := g.clockId, stepsRemoved := 0 }

/-- With no plant port enabled the KX96 is grandmaster (03 R74). -/
def loneClock (c : Chip) : Chip :=
  if c.active && (plantPorts c).isEmpty && c.pt.st ≠ .grandmaster then
    c.onPt (fun p => enterClock c.now c.cfg.ptime .grandmaster { p with slave := none })
  else c

/-- The clock at a cycle boundary (03 R83, R85): the state decided, one step of at most 0.1 ppm of the correction. The PTP stack drains
its entries of the transmit queues at every boundary: R79 says within 1 ms (log 67). -/
def ptBoundary (c : Chip) : Chip :=
  (loneClock c).onPt fun p =>
    let p := match p.next with | some s => enterClock c.now c.cfg.ptime s p | none => p
    let p := { p with txq := vmapIdx p.txq (fun _ l => l.filter (fun e => 0x80 ≤ e.id)) }
    if p.step.isSome then p else
    match p.corrNext with
    | none => p
    | some t =>
      let k := clampI (p.corr - 6553600) (p.corr + 6553600) t
      if k = p.corr then { p with corrNext := none }
      else { setCorr c.now k p with corrNext := if k = t then none else some t }

/-! ### Transmit time-stamps and host frames -/


/-- The frame a host request left at the port (03 R93). -/
def txFrameOf (c : Chip) (port id : Nat) : Option (Nat × Nat × Nat × Nat × Bytes) :=
  c.pt.txFrames.find? (fun f => f.1 = port && f.2.2.1 = id)

/-- The 10-byte PTP timestamp, big-endian (03 R82). -/
def ptpStamp (t : Int) : Bytes := (leI 6 (t / 1000000000)).reverse ++ (le 4 (t % 1000000000).toNat).reverse

/-- A host frame as it leaves: with ONE_STEP the egress time is written at its offset (03 R82). -/
def departs (f : Nat × Nat × Nat × Nat × Bytes) (t : Int) : Bytes :=
  if mbit f.2.1 1 then patch f.2.2.2.2 f.2.2.2.1 (ptpStamp t) else f.2.2.2.2

/-- A value in big-endian order, as IEEE 1588-2019 has its fields (03 R82). -/
def be (n : Nat) (v : Int) : Bytes := (leI n v).reverse
def ofBe (b : Bytes) : Nat := ofLe b.reverse

/-- Where the PTP message of a frame begins, with its transport: 0 Ethernet, 1 UDP/IPv4, 2 UDP/IPv6 (03 R72, log 68). -/
def ptpAt (f : Bytes) : Option (Nat × Nat) :=
  let t := ofBe (slice f 12 2)
  if t = 0x88F7 then some (14, 0)
  else if t = 0x0800 then some (14 + 4 * (byteN f 14 % 16) + 8, 1)
  else if t = 0x86DD then some (62, 2)
  else none

/-- The sum of the sixteen-bit words of a run of bytes. -/
def wordSum : Bytes → Nat
  | a :: b :: r => a.toNat * 256 + b.toNat + wordSum r
  | [a] => a.toNat * 256
  | [] => 0

/-- The UDP checksum after the rewriter (03 R82): 0 over IPv4; over IPv6 the last two octets keep the sum as it was. -/
def fixUdp (tr o : Nat) (old f : Bytes) : Bytes :=
  if tr = 1 then patch f (o - 2) (zeros 2)
  else if tr = 2 then
    let at' := f.length - 2
    let x : Int := ofBe (slice f at' 2)
    patch f at' (be 2 ((x + wordSum (slice old o 44) - wordSum (slice f o 44)) % 65535))
  else f

/-- The frame rewriter on a PTP frame of the module's own (03 R82): the egress time in the originTimestamp of a Sync, its part below
1 ns in the correctionField; the turnaround time in the correctionField of a Pdelay_Resp. -/
def rewritten (land : Int) (rx : Option Int) (f : Bytes) : Bytes :=
  match ptpAt f with
  | none => f
  | some (o, tr) =>
    let corr := fun (b : Bytes) (d : Int) => patch b (o + 8) (be 8 (signed 8 (ofBe (slice f (o + 8) 8)) + quot 13 d 10))
    match byteN f o % 16, rx with
    | 0, _ => fixUdp tr o f (corr (patch f (o + 34) (ptpStamp (land / 655360))) (land % 655360))
    | 3, some x => fixUdp tr o f (corr f (land - x))
    | _, _ => f

/-- The frame is a Sync or a Pdelay_Resp that leaves a port which inserts its egress time (03 R82). -/
def inserts (g : PortCfg) (f : Bytes) : Bool :=
  g.oneStep && (g.profile = 1 || g.profile = 2)
    && (match ptpAt f with | some (o, _) => byteN f o % 16 = 0 || byteN f o % 16 = 3 | none => false)

/-- A transmit time-stamp is written to its queue, or lost (03 R79-R81). -/
def txEnqueue (port id seqId : Nat) (oneStep : Bool) (t : Int) (p : Ptime) : Ptime :=
  if 16 ≤ (vget p.txq port).length then
    { p with txLost := vmod p.txLost port inc, txLostBefore := vset p.txLostBefore port true }
  else
    let e : TxEntry := {
      id := id, flags := bits [vget p.wide0 port, vget p.txLostBefore port, oneStep], time := t, seqId := seqId }
    { p with txq := vmod p.txq port (· ++ [e]), txLostBefore := vset p.txLostBefore port false }

/-- A frame sent with a stamp request leaves (03 R79-R82): a PTP frame of the module's own, as its stack composed it, or the oldest host
frame of that identifier. The stamp is rounded to the nearest ns (log 67). -/
def txStampOp (port id : Nat) (raw : Int) (seqId : Nat) (isHost : Bool) (frame : Bytes) (c : Chip) : Chip :=
  let land := txLand c port raw
  let t := roundDiv land 655360
  if isHost then
    match txFrameOf c port id with
    | none => c
    | some f =>
      let c := c.emit 6 port (departs f t)
      c.onPt (fun p => txEnqueue port id 0 (mbit f.2.1 1) t { p with
        txFrames := p.txFrames.erase f, txAsked := vmod p.txAsked port (· - 1) })
  else if 0x80 ≤ id then c
  else
    let ins := inserts (vget c.pt.ports port) frame
    (c.emit 6 port (if ins then rewritten land (vget c.pt.rxStamp port) frame else frame)).onPt (txEnqueue port id seqId ins t)

def execTxTimestamp (port : Fin 6) (id : Nat) (raw : Int) (seqId : Nat) (host : Bool) (frame : Bytes) :
    State → Host.Outcome State Fault Refusal :=
  run (txStampOp port id raw seqId host frame)

/-! ### Commands -/

/-- PTIME_GET (03 R92): the time of t0 of the serving cycle. The correction field holds the value modulo 2^32: R92 names no saturation for
it, and R85 allows more than it can show (log 67). -/
def bodyPtimeGet (_ : Req) (c : Chip) : Reply :=
  let p := c.pt
  answer c .ok (le 1 p.st.code ++ le 1 (bits [p.traceable, p.stepPending, p.utcValid]) ++ leI 2 p.utcOffset
    ++ wide (c.t0 + c.ptOff) ++ le 4 c.count ++ fit 8 p.gmId ++ le 2 p.stepsRemoved ++ leI 4 (satI 32 p.offset)
    ++ leI 4 p.corr ++ le 1 (p.slave.getD 0xFF) ++ zeros 3)

def execPtimeGet (q : Req) : State → Host.Outcome State Fault Refusal := host 0x0301 44 layNone bodyPtimeGet q

/-- A port configuration of R92. -/
def parsePort (b : Bytes) : PortCfg :=
  { profile := byteN b 1, transport := byteN b 2, slaveOnly := mbit (byteN b 3) 0, oneStep := mbit (byteN b 3) 1,
    unicast := mbit (byteN b 3) 2, domain := byteN b 4, logSync := ri b 5 1, logAnnounce := ri b 6 1,
    announceTimeout := byteN b 7, txDelay := ri b 8 4, rxDelay := ri b 12 4, asymmetry := ri b 16 4 }

def layPort : Bytes → Bool := lay 20 fun b =>
  [bLe b 0 13, if byteN b 0 < 4 then bLe b 1 3 else bLe b 1 0, bLe b 2 2, bLe b 3 7,
   decide (-7 ≤ ri b 5 1 ∧ ri b 5 1 ≤ 0), decide (-3 ≤ ri b 6 1 ∧ ri b 6 1 ≤ 3), 2 ≤ byteN b 7 && byteN b 7 ≤ 10]

/-- Profile and domain in breach of R72: code 3 beside codes 1 or 2, two domains, or what the profile's row does not list; judged against
the ports in force at validation (log 67). -/
def portBreach (c : Chip) (k : Nat) (g : PortCfg) : Bool :=
  let others := (List.range 4).filter (fun j => j ≠ k && (vget c.pt.ports j).profile ≠ 0)
  k < 4 && g.profile ≠ 0 &&
    (others.any (fun j => let o := vget c.pt.ports j; decide (o.profile = 3) ≠ decide (g.profile = 3) || o.domain ≠ g.domain)
     || (g.profile = 3 && (g.transport ≠ 0 || g.oneStep || g.unicast)))

def bodyPortConfig (q : Req) (c : Chip) : Reply :=
  if portBreach c (byteN q.payload 0) (parsePort q.payload) then refuse c .notPermitted
  else answer (deferB c 0x0302 q) .ok

def execPtimePortConfig (q : Req) : State → Host.Outcome State Fault Refusal := host 0x0302 4 layPort bodyPortConfig q

/-- Its effect at the boundary (03 R93): a slave port reconfigured leaves the clock without one. -/
def applyPortConfig (b : Bytes) (c : Chip) : Chip :=
  let k := byteN b 0
  let c := c.onPt (fun p => { p with ports := vset p.ports k (parsePort b) })
  loneClock (if c.pt.slave = some k then
    c.onPt fun p =>
      let p := slaveGone p
      match p.next with | some s => enterClock c.now c.cfg.ptime s p | none => p
  else c)

/-- PTIME_STEP (03 R93): the step of the offset measured last, at the next t0. -/
def bodyPtimeStep (_ : Req) (c : Chip) : Reply :=
  let asked := match c.pt.step with | some (_, true) => true | _ => false
  let bars := firstFail [
    (!stepPermitted c true, Status.refusedState),
    (asked, .busy),
    (!c.pt.stepPending || c.pt.step.isSome, .refusedState)]
  match bars with
  | some st => refuse c st
  | none => answer (c.onPt (fun p => { p with step := some (-p.offset, true) })) .ok (leI 8 (-c.pt.offset))

def execPtimeStep (q : Req) : State → Host.Outcome State Fault Refusal := host 0x0303 12 layNone bodyPtimeStep q

def layFormat : Bytes → Bool := lay 3 fun b =>
  [bLe b 0 2, bLe b 2 1, if byteN b 0 = 0 then byteN b 1 < 6 || byteN b 1 = 0xFF else byteN b 1 = 0xFF]

/-- PTIME_FORMAT_SELECT (03 R75, R93): from the next boundary onward. -/
def bodyFormat (q : Req) (c : Chip) : Reply := answer (deferB c 0x0304 q) .ok

def execPtimeFormatSelect (q : Req) : State → Host.Outcome State Fault Refusal := host 0x0304 4 layFormat bodyFormat q

def applyFormat (b : Bytes) (c : Chip) : Chip :=
  let w := byteN b 2 = 1
  c.onPt fun p =>
    if byteN b 0 = 1 then { p with wide1 := w }
    else if byteN b 0 = 2 then { p with wide2 := w }
    else { p with wide0 := vmapIdx p.wide0 (fun i x => if byteN b 1 = 0xFF || byteN b 1 = i then w else x) }

/-- A queue entry of 16 bytes (03 R81). -/
def txEntryBytes (port : Nat) (e : TxEntry) : Bytes :=
  le 1 e.id ++ le 1 port ++ le 1 e.flags ++ zeros 1
    ++ (if mbit e.flags 0 then wide e.time else le 4 (short e.time) ++ zeros 6) ++ le 2 e.seqId

/-- PTIME_TXQ_READ (03 R80, R92): the oldest host entries leave the queue. -/
def bodyTxqRead (q : Req) (c : Chip) : Reply :=
  let k := byteN q.payload 0
  let l := vget c.pt.txq k
  let hosts := l.filter (fun e => 0x80 ≤ e.id)
  let out := hosts.take (byteN q.payload 1)
  let left := hosts.drop out.length
  answer (c.onPt (fun p => { p with txq := vset p.txq k (l.filter (fun e => e.id < 0x80) ++ left) })) .ok
    (le 1 out.length ++ le 1 left.length ++ zeros 2 ++ fit 32 ((out.map (txEntryBytes k)).flatten) ++ le 4 (vget c.pt.txLost k))

def execPtimeTxqRead (q : Req) : State → Host.Outcome State Fault Refusal :=
  host 0x0305 44 (lay 2 fun b => [bLe b 0 5, 1 ≤ byteN b 1 && byteN b 1 ≤ 2]) bodyTxqRead q

/-- The layout of PTIME_FRAME_SEND (03 R92, R93). -/
def layFrame (b : Bytes) : Bool :=
  let n := ru b 6 2
  b.length = 8 + n && [bLe b 0 5, bLe b 1 3, 0x80 ≤ byteN b 2, rsv b 3 1, 60 ≤ n && n ≤ 1514,
    !(mbit (byteN b 1) 1 && decide (n < ru b 4 2 + 10))].all id

/-- PTIME_FRAME_SEND (03 R93): a stamped frame waits in the port's best-effort queue for its TX_TIMESTAMP, another one leaves. -/
def bodyFrameSend (q : Req) (c : Chip) : Reply :=
  let b := q.payload
  let k := byteN b 0
  let stamp := mbit (byteN b 1) 0
  let waiting := vget c.pt.txAsked k + ((vget c.pt.txq k).filter (fun e => 0x80 ≤ e.id)).length
  let bars := firstFail [
    (!(c.active && mbit c.cfg.ptime.hostPorts k), Status.notPermitted),
    (stamp && 4 ≤ waiting, .busy)]
  match bars with
  | some st => refuse c st
  | none =>
    let f := (k, byteN b 1, byteN b 2, ru b 4 2, b.drop 8)
    if stamp then
      answer (c.onPt (fun p => { p with txFrames := p.txFrames ++ [f], txAsked := vmod p.txAsked k (· + 1) })) .ok
    else answer (takeFree (c.emit 6 k (departs f (Config.frameEgress c.free)))) .ok

def execPtimeFrameSend (q : Req) : State → Host.Outcome State Fault Refusal := host 0x0306 4 layFrame bodyFrameSend q

/-! ### Time triggers: arming and cancelling -/

/-- A time-trigger record (03 R89). -/
def parseTrig (slot since : Nat) (b : Bytes) : Trig :=
  { slot := slot, action := byteN b 1, report := mbit (byteN b 2) 0, fireIfPast := mbit (byteN b 2) 1, param := ru b 4 2,
    target := ofWide b 8, period := ru b 18 4, count := ru b 22 4, tag := ru b 26 4, since := since }

/-- Reserved parts of a trigger's parameter (02 R55). -/
def trigParamOk (action param : Nat) : Bool :=
  match action with
  | 1 => param = 0
  | 2 | 3 => true
  | 6 => 1 ≤ param % 256 && param % 256 ≤ 24 && param / 2048 = 0
  | _ => false

def layTrig : Bytes → Bool := lay 32 fun b =>
  [byteN b 0 < 32 || byteN b 0 = 0xFF, trigParamOk (byteN b 1) (ru b 4 2), bLe b 2 3, rsv b 3 1, rsv b 6 2, ru b 14 4 < 1000000000,
   ru b 18 4 = 0 || (10000 ≤ ru b 18 4 && ru b 18 4 ≤ 4000000000), rsv b 30 2]

/-- Plant time of the next t_pr. -/
def nextTprAt (c : Chip) : Int := c.t0 + c.ptOff + Config.tPr + (nextTpr c - c.cyc) * c.period

def findTrig (c : Chip) (k : Nat) : Option Trig := c.pt.trigs.find? (fun t => t.slot = k)

/-- A trigger put in place, the list ascending. -/
def putTrig (t : Trig) (l : List Trig) : List Trig :=
  l.filter (fun x => x.slot < t.slot) ++ [t] ++ l.filter (fun x => t.slot < x.slot)

def onTrig (c : Chip) (k : Nat) (f : Trig → Trig) : Chip :=
  c.onPt (fun p => { p with trigs := p.trigs.map (fun t => if t.slot = k then f t else t) })

/-- TIME_TRIGGER_ARM (03 R89, R90, R93). -/
def bodyTrigArm (q : Req) (c : Chip) : Reply :=
  let b := q.payload
  let want := byteN b 0
  let free := (List.range 32).find? (fun k => (findTrig c k).isNone)
  let slot := if want = 0xFF then free.getD 0 else want
  let past := decide (ofWide b 8 < nextTprAt c)
  let bars := firstFail [
    (past && !mbit (byteN b 2) 1, Status.badParam),
    (want ≠ 0xFF && (findTrig c slot).isSome, .busy),
    (want = 0xFF && free.isNone, .noResource)]
  match bars with
  | some st => refuse c st
  | none =>
    let t := { parseTrig slot (nextTpr c) b with past := past }
    answer (c.onPt (fun p => { p with trigs := putTrig t p.trigs })) .ok (le 1 slot)

def execTimeTriggerArm (q : Req) : State → Host.Outcome State Fault Refusal := host 0x0310 5 layTrig bodyTrigArm q

/-- TIME_TRIGGER_CANCEL (03 R90, 02 R61): at the next t_pr, with CMD_COMPLETE. -/
def bodyTrigCancel (q : Req) (c : Chip) : Reply :=
  match findTrig c (byteN q.payload 0) with
  | none => refuse c .refusedState
  | some t => answer (deferP c 0x0311 q) .queued (le 4 t.fires)

def execTimeTriggerCancel (q : Req) : State → Host.Outcome State Fault Refusal :=
  host 0x0311 8 (lay 1 fun b => [bLe b 0 31]) bodyTrigCancel q

end Sys2Proof.Machine
end

