-- ==== Sys2Proof/Machine/Lines.lean ====
section
/-!
DEFINITION. The line time base (chapter 02): encoders and SSI, the estimator, line states, prediction, and the commands of lines and
latches. Events firing and the prediction instant are in Events.lean.
-/

namespace Sys2Proof.Machine

open Sys2Proof

/-! ### States of a line -/

def Chip.line (c : Chip) (l : Nat) : Line := vget c.lt.line l
def Chip.lcfg (c : Chip) (l : Nat) : LineCfg := vget c.cfg.lines.line l
def onLine (c : Chip) (l : Nat) (f : Line → Line) : Chip := c.onLt (fun t => { t with line := vmod t.line l f })
def onEnc (c : Chip) (e : Nat) (f : Encoder → Encoder) : Chip := c.onLt (fun t => { t with enc := vmod t.enc e f })

/-- The image enables the line: an image is active and gives it a source (02 R35). -/
def lineEnabled (c : Chip) (l : Nat) : Bool := c.active && (c.lcfg l).source ≠ 0

/-- The modulus in force; 0 none (02 R40): C on a REV line. -/
def lineMod (c : Chip) (l : Nat) : Nat := let g := c.lcfg l; if g.unit = 2 then g.c else g.modulus

/-- A position as it is reported (02 R40). -/
def reported (c : Chip) (l : Nat) (p : Int) : Int := let m := lineMod c l; if m = 0 then p else p % (m : Int)

/-- p(t) in counts times 2^48 and times 2 000 000, exact (02 R42). -/
def Est.num (e : Est) (t : Int) : Int :=
  let d := t - e.t
  e.p * 2000000 + e.v * 131072000 * d + e.a * d * d

/-- p(t) rounded to the nearest count (02 R42). -/
def Est.pos (e : Est) (t : Int) : Int := roundDiv (e.num t) (2 ^ 48 * 2000000)

/-- v(t), Q32.32, and a, Q16.48 (02 R42). -/
def Est.vel (e : Est) (t : Int) : Int := quot 2 (e.v * 65536000 + e.a * (t - e.t)) 65536000

/-- The state carried to another reference instant (02 R42). -/
def Est.moved (e : Est) (t : Int) : Est :=
  { t := t, p := quot 2 (e.num t) 2000000, v := e.vel t, a := e.a }

/-- The state a consumer reads: in HOLDOVER the extrapolated state of the last good instant (02 R45). -/
def Line.state (l : Line) : Est := if l.st = .holdover then l.holdEst.getD l.est else l.est

/-- The line's position can be used (02 R46). -/
def Line.usable (l : Line) : Bool := l.st = .valid || l.st = .holdover

/-- The default resume tolerance (02 R45). -/
def resumeTol (g : LineCfg) : Nat :=
  match g.resumeTol with
  | some r => r
  | none => if g.unit = 2 then max 1 ((roundDiv (g.c * 1000) 6283185).toNat) else 256000

/-- A receiver of plant time counts as locked for REMOTE lines (02 R69, 03 R87). -/
def remoteLocked (c : Chip) : Bool :=
  c.pt.st = .locked || c.pt.st = .grandmaster || (c.pt.st = .holdover && !c.pt.crossGone)

/-- A source fault of an encoder input is present, or has appeared since the last t_pr (02 R37, R45). -/
def Encoder.faulty (e : Encoder) : Bool := e.fault || e.faultSeen

/-- A source fault appears. -/
def Encoder.fails (e : Encoder) : Encoder := { e with fault := true, faultSeen := true }

/-- A measurement has been resolved: the source is healthy while its supply and its clock driver are on (02 R37, 18 R503). -/
def Encoder.resolves (e : Encoder) : Encoder := { e with fault := e.fault && !(e.epwr && e.ssiClock) }

/-- The line's source is faulty at this t_pr (02 R37, R38, R69). -/
def sourceFaulty (c : Chip) (l : Nat) : Bool :=
  let n := c.line l
  match n.source with
  | 1 | 2 => (vget c.lt.enc n.input).faulty
  | 4 => !remoteLocked c || decide (n.rxAt + 3 * 2 ^ (c.lcfg l).pubE * c.period < c.now)
  | _ => false

/-! ### Measurements -/

/-- Raw counts become line counts, the remainder carried (02 R36). -/
def takeRaw (raw : Int) (at' : Int) (n : Line) : Line :=
  let x := (raw - n.rawSeen) * n.num + n.carry
  let d : Int := if n.den = 0 then 1 else n.den
  { n with z := n.z + x / d, carry := x % d, rawSeen := raw, zAt := at' }

/-- The upstream line's position wraps at its modulus (R67 flag MODULO): its difference is taken around the turn of `m` line counts,
which the receiver's own modulus gives (log 66). -/
def takeWrapped (m : Nat) (raw : Int) (at' : Int) (n : Line) : Line :=
  let span : Int := m * n.den
  let x := (raw - n.rawSeen) * n.num
  let r := x % span
  let turned := if 2 * r < span then r else r - span
  if m = 0 || n.den = 0 || n.fresh then takeRaw raw at' n
  else { n with z := n.z + (turned + n.carry) / n.den, carry := (turned + n.carry) % n.den, rawSeen := raw, zAt := at' }

/-- What the input held at t_in is kept when the first edge after it comes (02 R41). -/
def keepTin (c : Chip) (t : Nat) (s : Encoder) : Encoder :=
  if c.t0 + Config.tIn < t && s.atTin.all (fun k => k.1 ≠ c.cyc) then { s with atTin := some (c.cyc, s.count, s.lastEdge) } else s

/-- The count and the last resolved edge at or before t_in of the cycle (02 R41). -/
def heldAtTin (c : Chip) (s : Encoder) : Int × Option Int :=
  match s.atTin with
  | some k => if k.1 = c.cyc then k.2 else (s.count, s.lastEdge)
  | none => (s.count, s.lastEdge)

/-- An edge on A or B (02 R37): one step of the Gray sequence 00, 10, 11, 01 counts up, its reverse down (log 8); both levels
changed, or an edge closer than 25 ns to the one before it, is a source fault and adds no count; a resolved edge shows the source healthy. -/
def edgeOp (e : Nat) (a b : Bool) (t : Nat) (c : Chip) : Chip :=
  let c := c.atTime t
  let s := vget c.lt.enc e
  let at' : Int := c.plantAt t
  let phase := fun (a b : Bool) => if a then (if b then 2 else 1) else (if b then 3 else 0)
  let d := (phase a b + 4 - phase s.a s.b) % 4
  let close := match s.seenEdge with | some x => decide (at' < x + 25) | none => false
  if d = 0 then c
  else onEnc c e (fun s =>
    let s := { keepTin c t s with a := a, b := b, seenEdge := some at' }
    if d = 2 || close then s.fails
    else ({ s with count := s.count + (if d = 1 then 1 else -1), lastEdge := some at' }).resolves)

def execEncoderEdge (enc : Fin 4) (a b : Bool) (t : Nat) : State → Host.Outcome State Fault Refusal :=
  run (edgeOp enc a b t)

/-- Gray code to binary. -/
def grayToBin : Nat → Nat → Nat
  | 0, g => g
  | k + 1, g => grayToBin k g ^^^ (g >>> (k + 1))

/-- The ratio with which a line reads encoder `e` as SSI, as its source or as the one under comparison (02 R38, R47); none: it does not. -/
def ssiRatio (c : Chip) (l e : Nat) : Option (Nat × Nat) :=
  let n := c.line l
  if !lineEnabled c l then none
  else if n.source = 2 && n.input = e then some (n.num, n.den)
  else match n.switching with
    | some w => if w.source = 2 && w.input = e then some (w.num, w.den) else none
    | none => none

/-- The enabled line that reads an encoder as SSI (02 R38), with its ratio. -/
def ssiLine (c : Chip) (e : Nat) : Option (Nat × Nat × Nat) :=
  (List.range 4).findSome? (fun l => (ssiRatio c l e).map (fun r => (l, r.1, r.2)))

/-- The time of a frame in ns: one clock for each data bit and for the parity bit (02 R38, log 66). -/
def ssiFrameNs (g : LineCfg) : Nat := (g.ssiBits + b2n g.parity) * 1000000 / max 1 g.ssiKhz

/-- The SSI read period (02 R38): the smallest whole number of cycles that holds the frame time and the monoflop time. -/
def ssiPeriod (c : Chip) (g : LineCfg) : Nat := max 1 ((ssiFrameNs g + g.monoUs * 1000 + c.period - 1) / c.period)

/-- At t0 of every cycle whose number is a multiple of its read period an SSI input starts a frame (02 R38). -/
def ssiStarts (c : Chip) : Chip :=
  (List.range 4).foldl (fun c e =>
    match ssiLine c e with
    | some (l, _, _) =>
      if c.cyc % ssiPeriod c (c.lcfg l) = 0 && (vget c.lt.enc e).ssiClock then onEnc c e (fun s => { s with frameAt := some c.t0 }) else c
    | none => c) c

/-- The SSI frame under way completes (02 R38): its checks, its stamp at the first falling clock edge, its value unwrapped. -/
def ssiOp (e raw : Nat) (parityOk stuck : Bool) (c : Chip) : Chip :=
  match ssiLine c e, (vget c.lt.enc e).frameAt with
  | some (l, num, den), some t0 =>
    let g := c.lcfg l
    let c := c.atTime (t0 + ssiFrameNs g)
    let full := 2 ^ g.ssiBits
    let v : Int := if g.gray then grayToBin (g.ssiBits - 1) raw else raw
    let at' : Int := c.plantAt t0
    let s := vget c.lt.enc e
    let val : Int := match s.ssi with
      | some (x, _) =>
        let d := (v - x) % (full : Int)
        if 2 * d < full then x + d else x + d - full
      | none => v
    let jump := match s.ssi with
      | some (x, t) =>
        decide ((val - x).natAbs * num * 2 * 1000 * 2 ^ 32 > (3 * g.vMax * (at' - t).natAbs + 8 * 1000 * 2 ^ 32) * den)
      | none => false
    onEnc c e (fun s =>
      let s := { s with frameAt := none }
      if (g.parity && !parityOk) || stuck || full ≤ raw || jump then s.fails else ({ s with ssi := some (val, at') }).resolves)
  | _, _ => c

def execSsiFrame (enc : Fin 4) (raw : Nat) (parityOk stuck : Bool) : State → Host.Outcome State Fault Refusal :=
  run (ssiOp enc raw parityOk stuck)

/-- A line source reports a fault (02 R37, R38): it stands until the source resolves a measurement again (log 8). -/
def execSourceFault (enc : Fin 4) (_cause : Nat) : State → Host.Outcome State Fault Refusal :=
  run fun c => onEnc c enc Encoder.fails

/-- Encoder wiring (18 R503): 0 a pair of wires, 1 EPWR overload (off for 1 s), 2 the SSI clock driver (off). -/
def execEncoderWiringFault (enc : Fin 4) (kind : Nat) : State → Host.Outcome State Fault Refusal :=
  run fun c => onEnc c enc (fun s => { s.fails with
    epwr := s.epwr && kind ≠ 1,
    retryAt := if kind = 1 then some (c.now + 1000000000) else s.retryAt,
    ssiClock := s.ssiClock && kind ≠ 2 })

/-- EPWRn is retried after 1 s (18 R503). -/
def execEpwrRetry (enc : Fin 4) : State → Host.Outcome State Fault Refusal :=
  run fun c => match (vget c.lt.enc enc).retryAt with
    | some t => onEnc (c.atTime t) enc (fun s => { s with epwr := true, retryAt := none })
    | none => c

/-! ### The estimator -/

/-- The newest measurement of a line's source enters z (02 R41, R521): QUAD at its last edge, or at t_in without a new edge; SSI
at its latest frame. REMOTE measurements enter when their record is accepted. -/
def measure (c : Chip) (tin : Int) (n : Line) : Line :=
  match n.source with
  | 1 =>
    let e := heldAtTin c (vget c.lt.enc n.input)
    let at' := match e.2 with | some t => if n.est.t < t && t ≤ tin then t else tin | none => tin
    takeRaw e.1 at' n
  | 2 => match (vget c.lt.enc n.input).ssi with
    | some (v, t) => takeRaw v t n
    | none => n
  | _ => n

/-- Whether a measurement exists from which an estimator can start. -/
def measured (c : Chip) (n : Line) : Bool :=
  match n.source with
  | 1 => true
  | 2 => (vget c.lt.enc n.input).ssi.isSome
  | 4 => n.remote.isSome
  | _ => false

/-- ω = 2πB in rad/µs, scaled by 2^64, for a bandwidth B in Hz (02 R521); π to fifty decimal places. -/
def omega (b : Nat) : Int := quot 11 (2 * 314159265358979323846264338327950288419716939937510 * b * 2 ^ 64) (10 ^ 56)

/-- One update of R521 with the measurement in z: predicted state, residual, correction. -/
def filterStep (bandwidth : Nat) (n : Line) : Line :=
  if n.fresh then
    let e : Est := match n.remote with
      | some (p, v, a) => if n.source = 4 then { t := n.zAt, p := p, v := v, a := a } else { t := n.zAt, p := n.z * 2 ^ 48 }
      | none => { t := n.zAt, p := n.z * 2 ^ 48 }
    { n with est := e, fresh := false, residual := 0, hadEst := true }
  else
    let dt := n.zAt - n.est.t
    if dt < 0 then n else
    let q := n.est.moved n.zAt
    let r := n.z * 2 ^ 48 - q.p
    let w := omega bandwidth
    let e : Est := { t := n.zAt,
                     p := q.p + quot 2 (3 * w * dt * r) (2 ^ 64 * 1000),
                     v := q.v + quot 2 (3 * w * w * dt * r) (2 ^ 128 * 1000 * 2 ^ 16),
                     a := q.a + quot 2 (w * w * w * dt * r) (2 ^ 192 * 1000) }
    { n with est := e, residual := mag16 (roundDiv r (2 ^ 48)) }

/-- One cycle of the jerk-limited profile of a VIRTUAL source (02 R48), T in ns: v in 2^-32 counts/µs, a in 2^-48 counts/µs², limits
likewise, jerk in 2^-64 counts/µs³. The acceleration moves by at most jerk · T and stays within its limit, or returns to it at that
rate; it is the greatest toward the target from which the velocity can still be brought to rest there within the jerk limit; v
follows its mean over the cycle. Within one cycle's reach the target is taken (log 66). -/
def virtualStep (v a tgt : Int) (al jl period : Nat) : Int × Int :=
  let da : Int := (jl * period : Nat) / 65536000
  let dv : Int := (al * period : Nat) / 65536000
  if a.natAbs ≤ da.natAbs && (tgt - v).natAbs ≤ dv.natAbs then (tgt, 0) else
  let sgn : Int := if 0 ≤ 2 * jl * (tgt - v) - a * a.natAbs then 1 else -1
  let next := fun (x : Int) => clampI (a - da) (a + da) (clampI (-al) al x)
  let vel := fun (x : Int) => v + quot 2 ((a + x) * period) 131072000
  let safe := fun (x : Int) => decide (sgn * (x * x.natAbs) ≤ sgn * (2 * jl * (tgt - vel x)))
  let x := ([next (a + sgn * da), next a].find? safe).getD (next (a - sgn * da))
  (vel x, x)

/-- The VIRTUAL source at t_in (02 R48): along its profile toward its target; without a target it holds its velocity. -/
def virtualUpdate (period : Nat) (tin : Int) (n : Line) : Line :=
  let e := n.est
  let (v, a) := match n.vmaster with
    | none => (e.v, 0)
    | some (tgt, al, jl) => virtualStep e.v e.a tgt al jl period
  let dt := tin - e.t
  { n with est := { t := tin, p := e.p + quot 2 ((e.v + v) * 65536 * dt) 2000, v := v, a := a }, residual := 0, fresh := false, hadEst := true }

/-- A source starts (02 R45, R47): fresh estimator; QUAD keeps the position z it is given, VIRTUAL its last estimate. -/
def startLine (c : Chip) (n : Line) : Line :=
  if n.source = 3 then
    let p := if n.hadEst then n.est.p else 0
    { n with st := .valid, est := { t := c.plant, p := p }, vmaster := none, fresh := false, hadEst := true, syncRun := 0 }
  else if n.source = 1 then
    { n with st := .syncing, fresh := true, syncRun := 0, rawSeen := (vget c.lt.enc n.input).count, carry := 0, residual := 0 }
  else
    { n with st := .syncing, fresh := true, syncRun := 0, rawSeen := 0, carry := 0, z := n.offset, residual := 0, remote := none }

/-- LINE_VALID, LINE_HOLDOVER, LINE_LOST (16 R462). -/
def postValid (c : Chip) (l : Nat) (old : LineSt) : Chip := post c 1 0x0201 l 0xFF (le 1 old.code)
def postHoldover (c : Chip) (l : Nat) : Chip := post c 1 0x0202 l 0xFF (le 4 ((c.lcfg l).holdMs * 1000))
def postLost (c : Chip) (l why : Nat) : Chip := post c 1 0x0203 l 0xFF (le 1 why)

/-- The events of a line without a usable state are suspended, their predicted instant NEVER (02 R46). -/
def suspendEvents (c : Chip) (l : Nat) : Chip :=
  c.onLt (fun t => { t with
    events := t.events.map (fun s => if s.ev.line = l && s.st ≠ .fired then { s with st := .suspended, due := none } else s) })

/-- The line enters LOST: a QUAD line goes on counting from its position at this boundary (02 R45). -/
def loseLine (c : Chip) (l why : Nat) : Chip :=
  let p := (c.line l).state.pos c.plant
  postLost (suspendEvents (onLine c l (fun n => { n with
    st := .lost, holdEnd := none, holdEst := none, syncRun := 0,
    z := if n.source = 1 then p else n.z })) l) l why

/-- The line enters HOLDOVER, or LOST where its holdover limit is 0 (02 R45). -/
def holdLine (c : Chip) (l : Nat) : Chip :=
  let g := c.lcfg l
  if g.holdMs = 0 then loseLine c l 0
  else postHoldover (onLine c l (fun n => { n with
    st := .holdover, holdEst := some n.est, holdEnd := some (c.now + g.holdMs * 1000000), syncRun := 0 })) l

/-- The line resumes from HOLDOVER (02 R45): its state, carried to the t_in before, takes the residual in a normal update of R521. -/
def resumeLine (c : Chip) (l : Nat) : Chip :=
  let tin : Int := c.t0 + c.ptOff + Config.tIn
  postValid (onLine c l (fun n =>
    let n := { n with st := .valid, est := n.state.moved (tin - c.period), holdEst := none, holdEnd := none }
    if n.source = 3 then virtualUpdate c.period tin n else filterStep (c.lcfg l).bandwidth n)) l .holdover

/-- The state machine of R45 at t_pr, for a line whose estimator has just been updated where it runs. -/
def lineMachine (c : Chip) (l : Nat) : Chip :=
  let n := c.line l
  let g := c.lcfg l
  let bad := sourceFaulty c l
  let far := n.source = 4 && !bad && n.rxState = 3
  let gone := n.source = 4 && !bad && n.rxState = 4
  match n.st with
  | .idle => c
  | .syncing =>
    if gone then loseLine c l 0
    else if far then holdLine c l
    else if bad || n.fresh then onLine c l (fun n => { n with syncRun := 0 })
    else
      let k := if n.residual < g.syncTol then n.syncRun + 1 else 0
      if 64 ≤ k && !n.posUncertain then postValid (onLine c l (fun n => { n with st := .valid, syncRun := 64 })) l .syncing
      else onLine c l (fun n => { n with syncRun := min k 64 })
  | .valid =>
    if gone then loseLine c l 0
    else if bad || far then holdLine c l
    else c
  | .holdover =>
    if gone then loseLine c l 0
    else if bad || far then
      (match n.holdEnd with
       | some e => if e ≤ c.now then loseLine c l 1 else c
       | none => c)
    else
      let r := n.z * 2 ^ 48 - (n.state.moved n.zAt).p
      if (roundDiv r (2 ^ 48)).natAbs ≤ resumeTol g then resumeLine c l else loseLine c l 2
  | .lost =>
    if bad || far || gone then c
    else onLine c l (fun n =>
      let n := { n with st := .syncing, fresh := true, syncRun := 0, posUncertain := n.posUncertain || n.source = 1 }
      if n.source = 3 then { n with fresh := false, est := { t := c.plant, p := n.est.p } } else n)

/-- Standstill (02 R44): since when |v| has been below the threshold. -/
def standstill (c : Chip) (l : Nat) : Bool :=
  match (c.line l).stillSince with
  | some t => decide (t + (c.lcfg l).stillMs * 1000000 ≤ c.now)
  | none => false

/-- Estimator and state of one line at t_pr of the cycle. -/
def updateLine (c : Chip) (l : Nat) : Chip :=
  let n := c.line l
  if n.st = .idle then c else
  let tin : Int := c.t0 + c.ptOff + Config.tIn
  let bad := sourceFaulty c l
  let n := measure c tin n
  let n := if n.st = .holdover || n.st = .lost then n
    else if n.source = 3 then virtualUpdate c.period tin n
    else if bad || !measured c n then n
    else filterStep (c.lcfg l).bandwidth n
  let slow := decide ((n.state.vel tin).natAbs < (c.lcfg l).stillThr)
  let n := { n with
    stillSince := if slow then (match n.stillSince with | some t => some t | none => some c.now) else none,
    hist := if n.fresh then n.hist else ((n.state.moved tin) :: n.hist).take (1024000000 / c.period + 1) }
  lineMachine (onLine c l (fun _ => n)) l

/-- The holdover limit expires (02 R45): the line enters LOST, its events are suspended (R46). -/
def execLineHoldoverExpiry (line : Fin 4) : State → Host.Outcome State Fault Refusal :=
  run fun c =>
    let n := c.line line
    match n.holdEnd with
    | some e => if n.st = .holdover then loseLine (c.atTime e) line 1 else c
    | none => c

/-! ### Prediction -/

/-- The instant after `now` at which the state reaches position `x`, moving up (or down), rounded to a nanosecond (02 R50);
none is NEVER. The root of the quadratic is taken with 20 further binary digits (log 26). -/
def reach (e : Est) (x : Int) (up : Bool) (now : Int) : Option Int :=
  let d := x * 2 ^ 48 - e.p
  let v := e.v * 65536
  let vNow := e.vel now
  let linear := e.a = 0 || decide ((e.a * (now - e.t)).natAbs * 1000000 < e.v.natAbs * 65536 * 1000)
  let keep := fun (t : Int) => if now < t then some t else none
  if linear then
    if v = 0 || (up && v < 0) || (!up && v > 0) then none
    else keep (e.t + (if v > 0 then roundDiv (d * 1000) v.natAbs else roundDiv (-d * 1000) v.natAbs))
  else
    let disc := v * v + 2 * e.a * d
    if disc < 0 then none
    else
      let s : Int := Nat.sqrt (disc.toNat * 2 ^ 40)
      let num := 1000 * (-(v * 2 ^ 20) + (if up then s else -s))
      let den := e.a * 2 ^ 20
      let t := e.t + (if den > 0 then roundDiv num den.natAbs else roundDiv (-num) den.natAbs)
      if vNow = 0 && s = 0 then none else keep t

/-- The next occurrence of a target on a modulo line, strictly ahead of `p` in a direction (02 R57). -/
def nextAngle (m : Nat) (x p : Int) (up : Bool) : Int :=
  let r := (x - p) % (m : Int)
  if up then p + (if r = 0 then (m : Int) else r) else p + (if r = 0 then 0 else r) - m

/-- Where an event first aims from position `p` (02 R57, R58). -/
def firstAim (m : Nat) (v : EvRec) (p : Int) : Int :=
  if m = 0 then v.target else if v.dirPos then nextAngle m v.target p true else nextAngle m v.target p false

/-- The predicted instant of an event under a state (02 R50, R57, R59). -/
def predict (m : Nat) (e : Est) (now : Int) (s : EvSlot) : Option Int :=
  if s.ev.dirPos && s.ev.dirNeg then
    let p := e.pos now
    let xs := if m = 0 then (s.ev.target, s.ev.target) else (nextAngle m s.ev.target p true, nextAngle m s.ev.target p false)
    match reach e xs.1 true now, reach e xs.2 false now with
    | some a, some b => some (min a b)
    | some a, none => some a
    | none, b => b
  else reach e s.aim s.ev.dirPos now

/-- NEVER as a wide instant, or the instant (02 R50). -/
def wideOpt : Option Int → Bytes
  | some t => wide t
  | none => List.replicate 10 0xFF

def findSlot (c : Chip) (k : Nat) : Option EvSlot := c.lt.events.find? (fun s => s.slot = k)

/-- An event slot put in place, the list ascending. -/
def putSlot (s : EvSlot) (l : List EvSlot) : List EvSlot :=
  l.filter (fun x => x.slot < s.slot) ++ [s] ++ l.filter (fun x => s.slot < x.slot)

/-- An event slot changed by `f`. -/
def onSlot (c : Chip) (k : Nat) (f : EvSlot → EvSlot) : Chip :=
  c.onLt (fun t => { t with events := t.events.map (fun s => if s.slot = k then f s else s) })

/-- A slot becomes FREE; what its event has done is kept for the cancels of it that are on their way (02 R61). -/
def freeSlot (c : Chip) (k : Nat) : Chip :=
  match findSlot c k with
  | none => c
  | some s =>
    let waiting := c.deferP.filter (fun d => d.opcode = 0x0211 && ru d.payload 0 2 = k && c.lt.freed.all (fun f => f.1 ≠ d.ring || f.2.1 ≠ d.seq))
    c.onLt (fun t => { t with
      events := t.events.filter (fun x => x.slot ≠ k),
      freed := t.freed ++ waiting.map (fun d => (d.ring, d.seq, s.fires, s.ev.pitch = 0 && s.st = .fired)) })

/-- The state and predicted instant of an event afresh (02 R46, R50). -/
def refresh (c : Chip) (s : EvSlot) : EvSlot :=
  let n := c.line s.ev.line
  if s.st = .fired then s
  else if !n.usable then { s with st := .suspended, due := none }
  else { s with st := if s.st = .suspended then .armed else s.st,
                due := if s.inBand then none else predict (lineMod c s.ev.line) n.state c.plant s }

/-! ### Layouts and checks -/

/-- A line the image enables (02 R71). -/
def lineOr (c : Chip) (l : Nat) : Option Status := if lineEnabled c l then none else some .badParam

/-- A committed segment, a running line span or a geared axis depends on the line (02 R49). -/
def lineInUse (c : Chip) (l : Nat) : Bool :=
  c.planner.segs.any (fun s => s.st = .committed && s.lines.any (fun x => x.1 = l))
  || (List.range 44).any (fun o => (vget c.prof.chain o).queue.any (fun s => s.lineSpan && s.line = l))
  || (List.range 128).any (fun a => let x := vget c.prof.ax a; x.mode = .geared && x.master = some (0, l))

/-- A weigh window that an event of the line opened is open (02 R49). -/
def lineWeighs (c : Chip) (l : Nat) : Bool :=
  (List.range 8).any (fun k => vget c.lt.weighLine k = some l && (vget c.metro.chan k).win.isSome)

/-- The cases in which R49 refuses LINE_PRESET for the line's sake. -/
def presetBars (c : Chip) (l : Nat) : Bool := lineWeighs c l || (c.sys.dev = .automatic && lineInUse c l)

/-- The line-state record of a state (02 R67). A line that is not enabled reads IDLE with source 0 (R71); an enabled line in IDLE reads
the same, with every other field 0 (log 66). -/
def lineRecord (c : Chip) (l : Nat) (e : Est) : Bytes :=
  let n := c.line l
  let off := !lineEnabled c l || n.st = .idle
  let b := if off then le 1 l ++ zeros 43 else
    le 1 l ++ le 1 n.st.code ++ le 1 n.source
      ++ le 1 (bits [lineMod c l ≠ 0, decide (e.v < 0), standstill c l, n.posUncertain])
      ++ le 2 n.pubSeq ++ zeros 2 ++ wide e.t ++ leI 8 (reported c l (e.pos e.t)) ++ leI 8 e.v ++ leI 8 e.a ++ le 2 n.residual
  b ++ le 4 (crc32c b)

def bodyLineState (q : Req) (c : Chip) : Reply :=
  let l := byteN q.payload 0
  answer c .ok (lineRecord c l (c.line l).state)

def execLineGetState (q : Req) : State → Host.Outcome State Fault Refusal :=
  host 0x0201 52 (lay 1 fun b => [isLine (byteN b 0)]) bodyLineState q

/-- LINE_PRESET (02 R49): taken at the next t_pr. -/
def bodyPreset (q : Req) (c : Chip) : Reply :=
  let l := byteN q.payload 0
  let x := ri q.payload 8 8
  let m := lineMod c l
  let bars := firstFail [
    (!lineEnabled c l, Status.badParam),
    (m ≠ 0 && !(0 ≤ x && x < m), .badParam),
    ((c.line l).st = .idle, .refusedState),
    (presetBars c l, .refusedState)]
  match bars with
  | some st => refuse c st
  | none => answer (deferP c 0x0202 q) .ok

def execLinePreset (q : Req) : State → Host.Outcome State Fault Refusal :=
  host 0x0202 4 (lay 16 fun b => [isLine (byteN b 0), bLe b 1 1, rsv b 2 6]) bodyPreset q

/-- The source that the payload of LINE_SELECT_SOURCE names, in place in a line. -/
def namedSource (p : Bytes) (n : Line) : Line :=
  { n with source := byteN p 1, input := byteN p 2, num := max 1 (ru p 8 4), den := max 1 (ru p 12 4), offset := ri p 16 8 }

/-- LINE_SELECT_SOURCE (02 R47). For sources 0 and 3, which have no input, byte 2 must be a number below 4 all the same (log 66). -/
def bodySelect (q : Req) (c : Chip) : Reply :=
  let p := q.payload
  let l := byteN p 0
  let src := byteN p 1
  let n := c.line l
  let inputOk := match src with
    | 1 | 2 => byteN p 2 < 4
    | 4 => 1 ≤ byteN p 2 && byteN p 2 ≤ 3
    | _ => byteN p 2 < 4
  let ratioOk := src = 0 || src = 3 || (ru p 8 4 ≠ 0 && ru p 12 4 ≠ 0)
  let bars := firstFail [
    (!lineEnabled c l, Status.badParam),
    (!(inputOk && ratioOk), .badParam),
    ((src = 1 || src = 3) && ri p 16 8 ≠ 0, .badParam),
    (src = 0 && presetBars c l, .refusedState),
    (n.switching.isSome, .busy)]
  match bars with
  | some st => refuse c st
  | none =>
    if src ≠ 0 && n.usable then
      let w : Switch := { source := src, input := byteN p 2, num := max 1 (ru p 8 4), den := max 1 (ru p 12 4), offset := ri p 16 8,
                          left := 8, base := if src = 1 then some ((vget c.lt.enc (byteN p 2)).count, c.plant) else none, t0 := c.plant,
                          ring := q.ring, seq := q.seq }
      answer (onLine c l (fun n => { n with switching := some w })) .queued
    else answer (deferP c 0x0203 q) .ok

def execLineSelectSource (q : Req) : State → Host.Outcome State Fault Refusal :=
  host 0x0203 4 (lay 24 fun b => [isLine (byteN b 0), bLe b 1 4, rsv b 3 5]) bodySelect q

/-- LINE_VMASTER_SET (02 R48): taken at the next t_pr. -/
def bodyVmaster (q : Req) (c : Chip) : Reply :=
  let l := byteN q.payload 0
  let bars := firstFail [
    (!lineEnabled c l, Status.badParam),
    ((c.line l).st = .idle || (c.line l).source ≠ 3, .refusedState)]
  match bars with
  | some st => refuse c st
  | none => answer (deferP c 0x0204 q) .ok

def execLineVmasterSet (q : Req) : State → Host.Outcome State Fault Refusal :=
  host 0x0204 4 (lay 32 fun b => [isLine (byteN b 0), rsv b 1 7, decide (0 < ri b 16 8), ru b 24 8 ≠ 0]) bodyVmaster q

/-- LINE_QUERY (02 R71). -/
def bodyQuery (q : Req) (c : Chip) : Reply :=
  let l := byteN q.payload 0
  let n := c.line l
  let t := ofWide q.payload 8
  let e := n.state
  let bars := firstFail [
    (!lineEnabled c l, Status.badParam),
    (n.st = .idle, .refusedState),
    (!(e.t - 1024000000 ≤ t && t ≤ e.t + 1000000000), .badParam)]
  match bars with
  | some st => refuse c st
  | none =>
    let s := if e.t ≤ t then e else (n.hist.find? (fun h => h.t ≤ t)).getD (n.hist.getLastD e)
    answer c .ok (le 1 (b2n (e.t < t)) ++ zeros 3 ++ leI 8 (reported c l (s.pos t)) ++ leI 8 (s.vel t) ++ leI 8 s.a)

def execLineQuery (q : Req) : State → Host.Outcome State Fault Refusal :=
  host 0x0205 32 (lay 18 fun b => [isLine (byteN b 0), rsv b 1 7, ru b 14 4 < 1000000000]) bodyQuery q

/-- LINE_PUBLISH (02 R68). -/
def bodyPublish (q : Req) (c : Chip) : Reply :=
  let p := q.payload
  let l := byteN p 0
  let bars := firstFail [
    (!lineEnabled c l, Status.badParam),
    (1000000 < 2 ^ byteN p 2 * c.period, .badParam),
    ((c.line l).st = .idle || (c.line l).source = 4, .refusedState)]
  match bars with
  | some st => refuse c st
  | none => answer (onLine c l (fun n => { n with pubMask := byteN p 1, pubE := byteN p 2, pubId := ru p 4 4 })) .ok

def execLinePublish (q : Req) : State → Host.Outcome State Fault Refusal :=
  host 0x0206 4 (lay 8 fun b => [isLine (byteN b 0), bLe b 1 3, bLe b 2 5, rsv b 3 1]) bodyPublish q

/-! ### Events: arming, cancelling, reading -/

/-- An event record of 40 bytes (02 R53). -/
def parseEv (p : Bytes) : EvRec :=
  let f := byteN p 3
  { line := byteN p 2, dirPos := mbit f 0, dirNeg := mbit f 1, rearm := mbit f 2, fireIfPast := mbit f 3, report := mbit f 4,
    action := byteN p 4, param := ru p 6 2, target := ri p 8 8, pitch := ri p 16 8, count := ru p 24 4, band := ru p 28 4,
    param2 := ru p 32 4, tag := ru p 36 4 }

/-- The record's bytes (02 R53). -/
def evRecBytes (slot : Nat) (v : EvRec) : Bytes :=
  le 2 slot ++ le 1 v.line ++ le 1 (bits [v.dirPos, v.dirNeg, v.rearm, v.fireIfPast, v.report]) ++ le 1 v.action ++ zeros 1
    ++ le 2 v.param ++ leI 8 v.target ++ leI 8 v.pitch ++ le 4 v.count ++ le 4 v.band ++ le 4 v.param2 ++ le 4 v.tag

/-- Reserved parts of the parameters by action (02 R55). -/
def actionOk (v : EvRec) : Bool :=
  match v.action with
  | 1 => v.param = 0 && v.param2 = 0
  | 2 | 3 => v.param2 = 0
  | 4 => v.param < 8
  | 5 => v.param < 8 && v.param2 = 0
  | 6 => 1 ≤ v.param % 256 && v.param % 256 ≤ 24 && v.param / 2048 = 0 && v.param2 = 0
  | 7 => true
  | _ => false

/-- The layout of EVENT_ARM that needs no state (02 R53-R55). -/
def layEvent : Bytes → Bool := lay 40 fun b =>
  let v := parseEv b
  [ru b 0 2 < 1024 || ru b 0 2 = 0xFFFF, bLe b 2 3, bLe b 3 0x1F, rsv b 5 1, v.dirPos || v.dirNeg,
   v.pitch = 0 || (!(v.dirPos && v.dirNeg) && (if v.dirPos then decide (0 < v.pitch) else decide (v.pitch < 0))),
   actionOk v]

/-- The lowest slot of the profile-unit reserve (02, Events). -/
def reserveBase (c : Chip) : Nat := 1024 - c.cfg.lines.reserve

/-- A weighing channel named in the image and enabled in the metrology parameters (12 R387). -/
def weighable (c : Chip) (k : Nat) : Bool := mbit c.cfg.weigh k && mbit c.mlink.enabled k

/-- An event in its first state at validation (02 R57); its arm is applied at the next t_pr (R51), one cycle later in a working pair
(13 R396). -/
def newSlot (c : Chip) (k : Nat) (v : EvRec) : EvSlot :=
  let n := c.line v.line
  let m := lineMod c v.line
  let p := n.state.pos c.plant
  refresh c { slot := k, ev := v, aim := firstAim m v p, seen := p, since := nextTpr c + (ahead c 0x0210 - 1) }

/-- The target lies behind the line at validation (02 R57). -/
def behind (c : Chip) (v : EvRec) : Bool :=
  let n := c.line v.line
  let p := n.state.pos c.plant
  n.usable && lineMod c v.line = 0 && !(v.dirPos && v.dirNeg)
    && (if v.dirPos then decide (v.target ≤ p) else decide (p ≤ v.target))

/-- EVENT_ARM (02 R53-R57, R71). -/
def bodyEventArm (q : Req) (c : Chip) : Reply :=
  let v := parseEv q.payload
  let want := ru q.payload 0 2
  let m := lineMod c v.line
  let free := (List.range (reserveBase c)).find? (fun k => (findSlot c k).isNone)
  let slot := if want = 0xFFFF then free.getD 0 else want
  let held := match findSlot c slot with | some s => s.st ≠ .fired | none => false
  let weigh := v.action = 4 || v.action = 5
  let bars := firstFail [
    (!lineEnabled c v.line, Status.badParam),
    (m ≠ 0 && !(0 ≤ v.target && v.target < m && v.pitch.natAbs < m), .badParam),
    (behind c v && !v.fireIfPast, .badParam),
    (v.action = 7 || (want ≠ 0xFFFF && reserveBase c ≤ want), .notPermitted),
    (weigh && !weighable c v.param, .notPermitted),
    ((c.line v.line).st = .idle, .refusedState),
    (want ≠ 0xFFFF && held, .busy),
    (want = 0xFFFF && free.isNone, .noResource)]
  match bars with
  | some st => refuse c st
  | none =>
    let s := { newSlot c slot v with past := behind c v }
    let waits := (findSlot c slot).isSome
    let c := if waits then deferP c 0x0210 { q with payload := le 2 slot ++ q.payload.drop 2 }
      else c.onLt (fun t => { t with events := putSlot s t.events })
    answer c .ok (le 2 slot ++ wideOpt s.due)

def execEventArm (q : Req) : State → Host.Outcome State Fault Refusal := host 0x0210 16 layEvent bodyEventArm q

/-- EVENT_CANCEL (02 R61): it takes effect at t_pr. The spec names no status for a host slot that is FREE: REFUSED_STATE is the
model's choice (log 66). -/
def bodyEventCancel (q : Req) (c : Chip) : Reply :=
  let k := ru q.payload 0 2
  match findSlot c k with
  | none => refuse c (if reserveBase c ≤ k then .notPermitted else .refusedState)
  | some s =>
    if reserveBase c ≤ k then refuse c .notPermitted
    else answer (deferP c 0x0211 q) .queued (le 2 s.fires)

def execEventCancel (q : Req) : State → Host.Outcome State Fault Refusal :=
  host 0x0211 6 (lay 2 fun b => [ru b 0 2 < 1024]) bodyEventCancel q

/-- Slot state codes (02 R62). -/
def EvSt.code : EvSt → Nat
  | .armed => 1 | .loaded => 2 | .fired => 3 | .suspended => 4

/-- EVENT_GET (02 R70, R71). -/
def bodyEventGet (q : Req) (c : Chip) : Reply :=
  match findSlot c (ru q.payload 0 2) with
  | none => answer c .ok (zeros 4 ++ wideOpt none ++ zeros 34)
  | some s =>
    let remain := if s.st = .fired then 0 else if s.ev.pitch = 0 then 1
      else if s.ev.count = 0 then 0xFFFFFFFF else s.ev.count - s.n
    answer c .ok (le 1 s.st.code ++ zeros 3 ++ wideOpt s.due ++ le 4 remain ++ slice (evRecBytes s.slot s.ev) 8 30)

def execEventGet (q : Req) : State → Host.Outcome State Fault Refusal :=
  host 0x0212 52 (lay 2 fun b => [ru b 0 2 < 1024]) bodyEventGet q

/-- LATCH_CONFIGURE (02 R64): taken at the next cycle boundary. -/
def bodyLatchConfigure (q : Req) (c : Chip) : Reply := answer (deferB c 0x0220 q) .ok

def execLatchConfigure (q : Req) : State → Host.Outcome State Fault Refusal :=
  host 0x0220 4 (lay 8 fun b => [bLe b 0 15, 1 ≤ byteN b 1 % 4, bLe b 1 7, ru b 2 2 ≤ 1000, isLine (byteN b 4), rsv b 5 3])
    bodyLatchConfigure q

/-- Its effect at the boundary: buffered records keep their values. -/
def applyLatchConfigure (p : Bytes) (c : Chip) : Chip :=
  c.onLt (fun t => { t with latch := vmod t.latch (byteN p 0) (fun h => { h with
    edge := byteN p 1 % 4, gated := mbit (byteN p 1) 2, filter := ru p 2 2, line := byteN p 4 }) })

/-! ### Publishing -/

/-- A publishing line's datagram on the selected links, by the token holder (13 R395, 02 R68): destination address and port of the
image, then the plant line identifier and the record, which is the state at t_in of the cycle. -/
def publishOp (l : Nat) (c : Chip) : Chip :=
  let n := c.line l
  if !c.active || !holdsToken c || n.pubMask = 0 || n.st = .idle || n.source = 4 || c.cyc % 2 ^ n.pubE ≠ 0 then c else
  let e := n.state.moved (c.t0 + c.ptOff + Config.tIn)
  let d := le 4 (c.lcfg l).pubAddr ++ le 2 (c.lcfg l).pubPort ++ le 4 n.pubId ++ lineRecord c l e
  let c := (List.range 2).foldl (fun c k => if mbit n.pubMask k then c.emit 0 k d else c) c
  onLine c l (fun n => { n with pubSeq := (n.pubSeq + 1) % 65536 })

def execLineStatePublish (line : Fin 4) : State → Host.Outcome State Fault Refusal := run (publishOp line)

/-- A REMOTE line's datagram (02 R69): accepted only with its identifier, its check and a newer sequence. -/
def remoteOp (l link : Nat) (d : Bytes) (c : Chip) : Chip :=
  let n := c.line l
  let r := slice d 4 48
  let seq := ru r 4 2
  let newer := match n.rxSeq with
    | none => true
    | some x => let k := (seq + 65536 - x) % 65536; decide (0 < k ∧ k < 32768)
  let valid := d.length = 52 && ru d 0 4 = (c.lcfg l).plantId && ru r 44 4 = crc32c (slice r 0 44) && newer
  let t := ofWide r 8
  let c := stampRx c (4 + link) false c.now
  if !c.active || n.st = .idle || !valid then c
  else if n.source = 4 && mbit n.input link then
    let conv := fun (x : Int) => quot 2 (x * n.num) n.den
    onLine c l (fun n =>
      let n := takeWrapped (if mbit (byteN r 3) 0 then lineMod c l else 0) (ri r 18 8) t n
      { n with
        rxSeq := some seq, rxAt := c.now, rxState := byteN r 1,
        remote := some (n.z * 2 ^ 48, conv (ri r 26 8), conv (ri r 34 8)) })
  else match n.switching with
    | some w =>
      if w.source = 4 && mbit w.input link then onLine c l (fun n => { n with
        rxSeq := some seq, rxAt := c.now, rxState := byteN r 1,
        switching := some { w with remote := some (t, ri r 18 8, ri r 26 8, ri r 34 8) } })
      else c
    | none => c

def execLineStateReceive (line : Fin 4) (link : Fin 2) (dgram : Bytes) : State → Host.Outcome State Fault Refusal :=
  run (remoteOp line link dgram)

end Sys2Proof.Machine
end

