-- ==== Sys2Proof/Machine/Binary64.lean ====
section
/-!
DEFINITION. Binary64 arithmetic of the metrology die (12 R368): words as values, rounding to nearest with ties to even, and the
operations of the mass. The format is the one every binary64 unit has; the spec names it and does not restate it (log 65).
-/

namespace Sys2Proof.Machine

/-- `m` times 2^`e`. -/
def scaled (m e : Int) : Rat := if 0 ≤ e then (m * 2 ^ e.toNat : Int) else mkRat m (2 ^ (-e).toNat)

/-- The value of a binary64 word; none for an infinity and for what is no number. -/
def f64Val (w : Nat) : Option Rat :=
  let e : Nat := w / 2 ^ 52 % 2048
  let m : Nat := w % 2 ^ 52
  if e = 2047 then none else
  let a : Rat := if e = 0 then scaled m (-1074) else scaled (m + 2 ^ 52 : Nat) ((e : Int) - 1075)
  some (if w / 2 ^ 63 % 2 = 1 then -a else a)

/-- `x` rounded to an integer, ties to even. -/
def halfEven (x : Rat) : Int :=
  let q := x.num / (x.den : Int)
  let r := 2 * (x.num % (x.den : Int))
  if r < x.den then q else if x.den < r then q + 1 else if q % 2 = 0 then q else q + 1

/-- The exponent of the last place of a positive `x`: 53 bits above it, and none below 2^-1074. -/
def f64Place (x : Rat) : Int :=
  let q : Int := (Nat.log2 x.num.natAbs : Int) - Nat.log2 x.den - 52
  max (-1074) (if x < scaled 1 (q + 52) then q - 1 else q)

/-- `x` rounded to the nearest binary64, ties to even; none where it rounds beyond the largest finite one. -/
def f64Round (x : Rat) : Option Rat :=
  let a := if x < 0 then -x else x
  let q := f64Place a
  let r := scaled (halfEven (a * scaled 1 (-q))) q
  if scaled 1 1024 ≤ r then none else some (if x < 0 then -r else r)

/-- A binary64 sum and product. -/
def f64Add (a b : Option Rat) : Option Rat := match a, b with | some x, some y => f64Round (x + y) | _, _ => none
def f64Mul (a b : Option Rat) : Option Rat := match a, b with | some x, some y => f64Round (x * y) | _, _ => none

/-- The mean r̄ of `n` samples of this sum; none of no samples. -/
def meanOf (sum : Int) (n : Nat) : Option Rat := if n = 0 then none else f64Round (mkRat sum n)

/-- m in mg (12 R368), its operations from left to right: k_span × x × (1 + k_lin × x), x = r̄ − z, rounded half to even. Where an
operation leaves no finite number the free constant stands (log 65). -/
def weighMass (sum : Int) (n : Nat) (z : Rat) (kSpan kLin : Nat) : Int :=
  let x := f64Add (meanOf sum n) (some (-z))
  match f64Mul (f64Mul (f64Val kSpan) x) (f64Add (some 1) (f64Mul (f64Val kLin) x)) with
  | some m => halfEven m
  | none => Config.weighMass sum n z kSpan kLin

/-- A difference of counts in mg through k_span (12 R371). -/
def spreadMg (d : Rat) (kSpan : Nat) : Rat := match f64Val kSpan with | some k => d * k | none => Config.weighSpread d kSpan

/-- The same in whole mg, as the service port gives it: the rule names no rounding (log 65). -/
def spreadWhole (d : Rat) (kSpan : Nat) : Int := let v := spreadMg d kSpan; quot 12 v.num v.den

/-- The mean as whole counts (12 R382: no rounding named; of no samples a free value). -/
def meanCount (sum : Int) (n : Nat) : Int := if n = 0 then Config.meanCount sum else quot 12 sum n

end Sys2Proof.Machine
end

