-- ==== Sys2Proof/Machine/Kinematics.lean ====
section
/-!
DEFINITION. The arithmetic of an arm (07 R198-R206, R211-R213): formats, frames, the kinematics and dynamics of serial and delta arms,
the factorisations and the damping. Values are exact; a word that leaves a tile is the extraction of `Config.tileValue` of the exact
value, for the spec fixes the last extraction and not those inside the microcode (log 35).
-/

namespace Sys2Proof.Machine

open Sys2Proof

/-! ### Formats (07 R196, R198, R199) -/

/-- Fraction bits of the fixed formats (07 R198). -/
def angF : Nat := 27
def lenF : Nat := 26
def velF : Nat := 23
def accF : Nat := 19
def trqF : Nat := 17
def masF : Nat := 21
def inrF : Nat := 25
def trigF : Nat := 30

/-- The internal formats of R199, in the order of the shift word. -/
inductive InFmt where
  | for32 | jjt32 | mm32 | ldl32 | mom32
deriving DecidableEq, Repr

/-- Place of a format's shift in the shift word, and its default fraction bits (07 R199). -/
def InFmt.row : InFmt → Nat × Nat
  | .for32 => (0, 13) | .jjt32 => (4, 25) | .mm32 => (8, 21) | .ldl32 => (12, 21) | .mom32 => (16, 19)

/-- Fraction bits of an internal format in a model: a positive shift moves a bit to the integer part (07 R199). -/
def inFrac (m : ModelCfg) (f : InFmt) : Nat :=
  let s := m.shifts / 2 ^ f.row.1 % 16
  if s < 8 then f.row.2 - s else f.row.2 + (16 - s)

/-- The value of a word with `k` fraction bits. -/
def word (k : Nat) (v : Int) : Rat := mkRat v (2 ^ k)

/-- An extraction into a 32-bit format (07 R196): nearest, ties to even, saturating; and whether it saturated. -/
def extract (k : Nat) (v : Rat) : Int × Bool :=
  let x := halfEven (v * (2 ^ k : Nat))
  (satI 32 x, satI 32 x ≠ x)

/-- The words a job delivers: each value with its format; and whether one saturated. The key names arm, model, load and inputs. -/
def emit (job : Nat) (key : List Int) (first : Nat) (vs : List (Nat × Rat)) : List Int × Bool :=
  let w := vs.zipIdx.map (fun p => extract p.1.1 (Config.tileValue job key (first + p.2) p.1.2))
  (w.map (·.1), w.any (·.2))

/-! ### Roots and angles, to more than 2^-80 -/

/-- The square root of a value; 0 of what is below 0. -/
def sqrtR (x : Rat) : Rat := if x ≤ 0 then 0 else mkRat (Nat.sqrt (x.num.natAbs * 2 ^ 240 / x.den)) (2 ^ 120)

/-- π, 50 digits. -/
def piR : Rat := mkRat 314159265358979323846264338327950288419716939937510 (10 ^ 50)

/-- Cosine and sine of an angle by their series. -/
def cosSin (a : Rat) : Rat × Rat :=
  let x := (a * (2 ^ 120 : Nat)).floor
  let r := (List.range 100).foldl (fun (acc : Int × Int × Int) k =>
    let t := acc.1
    let n := if k / 2 % 2 = 0 then t else -t
    let next := t * x / ((2 ^ 120 : Nat) * (k + 1 : Nat) : Int)
    if k % 2 = 0 then (next, acc.2.1 + n, acc.2.2) else (next, acc.2.1, acc.2.2 + n)) ((2 ^ 120 : Nat), 0, 0)
  (mkRat r.2.1 (2 ^ 120), mkRat r.2.2 (2 ^ 120))

/-- Arctangent of a value in [0, 1]: the argument halved three times, then the series. -/
def atanUnit (t : Rat) : Rat :=
  let half := fun (y : Rat) => mkRat (y / (1 + sqrtR (1 + y * y)) * (2 ^ 120 : Nat)).floor (2 ^ 120)
  let y := half (half (half t))
  let x := (y * (2 ^ 120 : Nat)).floor
  let r := (List.range 40).foldl (fun (acc : Int × Int) k =>
    let term := acc.1 / (2 * k + 1 : Nat)
    (acc.1 * x / (2 ^ 120 : Nat) * x / (2 ^ 120 : Nat), if k % 2 = 0 then acc.2 + term else acc.2 - term)) (x, 0)
  8 * mkRat r.2 (2 ^ 120)

/-- The angle of the vector (`c`, `s`), in (-π, π]; 0 of the zero vector. -/
def angleOf (c s : Rat) : Rat :=
  let a := |c|
  let b := |s|
  let q := if a = 0 && b = 0 then 0 else if b ≤ a then atanUnit (b / a) else piR / 2 - atanUnit (a / b)
  let h := if 0 ≤ c then q else piR - q
  if 0 ≤ s then h else -h

/-- An angle reduced to [-π, π) (07 R206). -/
def reduceAngle (q : Rat) : Rat := q - 2 * piR * ((q + piR) / (2 * piR)).floor

/-! ### Vectors, rotations, frames -/

abbrev R3 := Rat × Rat × Rat
abbrev Q4 := Rat × Rat × Rat × Rat

def add3 (a b : R3) : R3 := (a.1 + b.1, a.2.1 + b.2.1, a.2.2 + b.2.2)
def mul3 (k : Rat) (a : R3) : R3 := (k * a.1, k * a.2.1, k * a.2.2)
def sub3 (a b : R3) : R3 := add3 a (mul3 (-1) b)
def dot3 (a b : R3) : Rat := a.1 * b.1 + a.2.1 * b.2.1 + a.2.2 * b.2.2
def cross3 (a b : R3) : R3 :=
  (a.2.1 * b.2.2 - a.2.2 * b.2.1, a.2.2 * b.1 - a.1 * b.2.2, a.1 * b.2.1 - a.2.1 * b.1)
def norm3 (a : R3) : Rat := sqrtR (dot3 a a)
def list3 (a : R3) : List Rat := [a.1, a.2.1, a.2.2]
def sum3 (l : List R3) : R3 := l.foldl add3 (0, 0, 0)
def len3 (v : Vec3) : R3 := (word lenF v.1, word lenF v.2.1, word lenF v.2.2)

def qmul (a b : Q4) : Q4 :=
  let v : R3 := add3 (add3 (mul3 a.1 b.2) (mul3 b.1 a.2)) (cross3 a.2 b.2)
  (a.1 * b.1 - dot3 a.2 b.2, v)
def qconj (a : Q4) : Q4 := (a.1, mul3 (-1) a.2)
/-- A vector turned by a unit quaternion. -/
def turn (q : Q4) (v : R3) : R3 :=
  let t := mul3 2 (cross3 q.2 v)
  add3 (add3 v (mul3 q.1 t)) (cross3 q.2 t)
def quat (q : Quat) : Q4 := (word trigF q.1, word trigF q.2.1, word trigF q.2.2.1, word trigF q.2.2.2)
/-- The turn by an angle about a unit axis. -/
def turnBy (axis : R3) (a : Rat) : Q4 := let t := cosSin (a / 2); (t.1, mul3 t.2 axis)

/-- The rotation vector of a unit quaternion, by the shorter way. -/
def rotVector (q : Q4) : R3 :=
  let q : Q4 := if q.1 < 0 then (-q.1, mul3 (-1) q.2) else q
  let n := norm3 q.2
  if n = 0 then (0, 0, 0) else mul3 (2 * angleOf q.1 n / n) q.2

/-- A frame: its rotation and its origin in another. -/
structure Pose where
  r : Q4
  p : R3
deriving DecidableEq, Repr, Inhabited

def Pose.at (f : Pose) (v : R3) : R3 := add3 f.p (turn f.r v)
/-- A frame given in `f`, as `f` itself is given. -/
def Pose.sub (f g : Pose) : Pose := ⟨qmul f.r g.r, f.at g.p⟩
def poseId : Pose := ⟨(1, 0, 0, 0), (0, 0, 0)⟩

/-- Three LEN32, four TRIG32, six inertia words of a record. -/
def vecAt (b : Bytes) (o : Nat) : Vec3 := (ri b o 4, ri b (o + 4) 4, ri b (o + 8) 4)
def quatAt (b : Bytes) (o : Nat) : Quat := (ri b o 4, ri b (o + 4) 4, ri b (o + 8) 4, ri b (o + 12) 4)
def wordsAt (b : Bytes) (o n : Nat) : List Int := (List.range n).map (fun i => ri b (o + 4 * i) 4)

/-! ### The arm at work: its model, structure, tool and payload -/

/-- What a job computes with (07 R206): the model, the indices of the present records, the tool record, the payload. -/
structure Rig where
  arm : Nat
  m : ModelCfg
  idx : List Nat
  tool : Bytes
  pay : Int
  payPos : Vec3
deriving DecidableEq, Repr

def Rig.rcd (g : Rig) (i : Nat) : JointRec := g.m.joints.getD i {}
def Rig.joints (g : Rig) : List JointRec := g.idx.map g.rcd
def Rig.n (g : Rig) : Nat := g.idx.length
/-- The TCP in the frame of the last non-tool joint (07 R203). -/
def Rig.tcp (g : Rig) : Pose := ⟨quat (quatAt g.tool 16), len3 (vecAt g.tool 4)⟩
/-- Place of the last non-tool joint among those present. -/
def Rig.last (g : Rig) : Nat := (g.joints.filter (fun j => !mbit j.flags 1)).length - 1
/-- What a job's result depends on beside its inputs. -/
def Rig.key (g : Rig) : List Int :=
  [(g.arm : Int), (g.m.generation : Int), (inFrac g.m .for32 : Int), (inFrac g.m .mom32 : Int), g.pay, g.payPos.1, g.payPos.2.1, g.payPos.2.2]
    ++ g.idx.map (fun i => (i : Int)) ++ wordsAt g.tool 0 18

/-- Fraction bits of a joint's position (07 R225). -/
def posF (j : JointRec) : Nat := if j.type = 1 then lenF else angF
/-- Fraction bits of an inertia word of a joint: rotor and nominal (07 R202). -/
def jinF (j : JointRec) : Nat := if j.type = 1 then masF else inrF
/-- The unit axis of a record (07 R202). -/
def axisOf (j : JointRec) : R3 :=
  let s : Rat := if j.axis < 3 then 1 else -1
  match j.axis % 3 with | 0 => (s, 0, 0) | 1 => (0, s, 0) | _ => (0, 0, s)

/-- Joint positions of input words. -/
def Rig.pos (g : Rig) (q : List Int) : List Rat := g.joints.zipIdx.map (fun p => word (posF p.1) (q.getD p.2 0))

/-! ### Serial arms -/

/-- A present joint placed in the base frame: its record index and moved frame, axis, kind, the links that carry it (places, itself
among them), and its motion. -/
structure Link where
  ix : Nat
  f : Pose
  z : R3
  pris : Bool
  anc : List Nat
  w : R3 := (0, 0, 0)
  al : R3 := (0, 0, 0)
  a : R3 := (0, 0, 0)
deriving DecidableEq, Repr

/-- One joint after its parents: frame and motion for its q, q̇ and q̈ (07 R202). -/
def placeLink (g : Rig) (ls : List Link) (i : Nat) (x : Rat × Rat × Rat) : List Link :=
  let j := g.rcd i
  let par := ls.find? (fun l => l.ix = j.parent)
  let base : Pose := match par with | some l => l.f | none => poseId
  let f0 := base.sub ⟨quat j.rot, len3 j.transl⟩
  let z := turn f0.r (axisOf j)
  let pris : Bool := j.type = 1
  let f := if pris then { f0 with p := add3 f0.p (mul3 x.1 z) } else { f0 with r := qmul f0.r (turnBy (axisOf j) x.1) }
  let (w, al, a) := match par with | some l => (l.w, l.al, l.a) | none => (((0, 0, 0) : R3), ((0, 0, 0) : R3), ((0, 0, 0) : R3))
  let d := sub3 f.p base.p
  let a := add3 a (add3 (cross3 al d) (cross3 w (cross3 w d)))
  let zv := mul3 x.2.1 z
  let anc := (match par with | some l => l.anc | none => []) ++ [ls.length]
  let l : Link := { ix := i, f := f, z := z, pris := pris, anc := anc, w := w, al := al, a := a }
  ls ++ [if pris then { l with a := add3 a (add3 (mul3 x.2.2 z) (mul3 2 (cross3 w zv))) }
    else { l with w := add3 w zv, al := add3 al (add3 (mul3 x.2.2 z) (cross3 w zv)) }]

/-- The links of a serial arm at a motion. -/
def serialLinks (g : Rig) (xs : List (Rat × Rat × Rat)) : List Link :=
  g.idx.zipIdx.foldl (fun ls p => placeLink g ls p.1 (xs.getD p.2 (0, 0, 0))) []

/-- The frame of the last non-tool joint. -/
def lastFrame (g : Rig) (ls : List Link) : Pose := match ls[g.last]? with | some l => l.f | none => poseId

/-- The velocity direction that a joint gives to a point and to a frame. -/
def Link.lin (l : Link) (p : R3) : R3 := if l.pris then l.z else cross3 l.z (sub3 p l.f.p)
def Link.ang (l : Link) : R3 := if l.pris then (0, 0, 0) else l.z

/-- A body: its link, mass, place of its centre of mass, frame and inertia in it. -/
structure Body where
  link : Nat
  m : Rat
  c : R3
  r : Q4
  i : List Rat
deriving DecidableEq, Repr

/-- Inertia of a body times a vector, base frame. -/
def Body.inertia (b : Body) (v : R3) : R3 :=
  let u := turn (qconj b.r) v
  let e := fun k => b.i.getD k 0
  turn b.r (e 0 * u.1 + e 3 * u.2.1 + e 4 * u.2.2, e 3 * u.1 + e 1 * u.2.1 + e 5 * u.2.2, e 4 * u.1 + e 5 * u.2.1 + e 2 * u.2.2)

/-- The bodies of a serial arm: its links, its tool, its payload as a point mass (07 R202, R203). -/
def bodies (g : Rig) (ls : List Link) : List Body :=
  let own := ls.zipIdx.map (fun p =>
    let j := g.rcd p.1.ix
    { link := p.2, m := word masF j.mass, c := p.1.f.at (len3 j.com), r := p.1.f.r, i := j.inertia.map (word inrF) : Body })
  let f := lastFrame g ls
  let tool : Body := {
    link := g.last, m := word masF (ri g.tool 32 4), c := f.at (len3 (vecAt g.tool 36)), r := f.r,
    i := (wordsAt g.tool 48 6).map (word inrF) }
  own ++ [tool, { link := g.last, m := word masF g.pay, c := (f.sub g.tcp).at (len3 g.payPos), r := f.r, i := [] }]

def gravityOf (m : ModelCfg) : R3 := (word accF m.gravity.1, word accF m.gravity.2.1, word accF m.gravity.2.2)

/-- The bodies that a joint carries. -/
def bodiesOn (ls : List Link) (bs : List Body) (k : Nat) : List Body :=
  bs.filter (fun b => match ls[b.link]? with | some l => l.anc.contains k | none => false)

/-- Inverse dynamics of a serial arm (07 R206). -/
def serialInvDyn (g : Rig) (xs : List (Rat × Rat × Rat)) : List Rat :=
  let ls := serialLinks g xs
  let bs := bodies g ls
  ls.zipIdx.map (fun p =>
    ((bodiesOn ls bs p.2).map (fun b => match ls[b.link]? with
      | none => 0
      | some l =>
        let d := sub3 b.c l.f.p
        let ac := add3 l.a (add3 (cross3 l.al d) (cross3 l.w (cross3 l.w d)))
        let f := mul3 b.m (sub3 ac (gravityOf g.m))
        let n := add3 (b.inertia l.al) (cross3 l.w (b.inertia l.w))
        dot3 (p.1.lin b.c) f + dot3 p.1.ang n)).sum)

/-- The mass matrix of a serial arm, rows. -/
def serialMass (g : Rig) (q : List Rat) : List (List Rat) :=
  let ls := serialLinks g (q.map (fun x => (x, 0, 0)))
  let bs := bodies g ls
  ls.zipIdx.map (fun p => ls.zipIdx.map (fun r =>
    ((bodiesOn ls (bodiesOn ls bs p.2) r.2).map (fun b =>
      b.m * dot3 (p.1.lin b.c) (r.1.lin b.c) + dot3 p.1.ang (b.inertia r.1.ang))).sum))

/-! ### Delta arms (07 R204) -/

def blockWord (f : DeltaCfg → Int) (g : Rig) : Rat := word lenF (f g.m.block)
/-- The sign of z along which the platform hangs from the base, and the upper arms turn (R204 fixes no sign). -/
def hang : Rat := if Config.deltaDown then -1 else 1

/-- Unit radial direction of upper arm i: 0, +2π/3, +4π/3. -/
def radial (g : Rig) (i : Nat) : R3 :=
  let t := cosSin (word angF g.m.block.angle)
  let h := sqrtR 3 / 2
  match i with
  | 0 => (t.1, t.2, 0)
  | 1 => (-t.1 / 2 - h * t.2, -t.2 / 2 + h * t.1, 0)
  | _ => (-t.1 / 2 + h * t.2, -t.2 / 2 - h * t.1, 0)

/-- The elbow of arm i at an angle, and its first and second derivatives by the angle. -/
def elbow (g : Rig) (i : Nat) (q : Rat) : R3 × R3 × R3 :=
  let t := cosSin q
  let u := blockWord (·.upper) g
  let r := radial g i
  let up := fun (c s : Rat) => add3 (mul3 (u * c) r) (0, 0, u * hang * s)
  (add3 (mul3 (blockWord (·.baseR) g) r) (up t.1 t.2), up (-t.2) t.1, up (-t.1) (-t.2))

/-- The three centres of the spheres that the platform centre lies on. -/
def centres (g : Rig) (q : List Rat) : List R3 :=
  (List.range 3).map (fun i => sub3 (elbow g i (q.getD i 0)).1 (mul3 (blockWord (·.platR) g) (radial g i)))

/-- The solution x of n · x = b over three rows, by Cramer's rule. -/
def solve3 (n : List R3) (b : List Rat) : R3 :=
  let r := fun i => n.getD i (0, 0, 0)
  let det := dot3 (r 0) (cross3 (r 1) (r 2))
  mul3 (1 / det) (sum3 [mul3 (b.getD 0 0) (cross3 (r 1) (r 2)), mul3 (b.getD 1 0) (cross3 (r 2) (r 0)), mul3 (b.getD 2 0) (cross3 (r 0) (r 1))])

/-- The platform centre: the common point of three spheres of the lower arm's length, on the side where the platform hangs. -/
def platform (g : Rig) (q : List Rat) : R3 :=
  let c := centres g q
  let e := fun i => c.getD i (0, 0, 0)
  let d1 := sub3 (e 1) (e 0)
  let d2 := sub3 (e 2) (e 0)
  let k := cross3 d1 d2
  let h := solve3 [d1, d2, k] [dot3 d1 d1 / 2, dot3 d2 d2 / 2, 0]
  let l := blockWord (·.lower) g
  let t := sqrtR ((l * l - dot3 h h) / dot3 k k)
  add3 (add3 (e 0) h) (mul3 (if 0 ≤ k.2.2 * hang then t else -t) k)

/-- Rows n of N ṗ = diag(n · e') q̇, the lower arms from elbow to platform. -/
def lowers (g : Rig) (q : List Rat) : List R3 := let p := platform g q; (centres g q).map (fun e => sub3 p e)

/-- Columns of the platform's Jacobian. -/
def platJac (g : Rig) (q : List Rat) : List R3 :=
  let n := lowers g q
  (List.range 3).map (fun i =>
    solve3 n ((List.range 3).map (fun k => if k = i then dot3 (n.getD i (0, 0, 0)) (elbow g i (q.getD i 0)).2.1 else 0)))

/-- m_p: platform, its shares of the lower arms, tool and payload; and the mass at one elbow (07 R204). -/
def deltaMasses (g : Rig) : Rat × Rat :=
  let r := word trigF g.m.block.share
  let ml := word masF g.m.block.lowerMass
  (word masF g.m.block.platMass + 3 * (1 - r) * ml + word masF (ri g.tool 32 4) + word masF g.pay, r * ml)

/-- Inertia of one upper arm with its elbow share. -/
def armInertia (g : Rig) : Rat := word inrF g.m.block.upperInertia + (deltaMasses g).2 * blockWord (·.upper) g * blockWord (·.upper) g

/-- The mass matrix of a delta arm (07 R204): the arm inertias plus Jᵀ m_p J; the rule gives the platform rotation no term. -/
def deltaMass (g : Rig) (q : List Rat) : List (List Rat) :=
  let j := platJac g q ++ [(0, 0, 0)]
  (List.range 4).map (fun a => (List.range 4).map (fun b =>
    (if a = b && decide (a < 3) then armInertia g else 0) + (deltaMasses g).1 * dot3 (j.getD a (0, 0, 0)) (j.getD b (0, 0, 0))))

/-- Inverse dynamics of a delta arm with the split masses (07 R204). -/
def deltaInvDyn (g : Rig) (xs : List (Rat × Rat × Rat)) : List Rat :=
  let x := fun i => xs.getD i (0, 0, 0)
  let q := xs.map (·.1)
  let n := lowers g q
  let j := platJac g q
  let v := sum3 ((List.range 3).map (fun i => mul3 (x i).2.1 (j.getD i (0, 0, 0))))
  let e := fun i => elbow g i (x i).1
  let acc := solve3 n ((List.range 3).map (fun i =>
    let dv := sub3 v (mul3 (x i).2.1 (e i).2.1)
    dot3 (n.getD i (0, 0, 0)) (add3 (mul3 (x i).2.2 (e i).2.1) (mul3 ((x i).2.1 * (x i).2.1) (e i).2.2)) - dot3 dv dv))
  let gr := gravityOf g.m
  (List.range 3).map (fun i => armInertia g * (x i).2.2 - (deltaMasses g).2 * dot3 (e i).2.1 gr
    + (deltaMasses g).1 * dot3 (j.getD i (0, 0, 0)) (sub3 acc gr)) ++ [0]

/-- The angle of upper arm i at which its lower arm reaches the platform centre; none out of reach. Of two, the elbow further out. -/
def deltaAngle (g : Rig) (p : R3) (i : Nat) : Option Rat :=
  let r := radial g i
  let d := add3 p (mul3 (blockWord (·.platR) g - blockWord (·.baseR) g) r)
  let u := blockWord (·.upper) g
  let l := blockWord (·.lower) g
  let a := dot3 d r
  let b := hang * d.2.2
  let k := (dot3 d d + u * u - l * l) / (2 * u)
  let disc := a * a + b * b - k * k
  if disc < 0 then none else
  let s := sqrtR disc
  let s := if 0 ≤ b then s else -s
  some (angleOf (a * k + b * s) (b * k - a * s))

/-! ### Either kind -/

/-- The frame of the last non-tool joint and the TCP. -/
def flange (g : Rig) (q : List Rat) : Pose :=
  if g.m.delta then ⟨turnBy (0, 0, 1) (q.getD 3 0), platform g q⟩
  else lastFrame g (serialLinks g (q.map (fun x => (x, 0, 0))))
def fkPose (g : Rig) (q : List Rat) : Pose := (flange g q).sub g.tcp

/-- Columns of the geometric Jacobian at the TCP, linear and angular part. -/
def jacobian (g : Rig) (q : List Rat) : List (R3 × R3) :=
  let p := (fkPose g q).p
  if g.m.delta then
    (platJac g q).map (fun v => (v, (0, 0, 0))) ++ [(cross3 (0, 0, 1) (sub3 p (platform g q)), (0, 0, 1))]
  else
    let ls := serialLinks g (q.map (fun x => (x, 0, 0)))
    let chain := match ls[g.last]? with | some l => l.anc | none => []
    ls.zipIdx.map (fun l => if chain.contains l.2 then (l.1.lin p, l.1.ang) else ((0, 0, 0), (0, 0, 0)))

def invDyn (g : Rig) (xs : List (Rat × Rat × Rat)) : List Rat := if g.m.delta then deltaInvDyn g xs else serialInvDyn g xs
def massMatrix (g : Rig) (q : List Rat) : List (List Rat) := if g.m.delta then deltaMass g q else serialMass g q

/-- The friction and rotor terms of part 1 (07 R206). -/
def frictionOf (j : JointRec) (x : Rat × Rat × Rat) : Rat :=
  word (jinF j) j.jRot * x.2.2 + word trqF j.fV * x.2.1
    + word trqF j.fC * (if j.vBand = 0 then 0 else max (-1) (min 1 (x.2.1 / word velF j.vBand)))

/-! ### Factorisation (07 R212, R213) -/

/-- LDLᵀ of a symmetric matrix by rows: of each row the strict lower entries and the pivot. -/
def ldl (a : List (List Rat)) : List (List Rat × Rat) :=
  a.zipIdx.foldl (fun rows p =>
    let l := rows.zipIdx.foldl (fun (acc : List Rat) r =>
      let s := ((acc.zip r.1.1).zip (rows.map (·.2))).map (fun t => t.1.1 * t.1.2 * t.2)
      acc ++ [(p.1.getD r.2 0 - s.sum) / r.1.2]) []
    let d := p.1.getD p.2 0 - ((l.zip (rows.map (·.2))).map (fun t => t.1 * t.1 * t.2)).sum
    rows ++ [(l, d)]) []

/-- The smallest pivot. -/
def smallest (f : List (List Rat × Rat)) : Rat := match f.map (·.2) with | [] => 0 | d :: r => r.foldl min d

/-- The solution of L D Lᵀ x = b. -/
def ldlSolve (f : List (List Rat × Rat)) (b : List Rat) : List Rat :=
  let y := f.zipIdx.foldl (fun (y : List Rat) r => y ++ [b.getD r.2 0 - ((r.1.1.zip y).map (fun t => t.1 * t.2)).sum]) []
  let z := (y.zip f).map (fun t => t.1 / t.2.2)
  (f.zipIdx.reverse).foldl (fun (x : List Rat) r =>
    let below := (f.drop (r.2 + 1)).map (fun s => s.1.getD r.2 0)
    (z.getD r.2 0 - ((below.zip x).map (fun t => t.1 * t.2)).sum) :: x) []

/-- A matrix with a value added to its diagonal. -/
def addDiag (a : List (List Rat)) (d : Rat) : List (List Rat) :=
  a.zipIdx.map (fun r => r.1.zipIdx.map (fun x => if x.2 = r.2 then x.1 + d else x.1))

/-- The mass matrix factorised (07 R213): the factor, the word of the smallest pivot of the last pass, TINY_PIVOT and saturation. -/
def factorMass (g : Rig) (job : Nat) (key : List Int) (a : List (List Rat)) : List (List Rat × Rat) × Int × Bool × Bool :=
  let low := fun (f : List (List Rat × Rat)) (k : Nat) => emit job key k [(inFrac g.m .ldl32, smallest f)]
  let f := ldl a
  let s := low f 1000
  if s.1.getD 0 0 < g.m.epsM then
    let f' := ldl (addDiag a (word (inFrac g.m .mm32) g.m.reg))
    let s' := low f' 1001
    (f', s'.1.getD 0 0, true, s.2 || s'.2)
  else (f, s.1.getD 0 0, false, s.2)

/-! ### Inverse kinematics (07 R211, R212) -/

/-- A target pose of a request. -/
def targetPose (b : Bytes) : Pose := ⟨quat (quatAt b 12), len3 (vecAt b 0)⟩

/-- The pose error in the task directions of the mask, position and rotation, in the base frame. -/
def poseError (g : Rig) (t : Pose) (q : List Rat) : R3 × R3 :=
  let f := fkPose g q
  let m := fun (i : Nat) (x : Rat) => if mbit g.m.taskMask i then x else 0
  let d := sub3 t.p f.p
  let r := rotVector (qmul t.r (qconj f.r))
  ((m 0 d.1, m 1 d.2.1, m 2 d.2.2), (m 3 r.1, m 4 r.2.1, m 5 r.2.2))

/-- The words of an iterate: residuals LEN32 and ANG32 (07 R225), and whether one saturated. -/
def residual (g : Rig) (key : List Int) (t : Pose) (q : List Int) : Int × Int × Bool :=
  let e := poseError g t (g.pos q)
  let w := emit 3 (key ++ q) 0 [(lenF, norm3 e.1), (angF, norm3 e.2)]
  (w.1.getD 0 0, w.1.getD 1 0, w.2)

/-- The weighted residual, squared: orientation scaled by L_w. -/
def weighted (g : Rig) (ePos eRot : Int) : Rat :=
  let p := word lenF ePos
  let r := word lenF g.m.lW * word angF eRot
  p * p + r * r

/-- CONVERGED (07 R211). -/
def inTol (g : Rig) (ePos eRot : Int) : Bool := decide (ePos ≤ g.m.tolP) && decide (eRot ≤ g.m.tolO)

/-- An iterate as it is published: its residual, and whether the job ends with it. -/
def published (g : Rig) (key : List Int) (t : Pose) (cap : Nat) (x : IkState) : IkState :=
  let r := residual g key t x.q
  let conv := inTol g r.1 r.2.1
  { x with
    ePos := r.1, eRot := r.2.1, flags := x.flags ||| (bits [conv, !conv && decide (cap ≤ x.k)]) ||| 32 * b2n r.2.2,
    ended := conv || cap ≤ x.k }

/-- Rows of the masked Jacobian, orientation rows scaled by L_w; the columns of held joints are zero. -/
def maskedRows (g : Rig) (q : List Rat) : List (List Rat) :=
  let cols := (jacobian g q).zipIdx.map (fun c => if mbit (g.joints.getD c.2 {}).flags 2 then ((0, 0, 0), (0, 0, 0)) else c.1)
  let lw := word lenF g.m.lW
  let rows := [cols.map (·.1.1), cols.map (·.1.2.1), cols.map (·.1.2.2),
    cols.map (fun c => lw * c.2.1), cols.map (fun c => lw * c.2.2.1), cols.map (fun c => lw * c.2.2.2)]
  (rows.zipIdx.filter (fun r => mbit g.m.taskMask r.2)).map (·.1)

/-- λ² of a pivot word, JJT32 (07 R212). -/
def damping (m : ModelCfg) (s : Int) : Rat :=
  let f := inFrac m .jjt32
  if m.eps ≤ s then 0
  else let l := word lenF m.lamMax; l * l * (1 - word f s / word f m.eps)

/-- The joint words after a step with λ², clamped to the limits, and JOINT_LIMIT. -/
def ikMove (g : Rig) (key : List Int) (t : Pose) (q : List Int) (lam2 : Rat) : List Int × Bool × Bool :=
  let qr := g.pos q
  let rows := maskedRows g qr
  let lw := word lenF g.m.lW
  let e := poseError g t qr
  let ev := ((list3 e.1 ++ list3 (mul3 lw e.2)).zipIdx.filter (fun r => mbit g.m.taskMask r.2)).map (·.1)
  let jjt := rows.map (fun a => rows.map (fun b => ((a.zip b).map (fun p => p.1 * p.2)).sum))
  let y := ldlSolve (ldl (addDiag jjt lam2)) ev
  let dq := (List.range g.n).map (fun i => ((rows.zip y).map (fun p => p.1.getD i 0 * p.2)).sum)
  let w := emit 3 (key ++ q ++ [halfEven (lam2 * (2 ^ 64 : Nat))]) 2 ((g.joints.zip (qr.zip dq)).map (fun p => (posF p.1, p.2.1 + p.2.2)))
  let c := (g.joints.zip (q.zip w.1)).map (fun p => if mbit p.1.flags 2 then p.2.1 else clampI p.1.qMin p.1.qMax p.2.2)
  (c, (g.joints.zip (w.1.zip c)).any (fun p => !mbit p.1.flags 2 && p.2.1 ≠ p.2.2), w.2)

/-- The iterate after a published one of a serial arm; ended without a new one if neither step lowers the residual (07 R211, R212). -/
def serialStep (g : Rig) (key : List Int) (t : Pose) (cap : Nat) (x : IkState) : IkState :=
  let rows := maskedRows g (g.pos x.q)
  let jjt := rows.map (fun a => rows.map (fun b => ((a.zip b).map (fun p => p.1 * p.2)).sum))
  let f := inFrac g.m .jjt32
  let s := emit 3 (key ++ x.q) 40 [(f, smallest (ldl jjt))]
  let sw := s.1.getD 0 0
  let tiny := decide (sw < g.m.eps)
  let lam := emit 3 (key ++ x.q) 41 [(f, damping g.m sw), (f, 4 * damping g.m sw)]
  let base := x.flags ||| 4 * b2n tiny ||| 32 * b2n (s.2 || Config.overflowOf 3 (key ++ x.q))
  let try' := fun (l : Int) (y : IkState) =>
    let mv := ikMove g key t x.q (word f l)
    let y := { y with pivot := sw, lam2 := l, flags := y.flags ||| 64 * b2n mv.2.1 ||| 32 * b2n mv.2.2 }
    let r := residual g key t mv.1
    (decide (weighted g r.1 r.2.1 < weighted g x.ePos x.eRot), mv.1, y)
  let one := try' (lam.1.getD 0 0) { x with flags := base }
  let go := fun (r : Bool × List Int × IkState) => published g key t cap { r.2.2 with k := x.k + 1, q := r.2.1 }
  if one.1 then go one else
  let two := try' (lam.1.getD 1 0) { x with flags := base ||| 32 * b2n lam.2 }
  if two.1 then go two else { two.2.2 with flags := two.2.2.flags ||| 2, ended := true }

/-- Iterate 1 of a delta arm (07 R211): the closed-form solution within the limits, or JOINT_LIMIT at the seed. -/
def deltaStep (g : Rig) (key : List Int) (t : Pose) (x : IkState) : IkState :=
  let r := qmul t.r (qconj g.tcp.r)
  let yaw := reduceAngle (2 * angleOf r.1 r.2.2.2)
  let p := sub3 t.p (turn (turnBy (0, 0, 1) yaw) g.tcp.p)
  let th := (List.range 3).map (deltaAngle g p)
  let w := emit 3 key 2 (th.map (fun o => (angF, o.getD 0)) ++ [(angF, yaw)])
  let q := (g.joints.zip (x.q.zip w.1)).map (fun p => if mbit p.1.flags 2 then p.2.1 else p.2.2)
  let fits := th.all (·.isSome) && (g.joints.zip q).all (fun p => decide (p.1.qMin ≤ p.2) && decide (p.2 ≤ p.1.qMax))
  let y := { x with k := 1, ended := true, flags := x.flags ||| 32 * b2n w.2 }
  if fits then
    let e := residual g key t q
    { y with q := q, ePos := e.1, eRot := e.2.1, flags := y.flags ||| 1 ||| 32 * b2n e.2.2 }
  else { y with flags := y.flags ||| 64 }

/-- The next visible state of an IK job: iterate 0 at the seed, then the steps. -/
def ikNext (g : Rig) (target : Bytes) (cap : Nat) (seed : List Int) (warm : Nat) (at' : Option IkState) : IkState :=
  let t := targetPose target
  let key := g.key ++ wordsAt target 0 7
  match at' with
  | none =>
    let x := published g key t (if g.m.delta then 64 else cap) { k := 0, q := seed, flags := warm }
    if g.m.delta then { x with flags := x.flags - x.flags % 4, ended := false } else x
  | some x => if g.m.delta then deltaStep g key t x else serialStep g key t cap x

/-! ### The other jobs (07 R197, R225) -/

/-- Output words, pivot word and flags of a job that is not iterative. -/
def jobResult (g : Rig) (type flags : Nat) (inputs : Bytes) : List Int × Int × Nat :=
  let n := g.n
  let w := fun k => wordsAt inputs (4 * n * k) n
  let key := g.key ++ wordsAt inputs 0 (inputs.length / 4) ++ [(flags : Int)]
  let q := g.pos (w 0)
  let vel := (w 1).map (word velF)
  let lower := fun (f : List (List Rat × Rat)) => (f.map (·.1)).flatten
  let out := fun (vs : List (Nat × Rat)) => let e := emit type key 0 vs; (e.1, (0 : Int), 32 * b2n (e.2 || Config.overflowOf type key))
  match type with
  | 1 =>
    let f := fkPose g q
    out ((list3 f.p).map (fun x => (lenF, x)) ++ (f.r.1 :: list3 f.r.2).map (fun x => (trigF, x)))
  | 2 =>
    let j := jacobian g q
    out ((j.map (fun c => (lenF, c.1.1))) ++ (j.map (fun c => (lenF, c.1.2.1))) ++ (j.map (fun c => (lenF, c.1.2.2)))
      ++ (j.map (fun c => (trigF, c.2.1))) ++ (j.map (fun c => (trigF, c.2.2.1))) ++ (j.map (fun c => (trigF, c.2.2.2))))
  | 4 => out ((invDyn g (q.zip (vel.zip ((w 2).map (word accF))))).map (fun x => (trqF, x)))
  | 5 => out (((massMatrix g q).zipIdx.map (fun r => (r.1.take (r.2 + 1)).map (fun x => (inFrac g.m .mm32, x)))).flatten)
  | 6 =>
    let f := factorMass g 6 key (massMatrix g q)
    let vs := if mbit flags 0 then lower f.1 ++ f.1.map (·.2)
      else let d := f.1.map (fun r => sqrtR r.2)
        ((f.1.zip d).map (fun r => ((r.1.1.zip d).map (fun t => t.1 * t.2)) ++ [r.2])).flatten
    let e := emit 6 key 0 (vs.map (fun x => (inFrac g.m .ldl32, x)))
    (e.1, f.2.1, 4 * b2n f.2.2.1 + 32 * b2n (e.2 || f.2.2.2 || Config.overflowOf 6 key))
  | _ =>
    let f := factorMass g 7 key (massMatrix g q)
    let bias := invDyn g (q.zip (vel.map (fun v => (v, 0))))
    let tau := (w 2).map (word trqF)
    let x := ldlSolve f.1 ((tau.zip bias).map (fun t => t.1 - t.2))
    let e := emit 7 key 0 (x.map (fun x => (accF, x)))
    (e.1, f.2.1, 4 * b2n f.2.2.1 + 32 * b2n (e.2 || f.2.2.2 || Config.overflowOf 7 key))

end Sys2Proof.Machine
end

