-- ==== Sys2Proof/Machine/LoopIsa.lean ====
section
/-!
DEFINITION. The datapath of a loop engine (05 R135-R154): a program's registers, its memory accesses, its bundles, its arithmetic, and
the cycles it takes with its stalls (R143).
-/

namespace Sys2Proof.Machine

open Sys2Proof

/-! ### Fields, widths, rounding -/

/-- Bits [hi:lo] of a word. -/
def fld (w hi lo : Nat) : Nat := (w >>> lo) % 2 ^ (hi + 1 - lo)

/-- The signed value of the low `n` bits of a word. -/
def sbits (n w : Nat) : Int := let v := w % 2 ^ n; if v < 2 ^ (n - 1) then v else (v : Int) - 2 ^ n

/-- A result brought into `n` bits: saturated or wrapped, and whether it was outside (05 R150, R151). -/
def narrow (n : Nat) (s : Bool) (v : Int) : Int × Bool :=
  let lim : Int := 2 ^ (n - 1)
  if -lim ≤ v && v < lim then (v, false)
  else if s then (satI n v, true)
  else (sbits n (v % (2 ^ n : Nat)).toNat, true)

/-- R152: division of `x` by 2^sh, truncating or convergent. -/
def roundShift (conv : Bool) (x sh : Int) : Int :=
  if sh ≤ 0 then x * 2 ^ (-sh).toNat
  else
    let d : Int := 2 ^ sh.toNat
    let y := x / d
    let r := x - y * d
    let h := d / 2
    if conv && (h < r || (r = h && y % 2 ≠ 0)) then y + 1 else y

/-- The fewest bits that hold a value in two's complement (05 R153). -/
def bitsOf (v : Int) : Nat := if v < 0 then Nat.log2 ((-v - 1).toNat) + (if v = -1 then 1 else 2) else if v = 0 then 1 else Nat.log2 v.toNat + 2

/-! ### Registers -/

/-- Word of a register specifier X or S (05 R139, R140). -/
def readReg (r : LoopRegs) (sp : Nat) : BitVec 32 :=
  if sp < 64 then vget r.x ((sp + r.rotb) % 64) else vget r.sr (sp - 64)

/-- The value a scalar syllable reads: X, S, or a stage exponent. -/
def scalarOf (r : LoopRegs) (sp : Nat) : Int :=
  if sp < 96 then (readReg r sp).toInt else if 104 ≤ sp && sp < 120 then vget r.se (sp - 104) else 0

/-- A register written; `base` is the rotating base at issue. -/
def writeReg (base sp : Nat) (v : Int) (r : LoopRegs) : LoopRegs :=
  if sp < 64 then { r with x := vset r.x ((sp + base) % 64) (BitVec.ofInt 32 v) }
  else if sp < 96 then { r with sr := vset r.sr (sp - 64) (BitVec.ofInt 32 v) }
  else if 104 ≤ sp && sp < 120 then { r with se := vset r.se (sp - 104) (sbits 8 (v % 256).toNat) }
  else r

/-- Specifiers a scalar field may hold: X, S, SE. -/
def scalarOk (sp : Nat) : Bool := sp < 96 || (104 ≤ sp && sp < 120)

/-- Specifiers a group field may hold: X, or S with four registers in range (05 R140). -/
def groupOk (sp : Nat) : Bool := sp < 64 || (64 ≤ sp && sp ≤ 92)

/-- The specifier of a group's lane. -/
def lane (sp l : Nat) : Nat := if sp < 64 then (sp + l) % 64 else sp + l

/-- The rotation of a code (05 R144); none is reserved. -/
def rotOf : Nat → Option Nat
  | 0 => some 0 | 1 => some 1 | 2 => some 2 | 3 => some 4 | 4 => some 8 | _ => none

def rotate (k : Nat) (r : LoopRegs) : LoopRegs := { r with rotb := (r.rotb + 64 - k) % 64 }

/-- A saturation bit set (05 R151). -/
def satLane (l : Nat) (b : Bool) (r : LoopRegs) : LoopRegs := if b then { r with satw := mput r.satw l true } else r

/-- Mantissa or Q15 bits of a word (05 R150). -/
def mantissa (q15 : Bool) (w : BitVec 32) : Int := sbits (if q15 then 16 else 24) w.toNat

/-- Accumulator width (05 R150). -/
def accBits (q15 : Bool) : Nat := if q15 then 40 else 56

/-! ### Memory -/

/-- Base addresses of the blocks of an axis position (05 R135). -/
def inpAt (u : Cpu) : Nat := 64 * u.pos
def spAt (u : Cpu) : Nat := 0x400 + 64 * u.pos
def outAt (u : Cpu) : Nat := 0x800 + 64 * u.pos
def rdAt (u : Cpu) : Nat := 0x1000 + 4096 * u.pos + 2048 * u.half
def wrAt (u : Cpu) : Nat := 0x1000 + 4096 * u.pos + 2048 * (1 - u.half)
def coefAt (u : Cpu) : Nat := 0x11000 + 65536 * u.bank + 4096 * u.pos
def scratchAt : Nat := 0x31000

/-- Address `a` lies in the block of `n` bytes at `base`. -/
def inBlock (a base n : Nat) : Bool := base ≤ a && a < base + n

/-- A byte of scratch: as written since dispatch, else undefined (05 R135). -/
def scratchGet (u : Cpu) (a : Nat) : Byte :=
  match u.scratch.find? (fun x => x.1 = a) with
  | some x => x.2
  | none => Config.scratchByte u.serial a

/-- A cell put into a list of rising addresses. -/
def putCell (a : Nat) (b : Byte) (l : List Host.Cell) : List Host.Cell :=
  l.filter (fun x => x.1 < a) ++ [(a, b)] ++ l.filter (fun x => a < x.1)

/-- An aligned word of the axis's own memory (05 R136); none is a protection fault. -/
def readWord (u : Cpu) (a : Nat) : Option Nat :=
  if a % 4 ≠ 0 then none
  else if inBlock a (inpAt u) 64 then some (ru u.inp (a - inpAt u) 4)
  else if inBlock a (spAt u) 64 then some (ru u.sp (a - spAt u) 4)
  else if inBlock a (outAt u) 64 then some (ru u.outb (a - outAt u) 4)
  else if inBlock a (rdAt u) 2048 then some (ru u.rd (a - rdAt u) 4)
  else if inBlock a (wrAt u) 2048 then some (ru u.wr (a - wrAt u) 4)
  else if inBlock a (coefAt u) 4096 then some (ru u.coef (a - coefAt u) 4)
  else if inBlock a scratchAt 61440 then some (ofLe [scratchGet u a, scratchGet u (a + 1), scratchGet u (a + 2), scratchGet u (a + 3)])
  else none

/-- A word stored: to a block the program writes (05 R135, column "Written by"); elsewhere a protection fault. -/
def writeWord (u : Cpu) (a : Nat) (w : BitVec 32) : Cpu :=
  let b := le 4 w.toNat
  if a % 4 ≠ 0 then { u with stop := 2 }
  else if inBlock a (outAt u) 64 then { u with outb := patch u.outb (a - outAt u) b }
  else if inBlock a (rdAt u) 2048 then { u with rd := patch u.rd (a - rdAt u) b }
  else if inBlock a (wrAt u) 2048 then { u with wr := patch u.wr (a - wrAt u) b }
  else if inBlock a scratchAt 61440 then
    { u with scratch := ((List.range 4).foldl (fun l i => putCell (a + i) ((b.drop i).headD 0) l) u.scratch) }
  else { u with stop := 2 }

/-! ### Syllables: each reads `u`, the machine at issue, and changes `t` -/

def illegal (t : Cpu) : Cpu := { t with stop := 3 }

def onRegs (t : Cpu) (f : LoopRegs → LoopRegs) : Cpu := { t with r := f t.r }

/-- Lanes of a mask. -/
def lanes (m : Nat) : List Nat := (List.range 4).filter (mbit m)

/-- MAC, MUL, MSU (05 R145, R150). -/
def macOp (w : Nat) (u t : Cpu) : Cpu :=
  let op := fld w 27 26
  let a := fld w 18 12
  let b := fld w 11 5
  let sel := fld w 19 19
  if op = 3 || fld w 4 0 ≠ 0 || !groupOk a || !(if mbit w 24 then b < 96 else groupOk b) then illegal t else
  onRegs t fun r => (lanes (fld w 23 20)).foldl (fun r l =>
    let x := mantissa u.q15 (readReg u.r (lane a l))
    let y := mantissa u.q15 (readReg u.r (if mbit w 24 then b else lane b l))
    let i := 2 * l + sel
    let s := if op = 1 then x * y else if op = 0 then vget u.r.acc i + x * y else vget u.r.acc i - x * y
    let n := narrow (accBits u.q15) (mbit w 25) s
    satLane l n.2 { r with acc := vset r.acc i n.1 }) r

/-- The scalar operations (05 R146). -/
def aluOp (w : Nat) (u t : Cpu) : Cpu :=
  let op := fld w 27 24
  let dst := fld w 22 16
  let a := fld w 15 9
  let b := fld w 8 2
  let wid := fld w 1 0
  let bits := if wid = 0 then 24 else if wid = 1 then 16 else 32
  if 0xE ≤ op || wid = 3 || !scalarOk dst || !scalarOk a || !scalarOk b then illegal t else
  let x := scalarOf u.r a
  let y := scalarOf u.r b
  let sh := (y % 64).toNat
  let ux := (x % 4294967296).toNat
  let uy := (y % 4294967296).toNat
  let put := fun (v : Int) => onRegs t (writeReg u.r.rotb dst v)
  let arith := fun (v : Int) =>
    let n := narrow bits (mbit w 23) v
    onRegs t (fun r => satLane 0 n.2 (writeReg u.r.rotb dst n.1 r))
  match op with
  | 0 => arith (x + y) | 1 => arith (x - y) | 2 => arith (min x y) | 3 => arith (max x y)
  | 4 => arith x.natAbs | 5 => arith (-x)
  | 6 => put (ux &&& uy) | 7 => put (ux ||| uy) | 8 => put (ux ^^^ uy)
  | 9 => arith (x * 2 ^ sh) | 10 => arith (x / 2 ^ sh) | 11 => arith (min (max x (-y)) y)
  | 12 => if x < 0 then arith y else t
  | _ => arith x

/-- MOVI (05 R146). -/
def moviOp (w : Nat) (u t : Cpu) : Cpu :=
  let dst := fld w 22 16
  let imm := fld w 15 0
  if fld w 26 23 ≠ 0 || !scalarOk dst then illegal t
  else if mbit w 27 then
    onRegs t (writeReg u.r.rotb dst ((imm * 65536 : Nat) + (scalarOf u.r dst % 65536)))
  else onRegs t (writeReg u.r.rotb dst (sbits 16 imm))

/-- EXT, CLR, LDA (05 R147). -/
def accOp (w : Nat) (u t : Cpu) : Cpu :=
  let op := fld w 27 26
  let g := fld w 18 12
  let sel := fld w 19 19
  let sh := sbits 6 (fld w 11 6)
  let conv := mbit w 24
  let n := if u.q15 then 16 else 24
  if op = 3 || fld w 5 0 ≠ 0 || !groupOk g then illegal t else
  onRegs t fun r => (lanes (fld w 23 20)).foldl (fun r l =>
    let i := 2 * l + sel
    match op with
    | 0 =>
      let v := narrow n (mbit w 25) (roundShift conv (vget u.r.acc i) sh)
      satLane l v.2 (writeReg u.r.rotb (lane g l) v.1 r)
    | 1 => { r with acc := vset r.acc i 0 }
    | _ =>
      let v := narrow (accBits u.q15) (mbit w 25) (roundShift conv (sbits n (readReg u.r (lane g l)).toNat) sh)
      { r with acc := vset r.acc i v.1 }) r

/-- The accumulators a NORM or NORMTO acts on. -/
def normSet (w : Nat) : List (Nat × Nat) :=
  (lanes (fld w 23 20)).flatMap (fun l => if mbit w 4 then [(l, 2 * l), (l, 2 * l + 1)] else [(l, 2 * l + fld w 19 19)])

/-- Sign of a value. -/
def sgn (v : Int) : Int := if 0 < v then 1 else if v < 0 then -1 else 0

/-- One accumulator brought into 24 bits: clamped as R153 writes it, or wrapped with S = 0 (05 R148, R152; log 70). -/
def into24 (s : Bool) (l i : Nat) (v : Int) (r : LoopRegs) : LoopRegs :=
  if -8388608 ≤ v && v ≤ 8388607 then { r with acc := vset r.acc i v }
  else satLane l true { r with acc := vset r.acc i (if s then sgn v * 8388607 else (narrow 24 false v).1) }

/-- NORM and NORMTO (05 R148, R153). -/
def normOp (w : Nat) (u t : Cpu) : Cpu :=
  let op := fld w 27 24
  let d := fld w 18 15
  let f := vget u.r.se (fld w 14 11) + vget u.r.se (fld w 10 7)
  let conv := mbit w 6
  let s := mbit w 5
  let set := normSet w
  if 2 ≤ op || fld w 3 0 ≠ 0 || u.q15 then illegal t
  else if op = 1 then
    let sh := vget u.r.se d - f + 23
    onRegs t fun r => set.foldl (fun r x => into24 s x.1 x.2 (roundShift conv (vget u.r.acc x.2) sh) r) r
  else
    let b := set.foldl (fun m x => max m (bitsOf (vget u.r.acc x.2))) 0
    let sh : Int := (b : Int) - 24
    let e := f + sh - 23
    if 127 < e then
      onRegs t fun r =>
        let r := set.foldl (fun r x => satLane x.1 true { r with acc := vset r.acc x.2 (sgn (vget u.r.acc x.2) * 8388607) }) r
        { r with se := vset r.se d 127 }
    else
      let low := decide (e < -128)
      let sh := if low then sh + (-128 - e) else sh
      let e := if low then -128 else e
      onRegs t fun r =>
        let r := set.foldl (fun r x => satLane x.1 low (into24 s x.1 x.2 (roundShift conv (vget u.r.acc x.2) sh) r)) r
        { r with se := vset r.se d e }

/-- LD, ST, LD4, ST4 (05 R149). -/
def memOp (w : Nat) (u t : Cpu) : Cpu :=
  let op := fld w 27 26
  let reg := fld w 24 18
  let base := fld w 17 14
  let off := sbits 14 (fld w 13 0) * 4
  let n := if 2 ≤ op then 4 else 1
  if !(if n = 4 then groupOk reg else reg < 96) then illegal t else
  let b : Int := (vget u.r.sr base).toNat
  let addr := ((if mbit w 25 then b else b + off) % 4294967296).toNat
  let t := (List.range n).foldl (fun (t : Cpu) i =>
    let a := addr + 4 * i
    if op = 0 || op = 2 then
      match readWord u a with
      | some v => onRegs t (writeReg u.r.rotb (lane reg i) v)
      | none => { t with stop := 2 }
    else writeWord t a (readReg u.r (lane reg i))) t
  if mbit w 25 then onRegs t (fun r => { r with sr := vset r.sr base (BitVec.ofInt 32 (b + off)) }) else t

/-- CTRL in syllable 0 (05 R144): LSETUP and COMMIT; ROT is taken after the bundle. -/
def ctrlOp (w : Nat) (u t : Cpu) : Cpu :=
  match fld w 27 24 with
  | 0 => if fld w 23 0 = 0 then t else illegal t
  | 1 =>
    match rotOf (fld w 23 21) with
    | some k =>
      if fld w 20 12 = 0 || fld w 11 0 = 0 || 2 ≤ u.r.loops.length then illegal t
      else onRegs t (fun r => { r with loops := (u.pc + 1, u.pc + fld w 11 0, fld w 20 12, k) :: r.loops })
    | none => illegal t
  | 2 => if fld w 20 0 = 0 && (rotOf (fld w 23 21)).isSome then t else illegal t
  | 3 => if fld w 23 0 = 0 then { t with stop := if t.stop = 0 then 1 else t.stop } else illegal t
  | _ => illegal t

/-- Syllable 0: any class but MEM (05 R141). -/
def syllable0 (w : Nat) (u t : Cpu) : Cpu :=
  match fld w 31 28 with
  | 0 => ctrlOp w u t | 1 => macOp w u t | 2 => aluOp w u t | 3 => accOp w u t | 4 => normOp w u t | 5 => moviOp w u t
  | _ => illegal t

/-- Syllable 1: MEM, or NOP and ROT (05 R141). -/
def syllable1 (w : Nat) (u t : Cpu) : Cpu :=
  match fld w 31 28 with
  | 8 => memOp w u t
  | 0 => if fld w 27 24 = 0 || fld w 27 24 = 2 then ctrlOp w u t else illegal t
  | _ => illegal t

/-- The rotation a syllable asks for. -/
def rotBy (w : Nat) : Nat := if fld w 31 24 = 2 then (rotOf (fld w 23 21)).getD 0 else 0

/-! ### Cycles (05 R142, R143) -/

/-- What a syllable reads and writes: registers by physical number, with the latency of each written; accumulators, with the latencies
to MAC or MSU and to EXT, NORM or NORMTO. -/
structure Uses where
  rd : List Nat := []
  wr : List (Nat × Nat) := []
  accMac : List Nat := []
  accExt : List Nat := []
  accWr : List (Nat × Nat × Nat) := []

/-- The physical number of a register specifier (05 R140). -/
def phys (rotb sp : Nat) : Nat := if sp < 64 then (sp + rotb) % 64 else sp

/-- The uses of a syllable at a rotating base. A pair of producer and consumer that R143 does not list has the latency 1 (log 70). -/
def uses (rotb w : Nat) : Uses :=
  let ls := lanes (fld w 23 20)
  let group := fun (g : Nat) => ls.map (fun l => phys rotb (lane g l))
  let acc := ls.map (fun l => 2 * l + fld w 19 19)
  match fld w 31 28 with
  | 1 =>
    let b := fld w 11 5
    { rd := group (fld w 18 12) ++ (if mbit w 24 then [phys rotb b] else group b), accMac := if fld w 27 26 = 1 then [] else acc,
      accWr := acc.map (fun i => (i, 1, 2)) }
  | 2 =>
    let op := fld w 27 24
    let unary := op = 4 || op = 5 || op = 13
    let dst := phys rotb (fld w 22 16)
    { rd := phys rotb (fld w 15 9) :: (if unary then [] else [phys rotb (fld w 8 2)]) ++ (if op = 12 then [dst] else []),
      wr := [(dst, 1)] }
  | 3 =>
    let g := group (fld w 18 12)
    match fld w 27 26 with
    | 0 => { wr := g.map (fun x => (x, 2)), accExt := acc }
    | 1 => { accWr := acc.map (fun i => (i, 1, 1)) }
    | _ => { rd := g, accWr := acc.map (fun i => (i, 1, 1)) }
  | 4 =>
    let set := (normSet w).map (·.2)
    let d := 104 + fld w 18 15
    let toSet := fld w 27 24 = 1
    { rd := [104 + fld w 14 11, 104 + fld w 10 7] ++ (if toSet then [d] else []), wr := if toSet then [] else [(d, 2)], accExt := set,
      accWr := set.map (fun i => (i, 1, 2)) }
  | 5 =>
    let dst := phys rotb (fld w 22 16)
    { rd := if mbit w 27 then [dst] else [], wr := [(dst, 1)] }
  | 8 =>
    let base := 64 + fld w 17 14
    let regs := (List.range (if 2 ≤ fld w 27 26 then 4 else 1)).map (fun i => phys rotb (lane (fld w 24 18) i))
    let load := fld w 27 26 % 2 = 0
    { rd := base :: (if load then [] else regs),
      wr := (if load then regs.map (fun x => (x, 3)) else []) ++ (if mbit w 25 then [(base, 1)] else []) }
  | _ => {}

/-- The cycle at which a bundle issues: it stalls as a whole until every producer's latency has elapsed. -/
def issueAt (t : Timing) (us : List Uses) : Nat :=
  us.foldl (fun m x =>
    let m := x.rd.foldl (fun m i => max m (vget t.reg i)) m
    let m := x.accMac.foldl (fun m i => max m (vget t.accMac i)) m
    x.accExt.foldl (fun m i => max m (vget t.accExt i)) m) t.cycle

/-- The issue of a bundle. -/
def issue (t : Timing) (us : List Uses) : Timing :=
  let at' := issueAt t us
  us.foldl (fun t x => { t with
    reg := x.wr.foldl (fun v y => vset v y.1 (at' + y.2)) t.reg,
    accMac := x.accWr.foldl (fun v y => vset v y.1 (at' + y.2.1)) t.accMac,
    accExt := x.accWr.foldl (fun v y => vset v y.1 (at' + y.2.2)) t.accExt }) { t with cycle := at' + 1 }

/-- The ends of loop bodies at a bundle, innermost first (05 R144): the registers after them, and the next bundle. -/
def loopEnd : Nat → Nat → LoopRegs → LoopRegs × Nat
  | 0, pc, r => (r, pc + 1)
  | k + 1, pc, r =>
    match r.loops with
    | (start, stop, left, rot) :: rest =>
      if stop ≠ pc then (r, pc + 1)
      else
        let r := rotate rot r
        if 1 < left then ({ r with loops := (start, stop, left - 1, rot) :: rest }, start)
        else loopEnd k pc { r with loops := rest }
    | [] => (r, pc + 1)

/-- One bundle (05 R141, R142): both syllables read before either writes; ROT, then the ends of loop bodies. -/
def bundle (code : List (BitVec 32 × BitVec 32)) (u : Cpu) : Cpu :=
  match code[u.pc]? with
  | none => { u with stop := 2 }
  | some (w0, w1) =>
    let u := { u with tm := issue u.tm [uses u.r.rotb w0.toNat, uses u.r.rotb w1.toNat] }
    let t := syllable1 w1.toNat u (syllable0 w0.toNat u u)
    if t.stop ≠ 0 then t else
    let r := rotate (rotBy w1.toNat) (rotate (rotBy w0.toNat) t.r)
    let e := loopEnd 2 u.pc r
    { t with r := e.1, pc := e.2 }

/-- A program runs until it stops, at most `fuel` bundles. -/
def runProgram (code : List (BitVec 32 × BitVec 32)) : Nat → Cpu → Cpu
  | 0, u => u
  | n + 1, u => if u.stop ≠ 0 then u else runProgram code n (bundle code u)

/-- The registers at dispatch (05 R139). -/
def dispatchRegs (u : Cpu) (axis : Nat) : LoopRegs :=
  let pre := [inpAt u, spAt u, outAt u, rdAt u, wrAt u, coefAt u, scratchAt, axis]
  { sr := Vector.ofFn (fun i : Fin 32 => BitVec.ofNat 32 (pre.getD i.val 0)) }

end Sys2Proof.Machine
end

