-- ==== Sys2Proof/Machine/SafetyComm.lean ====
section
/-!
DEFINITION. The safety communication layer (chapter 11, R348-R355): the safety PDU, the checks of a consumer, the state machine of a
connection and the reactions to its loss; and a drive node's uplink PDU (10 R304).
-/

namespace Sys2Proof.Machine

open Sys2Proof

def Chip.conn (c : Chip) (i : Nat) : Conn := c.sio.conn.getD i {}
def onConn (c : Chip) (i : Nat) (f : Conn → Conn) : Chip := c.onSio (fun s => { s with conn := s.conn.modify i f })

/-- Fields of a connection ID (11 R349). -/
def idKind (id : Nat) : Nat := id / 2 ^ 28
def idEnd (id : Nat) : Nat := id / 2 ^ 8 % 256
def idDir (id : Nat) : Nat := id % 2

/-- The ID of the other direction of the same exchange (11 R349). -/
def idBack (id : Nat) : Nat := if id % 2 = 0 then id + 1 else id - 1

/-- A safety PDU (11 R348). -/
def safePdu (id seq stamp : Nat) (data : Bytes) : Bytes :=
  let b := le 4 id ++ le 2 (seq % 65536) ++ le 4 stamp ++ fit 18 data
  b ++ le 4 (crcSafety b)

/-- The table entry of the uplink connection of node `k` (its number less 1), and of the first cell-link connection received. -/
def nodeConn (c : Chip) (k : Nat) : Option Nat :=
  c.sio.conn.findIdx? (fun x => idKind x.id = 1 && idEnd x.id = k + 1 && idDir x.id = 0)
def firstLinkConn (c : Chip) : Option Nat := c.sio.conn.findIdx? (fun x => idKind x.id = 3 && idDir x.id = 0)

/-- A 32-bit stamp exceeds the last accepted one by `lo` to `hi` (11 R351). -/
def stampAdvances (last : Option Nat) (stamp lo hi : Nat) : Bool :=
  match last with
  | none => true
  | some l => let d := (stamp + 4294967296 - l) % 4294967296; lo ≤ d && d ≤ hi

/-- Plant time in units of 31.25 µs, low 32 bits (11 R351). -/
def linkStamp (c : Chip) : Nat := (c.plant / 31250 % 4294967296).toNat

/-- The time expectation of a connection (11 R351; a scan's stamp is newer than the last accepted scan's, 10 R299; 13 R403). -/
def stampOk (c : Chip) (x : Conn) (stamp : Nat) : Bool :=
  match idKind x.id with
  | 1 => stamp = c.count
  | 2 => stampAdvances x.stamp stamp 1 2147483647
  | 3 => remoteLocked c && (linkStamp c + 4294967296 - stamp) % 4294967296 ≤ c.cfg.sio.aLink
  | _ => stampAdvances x.stamp stamp 1 3

/-- What the checks of R350 make of a PDU. -/
def pduFault (c : Chip) (x : Conn) (p : Bytes) : Nat :=
  let seq := ru p 4 2
  let adv := match x.seq with | some s => (seq + 65536 - s) % 65536 | none => 1
  if p.length ≠ 32 || ru p 28 4 ≠ crcSafety (p.take 28) then 1
  else if ru p 0 4 ≠ x.id then 2
  else if x.seq = some seq then 5
  else if x.st ≠ .sync && (adv = 0 || c.cfg.sio.k < adv) then 3
  else if !stampOk c x (ru p 6 4) then 4
  else 0

/-- SAFETY_CONN (11 R359). -/
def postConn (c : Chip) (i reason : Nat) : Chip :=
  post c 5 0x0A05 i 0xFF (le 1 (c.conn i).st.code ++ le 1 reason ++ zeros 2 ++ le 4 (c.conn i).id)

/-- A channel of the safe I/O unit detects a fault (11 R347): it opens all its switches at once (11 R342), the fault is halting. -/
def chanFault (c : Chip) (ch cause obj term : Nat) : Chip :=
  if (vget c.sio.chan ch).fault then c else
  let now := c.now
  let c := c.onSio (fun s => { s with
    pulse := s.pulse.map (fun p => { p with discard := true }),
    chan := vmod s.chan ch (fun x => { x with
      fault := true, code := cause, obj := obj, faultAt := now,
      out := vmapIdx x.out (fun _ o => { o with sw := Vector.replicate 2 false }) }) })
  raiseFault (post c 5 0x0A03 0xFF 0xFF (le 1 cause ++ le 1 1 ++ le 1 term)) (0x0A00 + cause) true obj

/-- COPPER_FAIL and IRON_FAIL (10 R322). -/
def copperFails (c : Chip) : Chip :=
  if c.sep.copperFail then c else
  raiseFault (post (c.onSep (fun s => { s with copperFail := true })) 5 0x0903 0xFF 0xFF (le 1 6 ++ le 1 1)) 0x0906 true 0xFF
def ironFails (c : Chip) : Chip :=
  if c.sep.ironFail then c else
  raiseFault (post (c.onSep (fun s => { s with ironFail := true })) 5 0x0903 0xFF 0xFF (le 1 7 ++ le 1 1)) 0x0907 true 0xFF

/-- The reaction to a connection leaving OPEN (11 R353). A sensor's is its timeout (10 R300), a cell link's that its bits count as
demand while it is not OPEN, a pair's that the partner's class is lacking (13 R403). -/
def connLost (c : Chip) (i : Nat) : Chip :=
  let id := (c.conn i).id
  match idKind id with
  | 1 => c.onSep (fun s => { s with node := vmod s.node (idEnd id - 1) (fun n => { n with hist := [] }) })
  | 4 => chanFault c (1 - idDir id) 12 (idDir id) 0xFF
  | 5 => if idDir id = 0 then copperFails c else ironFails c
  | _ => c

/-- A connection leaves OPEN (11 R352): reason 0 watchdog, 1 ERROR_RATE. -/
def leaveOpen (c : Chip) (i reason : Nat) : Chip :=
  let c := onConn c i (fun x => { x with st := .timeout, errRate := reason = 1, run := 0, cnt := vmod x.cnt 6 inc })
  postConn (connLost c i) i reason

/-- A rejected PDU (11 R350, R352). -/
def rejectPdu (c : Chip) (i cause : Nat) : Chip :=
  let now := c.now
  let c := onConn c i (fun x => { x with
    run := 0, rej := now :: x.rej.filter (fun t => now < t + 1000000000), cnt := vmod x.cnt cause inc })
  if (c.conn i).st = .opened && 10 < (c.conn i).rej.length then leaveOpen c i 1 else c

/-- An accepted PDU (11 R352). A sensor's stamp is kept with its accepted scan (10 R299). -/
def acceptPdu (c : Chip) (i : Nat) (p : Bytes) : Chip :=
  let now := c.now
  let seq := ru p 4 2
  let f := fun (x : Conn) =>
    let one := match x.seq with | some s => decide ((seq + 65536 - s) % 65536 = 1) | none => false
    let run := if one then x.run + 1 else 0
    let calm := !(x.rej.any (fun t => now < t + 1000000000))
    let st := match x.st with
      | .sync => if 3 ≤ run then ConnSt.opened else .sync
      | .opened => .opened
      | .timeout => if !x.errRate || calm then .sync else .timeout
    { x with
      st := st, seq := some seq, stamp := if idKind x.id = 2 then x.stamp else some (ru p 6 4), lastOk := now,
      run := if x.st = .sync then run else 0, errRate := x.errRate && decide (st = .timeout),
      data := if x.st = .opened then slice p 10 18 else x.data, cnt := vmod x.cnt 0 inc }
  let was := (c.conn i).st
  let c := onConn c i f
  if was = .sync && (c.conn i).st = .opened then postConn c i 0 else c

/-- A PDU reaches the consumer of connection `i`; also whether its data are used (11 R350, R352). -/
def takePdu (c : Chip) (i : Nat) (p : Bytes) : Chip × Bool :=
  if c.sio.conn.length ≤ i then (c, false) else
  let x := c.conn i
  match pduFault c x p with
  | 0 => (acceptPdu c i p, x.st = .opened)
  | 5 => (onConn c i (fun x => { x with cnt := vmod x.cnt 5 inc }), false)
  | e => (rejectPdu c i e, false)

/-- A connection starts in SYNC (11 R352). -/
def connSync (x : Conn) : Conn :=
  { x with st := .sync, seq := none, stamp := none, run := 0, rej := [], errRate := false, data := [] }

/-- The uplink safety PDU of node `k` (10 R304, R307), with the raw positions of the same uplink. -/
def takeNodePdu (c : Chip) (k : Nat) (p : Bytes) : Chip :=
  match nodeConn c k with
  | none => c
  | some i =>
    let (c, used) := takePdu c i p
    if !used then c else
    let d := slice p 10 18
    let n : SafePdu := {
      cycle := c.cyc, spos := (List.range 8).map (fun j => ru d (2 * j) 2), status := byteN d 16, enforced := byteN d 17,
      raw := (vget c.star.node k).axes.map (·.pos) }
    c.onSep (fun s => { s with node := vmod s.node k (fun x => { x with
      hist := n :: x.hist.filter (fun (h : SafePdu) => h.cycle < c.cyc && c.cyc < h.cycle + 16) }) })

/-- The watchdog of a connection, ns (11 R351, R356): the table's where it gives one, else the kind's. -/
def connWd (c : Chip) (x : Conn) : Nat :=
  if x.wd ≠ 0 then x.wd * 1000000 else
  match idKind x.id with
  | 1 => 4 * c.period
  | 2 => match (List.range 8).filterMap (fun p => (vget c.cfg.sep.sensor p).bind (fun g => if g.conn = x.id then some g.tSwd else none)) with
    | t :: _ => t * 1000
    | [] => 200000000
  | 3 => 10000000
  | 4 => 750000
  | 5 => 500000
  | _ => 1500000

/-- t_wd expires without an accepted PDU (11 R352). -/
def watchdogOp (i : Nat) (c : Chip) : Chip :=
  let x := c.conn i
  if i < c.sio.conn.length && x.st = .opened then leaveOpen (c.atTime (x.lastOk + connWd c x)) i 0 else c

def execSafetyConnWatchdog (conn : Nat) : State → Host.Outcome State Fault Refusal := run (watchdogOp conn)

/-- A produced cell-link connection publishes its bits (11 R355): one PDU a cycle (13 R406), by the token holder (13 R395); its
sequence is the cycle count. -/
def publishLinks (c : Chip) : Chip :=
  if !c.active || !holdsToken c then c else
  c.cfg.sio.pub.foldl (fun c e =>
    let b := maskOf 16 (fun j => match e.2.2[j]? with
      | some p => (vget (vget c.sio.chan 0).inp p).st = .released && (vget (vget c.sio.chan 1).inp p).st = .released
      | none => false)
    let p := safePdu e.1 c.count (linkStamp c) (le 2 b)
    (List.range 2).foldl (fun c l => if mbit e.2.1 l then c.emit 4 l p else c) c) c

end Sys2Proof.Machine
end

