-- ==== Sys2Proof/Machine/Star.lean ====
section
/-!
DEFINITION. The time-triggered cell network (chapter 04): frames and their checks, channel states, cold start and ranging, claims,
acyclic transfers, its commands; and the step of plant time, which cold-starts it (03 R86). Sending a downlink is in Downlink.lean.
-/

namespace Sys2Proof.Machine

open Sys2Proof

/-! ### Ports, nodes, channels. `k` is the node's index, its number less 1. -/

def Chip.node (c : Chip) (k : Nat) : Node := vget c.star.node k
def Chip.port (c : Chip) (k : Nat) : PortEntry := vget c.cfg.slot.port k
def onNode (c : Chip) (k : Nat) (f : Node → Node) : Chip := c.onStar (fun s => { s with node := vmod s.node k f })
def onCh (c : Chip) (k h : Nat) (f : Chan → Chan) : Chip := onNode c k (fun n => { n with ch := vmod n.ch h f })
def Chip.ch (c : Chip) (k h : Nat) : Chan := vget (c.node k).ch h

/-- A channel the slot table uses (04 R108), in a pair on this unit's own channel (13 R391). -/
def chUsed (c : Chip) (k h : Nat) : Bool :=
  let p := c.port k
  c.active && 0 < p.a && (if h = 0 then p.chA else p.chB) && (match c.cfg.pair with | some g => g.identity = h + 1 | none => true)

/-- A configured node: its port is used and is no CLAIM_PORT (04 R122). -/
def configured (c : Chip) (k : Nat) : Bool := (chUsed c k 0 || chUsed c k 1) && !(c.port k).claim

/-- Channels of a node in a state. -/
def chCount (c : Chip) (k : Nat) (st : ChSt) : Nat := ((List.range 2).filter (fun h => (c.ch k h).st = st)).length

/-- A channel on which the star sends anything (04 R101, R109; 13 R397): the star runs, SLOTS_OK, not quiet. -/
def chSends (c : Chip) (k h : Nat) : Bool :=
  let st := (c.ch k h).st
  c.star.run && c.sys.slotsOk && !c.pair.quiet && st ≠ .unused && st ≠ .down

/-- A counter of R130: 0 RX_OK, 1 CRC_ERR, 2 HDR_ERR, 3 DRIFT_WARN, 4 DRIFT_BLOCK, 5 COPY_MISMATCH, 6 ACYC_RETRY, 7 ACYC_FAIL,
8 LINK_DOWN. -/
def countCh (c : Chip) (k h i : Nat) : Chip := onCh c k h (fun x => { x with cnt := vmod x.cnt i inc })

/-- An event of the star (04 R129). -/
def postCell (c : Chip) (code k h : Nat) (detail : Bytes) : Chip := post c 2 code (k + 1) h detail

/-- Identity of this unit in frames (04 R97): 0 for a single unit. -/
def unitIdent (c : Chip) : Nat := match c.cfg.pair with | some p => p.identity | none => 0

/-- Identity of the token holder (13 R399). -/
def holderIdent (c : Chip) : Nat := if unitIdent c = 0 then 0 else if holdsToken c then unitIdent c else 3 - unitIdent c

/-- A frame leaves the star `off` ns after t0. -/
def starSend (c : Chip) (type k h off : Nat) (b : Bytes) : Chip :=
  c.onStar (fun s => { s with sent := (type, k + 1, h, off, b) :: s.sent })

/-! ### Frames -/

/-- The header of a cell frame (04 R97). -/
def cellHeader (type node slot cycle seq len source : Nat) : Bytes :=
  le 1 type ++ le 1 node ++ le 1 slot ++ zeros 1 ++ le 4 cycle ++ le 2 (seq % 65536) ++ le 2 len ++ le 1 source ++ le 1 1 ++ zeros 2

/-- A frame closed with its check (04 R96). -/
def closed (b : Bytes) : Bytes := b ++ le 4 (crc32c b)

/-- The outcome of the checks of R99 other than the window: 0 valid, 1 wrong check, 2 another failure. -/
def frameFault (f : Bytes) (type node slot cycle : Nat) (body : Bytes → Bool) : Nat :=
  let n := f.length
  if n < 32 || 256 < n then 2
  else if ru f (n - 4) 4 ≠ crc32c (f.take (n - 4)) then 1
  else if byteN f 0 = type && byteN f 1 = node && byteN f 2 = slot && rsv f 3 1 && ru f 4 4 = cycle && ru f 10 2 = n
    && byteN f 12 = 0 && byteN f 13 = 1 && rsv f 14 2 && body f then 0
  else 2

/-- The body of an uplink of a port (04 R103, R104). -/
def uplinkBody (p : PortEntry) (f : Bytes) : Bool :=
  let s := b2n p.pdu
  let kk := byteN f 21 % 16
  f.length = 32 + 16 * p.a + 32 * s + 64 * kk && kk ≤ p.kUp && byteN f 21 / 16 = s && byteN f 20 = p.a
    && 1 ≤ byteN f 16 && byteN f 16 ≤ 3 && !mbit (byteN f 17) 7 && rsv f 26 2
    && (List.range p.a).all (fun i => ru f (28 + 16 * i + 8) 2 < 64 && rsv f (28 + 16 * i + 10) 2)

/-- An axis block of an uplink (04 R104). -/
def axisIn (f : Bytes) (i : Nat) : AxisIn :=
  let o := 28 + 16 * i
  { pos := ri f o 6, cur := ri f (o + 6) 2, status := ru f (o + 8) 2, aux := ru f (o + 12) 4 }

/-- The cycle-start frame of a channel (04 R101). -/
def cycleStart (c : Chip) (k h : Nat) : Bytes :=
  let n := c.node k
  let p := c.port k
  let x := c.ch k h
  let free := (List.range c.cfg.slot.slots.length).any (fun s =>
    (c.cfg.slot.slots.getD s (0, false)).2 && !(List.range 24).any (fun j => (c.node j).slot = some s))
  let flags := bits [x.st = .lock, c.star.stepped, x.st = .ranging, x.st = .excluded, x.st = .active,
    p.claim && x.st = .claiming && free && n.refused = 0, n.refused ≠ 0]
  closed (cellHeader 1 (k + 1) (n.slot.getD 0xFF) c.count c.count 48 (holderIdent c)
    ++ wide (c.t0 + c.ptOff) ++ le 1 c.cfg.sys.period ++ le 1 flags ++ le 2 x.delay ++ le 1 p.h ++ le 1 p.a
    ++ le 4 c.cfg.slot.tableId ++ le 1 (p.kUp + 16 * p.kDn) ++ le 1 (b2n p.pdu) ++ zeros 6)

/-- Cycle-starts leave every channel that is neither DOWN nor UNUSED (04 R101). -/
def sendStarts (c : Chip) : Chip :=
  (List.range 24).foldl (fun c k => (List.range 2).foldl (fun c h =>
    if chSends c k h then
      let f := cycleStart c k h
      starSend (onCh c k h (fun x => { x with
        count := if x.st = .lock then x.count + 1 else x.count, claimOpen := mbit (byteN f 27) 5 })) 1 k h 0 f
    else c) c) c

/-! ### Channel states -/

/-- A channel enters LOCK (04 R119, R120). -/
def toLock (x : Chan) : Chan :=
  { x with st := .lock, next := none, count := 0, silent := 0, samples := [], retry := 0, echoAt := none, downFor := 0 }

/-- A channel enters RANGING. -/
def toRanging (x : Chan) : Chan :=
  { x with st := .ranging, next := none, count := 0, samples := [], retry := 0, echoAt := none }

/-- A lane held in loop-back, or FAILED in its test, stays DOWN (14 R420, R425). -/
def laneOut (c : Chip) (k h : Nat) : Bool :=
  c.ster.lane = some (k, h) || c.ster.blocks.any (fun b => b.1 = 5 && b.2.1 = 24 * h + k && b.2.2.st = 3)

/-- A cold start (04 R119): every used channel enters LOCK; it stays DOWN while its link is down. -/
def coldStart (c : Chip) : Chip :=
  let c := c.onStar (fun s => { s with run := true, coldEnd := some (c.now + 2000000000) })
  (List.range 24).foldl (fun c k =>
    let used := fun h => chUsed c k h
    onNode c k (fun n => { n with
      wasActive := false,
      ch := vmapIdx n.ch (fun h x => if !used h then { x with st := .unused, next := none }
        else if x.linkUp && !laneOut c k h then toLock x else { x with st := .down, next := none }) })) c

/-- A state decided in the cycle takes effect at the boundary; NODE_UP and CHANNEL_EXCLUDED are posted (04 R120). -/
def takeNext (c : Chip) (k h : Nat) : Chip :=
  match (c.ch k h).next with
  | none => c
  | some .active =>
    let first := chCount c k .active = 0
    let c := onCh (onNode c k (fun n => { n with wasActive := true })) k h
      (fun x => { x with st := .active, next := none, count := 0, silent := 0 })
    if first then postCell c 0x0402 k 0xFF [] else c
  | some .excluded =>
    postCell (onCh c k h (fun x => { x with st := .excluded, next := none, count := 0 })) 0x0403 k h
      (le 2 (vget (c.ch k h).cnt 4 % 65536))
  | some .ranging => onCh c k h (fun x => { toRanging x with delay := if x.st = .excluded then 0xFFFF else x.delay })
  | some .lock =>
    let c' := onCh c k h toLock
    if (c.ch k h).st = .active then postCell c' 0x0404 k h [] else c'
  | some s => onCh c k h (fun x => { x with st := s, next := none, count := 0 })

/-- A free CLAIMABLE slot, the lowest (04 R124). -/
def freeClaimable (c : Chip) : Option Nat :=
  (List.range c.cfg.slot.slots.length).find? (fun s =>
    (c.cfg.slot.slots.getD s (0, false)).2 && !(List.range 24).any (fun j => (c.node j).slot = some s))

/-- Waiting claims are granted in ascending node order (04 R124). -/
def grantClaims (c : Chip) : Chip :=
  (List.range 24).foldl (fun c k => match (c.node k).claimWait, freeClaimable c with
    | some serial, some s =>
      let c := onNode c k (fun n => { n with
        slot := some s, claimed := true, serial := serial, claimWait := none,
        ch := vmapIdx n.ch (fun _ x => if x.st = .claiming then { x with next := some .ranging } else x) })
      postCell c 0x0407 k 0xFF (le 1 s ++ zeros 3 ++ le 4 serial)
    | _, _ => c) c

/-- The cycle that ends is judged, channel by channel (04 R115, R120, R125). -/
def closeChan (cyc : Nat) (x : Chan) : Chan :=
  { x with
    silent := if x.st = .active then (if x.got then 0 else x.silent + 1) else 0,
    count := match x.st with
      | .admitting => if x.got then x.count else 0
      | .excluded => x.count + 1
      | _ => x.count,
    downFor := if x.st = .down then x.downFor + 1 else 0,
    retry := if 1 < x.retry then x.retry - 1 else x.retry,
    blocked := x.blocked.filter (fun b => cyc < b + 1024),
    claimOpen := false, got := false }

/-- The star at a boundary: the past cycle closed, decided states taken, claims granted. -/
def starBoundary (c : Chip) : Chip :=
  let cyc := c.cyc
  let c := c.onStar (fun s => { s with
    node := vmapIdx s.node (fun _ n => { n with
      ch := vmapIdx n.ch (fun _ x => closeChan cyc x), copy := none, fresh := false,
      refused := if 1 < n.refused then n.refused - 1 else n.refused,
      trigs := n.trigs.filter (fun t => c.t0 + c.ptOff ≤ t.when || !(t.sent || t.late)) }) })
  let c := grantClaims c
  (List.range 24).foldl (fun c k => (List.range 2).foldl (fun c h => takeNext c k h) c) c

/-- Loss of channels, judged at a boundary (04 R122): a configured node with no ACTIVE channel left halts, with one of two degrades.
In a pair the partner's channel counts as ACTIVE while its uplinks are forwarded (13 R405; DEDUCED: within the last 64 cycles).
A channel under self-test counts as ACTIVE (14 R420). -/
def nodesJudged (c : Chip) : Chip :=
  (List.range 24).foldl (fun c k =>
    if !configured c k || !(c.node k).wasActive then c else
    let act := fun h => (c.ch k h).st = .active || c.ster.excused.any (fun e => e.1 = k && e.2.1 = h && c.now < e.2.2)
    let other := 2 - unitIdent c
    let seen := match vget c.pair.pSeen k with | some t => decide (c.now < t + 64 * c.period) | none => false
    let partner := c.cfg.pair.isSome && (if other = 0 then (c.port k).chA else (c.port k).chB)
    let used := (List.range 2).filter (chUsed c k) ++ (if partner then [other] else [])
    let up := used.filter (fun h => if chUsed c k h then act h else seen)
    let halted := c.sys.haltCauses.any (fun x => x.1 = 0x0401 && x.2 = k + 1)
    let degraded := c.sys.degCauses.any (fun x => x.1 = 0x0402 && x.2.1 = k + 1)
    if up.isEmpty then
      if halted then c else raiseFault (degradeGone c 0x0402 (k + 1)) 0x0401 true (k + 1)
    else
      let c := if halted then haltGone c 0x0401 (k + 1) else c
      if up.length < used.length then (if degraded then c else raiseFault c 0x0402 false (k + 1))
      else degradeGone c 0x0402 (k + 1)) c

/-- Block lock comes or goes (04 R120). -/
def linkOp (k h : Nat) (up : Bool) (c : Chip) : Chip :=
  let st := (c.ch k h).st
  if laneOut c k h then c else
  let c := onCh c k h (fun x => { x with linkUp := up })
  if up then (if st = .down then onCh c k h toLock else c)
  else if st = .unused || st = .down then c
  else postCell (countCh (onCh c k h (fun x => { x with st := .down, next := none, downFor := 0, echoAt := none })) k h 8)
    0x0405 k h []

def execLinkStateChange (node : Fin 24) (ch : Fin 2) (up : Bool) : State → Host.Outcome State Fault Refusal :=
  run (linkOp node ch up)

/-- A channel's count expires in the cycle in progress (04 R120): the change takes effect at the boundary (log 18). -/
def countOp (k h : Nat) (c : Chip) : Chip :=
  let x := c.ch k h
  let goes := fun (s : ChSt) => onCh c k h (fun x => { x with next := some s })
  match x.st with
  | .lock =>
    if x.count < 64 then c
    else if (c.node k).slot.isSome then goes .ranging
    else if (c.port k).claim then goes .claiming
    else c
  | .active => if x.got || x.silent + 1 < 64 then c else goes .lock
  | .excluded => if x.count + 1 < 64 then c else goes .ranging
  | .ranging => if x.retry = 1 then onCh c k h (fun x => { x with retry := 0 }) else c
  | _ => c

def execChannelCountExpiry (node : Fin 24) (ch : Fin 2) : State → Host.Outcome State Fault Refusal :=
  run (countOp node ch)

/-- Nodes ACTIVE on every used channel (04 R129). -/
def fullyUp (c : Chip) (k : Nat) : Bool :=
  ((List.range 2).any (chUsed c k)) && (List.range 2).all (fun h => !chUsed c k h || (c.ch k h).st = .active)

/-- The cold start ends (04 R119): every configured node up, or 2 s after it began. -/
def coldEndOp (c : Chip) : Chip :=
  match c.star.coldEnd with
  | none => c
  | some e =>
    let all := (List.range 24).all (fun k => !configured c k || fullyUp c k)
    let c := if all then c else c.atTime e
    post (c.onStar (fun s => { s with coldEnd := none })) 2 0x0401 0 0xFF (le 3 (maskOf 24 (fullyUp c)))

def execColdStartEnd : State → Host.Outcome State Fault Refusal := run coldEndOp

/-! ### Uplinks -/

/-- An uplink copy takes more of the wire than its window, slot start + 220 ns (04 R114): a byte takes 0.8 ns. -/
def overWindow (off : Int) (f : Bytes) : Bool := decide (256 < f.length) && decide (5 * off + 256 * (f.length : Int) > 70400)

/-- A blocked frame (04 R114, R115): the 16th within 1 024 cycles excludes an ACTIVE channel. -/
def blockedAt (c : Chip) (k h : Nat) : Chip :=
  onCh c k h (fun x =>
    let b := c.cyc :: x.blocked
    { x with
      blocked := b, next := if x.st = .active && 16 ≤ b.length then some .excluded else x.next,
      count := if x.st = .admitting then 0 else x.count, got := if x.st = .admitting then false else x.got })

/-- The measured offset of a copy, with its extremes since the counters were cleared (04 R115, R130). -/
def noteOffset (c : Chip) (k h : Nat) (off : Int) : Chip :=
  onCh c k h (fun x =>
    { x with
      offSeen := true, offLast := off, offMin := if x.offSeen then min off x.offMin else off,
      offMax := if x.offSeen then max off x.offMax else off })

/-- Input blocks of the node's axes (05 R137, R138). -/
def giveInputs (c : Chip) (k h : Nat) (f : Bytes) : Chip :=
  c.onLoops (fun l => { l with
    ax := vmapIdx l.ax (fun i x => match vget c.cfg.axis i with
      | some g => if g.node = k + 1 && g.pos < (c.port k).a then
          if x.dispatched then x else
          { x with
            inFlags := 2 * h,
            inp := slice f (28 + 16 * g.pos) 16 ++ slice f 18 2 ++ zeros 1 ++ slice f 16 1 ++ le 4 (c.now - c.t0) }
        else x
      | none => x) })

/-- The acknowledgement of an uplink takes the acknowledged blocks from the outstanding request (04 R127). -/
def takeAck (ack : Nat) (t : Transfer) : Transfer :=
  match t.blocks.findIdx? (fun b => b.seq = ack && 0 < b.tries) with
  | some i => { t with blocks := t.blocks.drop (i + 1) }
  | none => t

/-- COPY_MISMATCH counts on the channel of the later copy: 04 R100 names no channel (log 69). -/
def countMismatch (c : Chip) (k h : Nat) : Chip := countCh c k h 5

/-- The copy of a node's uplink that the loop engines and the star use (04 R100, R103, R104), with its safety PDU; a node's connection
starts in SYNC when the node enters OPERATIONAL (11 R352). -/
def useUplink (c : Chip) (k h : Nat) (f : Bytes) : Chip :=
  let again := (c.node k).fresh
  let rises := (c.node k).state ≠ 1 && byteN f 16 = 1
  let c := giveInputs c k h f
  let c := onNode c k (fun n => { n with
    copy := some (h, c.now, f), state := byteN f 16, reception := byteN f 17, fresh := true, fault := ru f 24 2,
    sample := ru f 18 2, samplePrev := if again then n.samplePrev else n.sample,
    axesPrev := if again then n.axesPrev else n.axes, axes := (List.range (c.port k).a).map (axisIn f),
    tinPrev := if again then n.tinPrev else n.tin, tin := c.t0 + c.ptOff + Config.tIn,
    transfer := n.transfer.map (takeAck (ru f 22 2)) })
  let c := if rises then (match nodeConn c k with | some i => onConn c i connSync | none => c) else c
  if (c.port k).pdu then takeNodePdu c k (slice f (28 + 16 * (c.port k).a) 32) else c

/-- An accepted uplink of a forward source leaves on its egress channels (04 R117). -/
def forward (c : Chip) (k : Nat) (f : Bytes) : Chip :=
  c.cfg.slot.fwd.foldl (fun c e =>
    if e.1 = k + 1 then (List.range 2).foldl (fun c h =>
      if mbit e.2.2.2 h && chSends c (e.2.1 - 1) h then starSend c 2 (e.2.1 - 1) h (Config.slotStart e.2.2.1) f else c) c
    else c) c

/-- An uplink copy arrives, `off` 1/64 ns from the start of the slot its node holds (04 R99, R114, R115, R120). Without a slot no window is
open for it. A copy that does not end within the window is not taken whole, so its check value is not looked at (R114). -/
def uplinkOp (k h : Nat) (off : Int) (f : Bytes) (c : Chip) : Chip :=
  let st := (c.ch k h).st
  if !c.star.run || st = .unused || st = .down then c else
  let fault := fun (c : Chip) (s : Nat) =>
    frameFault f 2 (k + 1) s c.count (fun f => ru f 8 2 = c.count % 65536 && uplinkBody (c.port k) f)
  let reset := fun (c : Chip) => if st = .admitting then onCh c k h (fun x => { x with count := 0, got := false }) else c
  match (c.node k).slot with
  | none =>
    let bad := fault c (byteN f 2)
    if 256 < f.length || bad = 0 then blockedAt c k h else reset (countCh c k h bad)
  | some s =>
    let c := noteOffset (c.atTime (((c.t0 + Config.slotStart s : Nat) : Int) + off / 64).toNat) k h off
    let bad := fault c s
    if overWindow off f then blockedAt c k h
    else if bad ≠ 0 then reset (countCh c k h bad)
    else
      if 896 < off.natAbs then blockedAt (countCh c k h 4) k h
      else
        let c := countCh c k h 0
        let c := if 512 < off.natAbs then countCh c k h 3 else c
        let c := if st = .admitting then
            (if off.natAbs ≤ 512 then onCh c k h (fun x => { x with
              got := true, count := x.count + 1, next := if 16 ≤ x.count + 1 then some .active else x.next })
             else reset c)
          else onCh c k h (fun x => { x with got := true, next := if x.next = some .lock then none else x.next })
        let n := c.node k
        let c := match n.copy with
          | some (_, _, g) => if g = f then c else countMismatch c k h
          | none => let c := forward c k f
            if c.pair.st.isSome then (c.emit 2 0 f).emit 2 1 f else c
        let better := c.pair.st.isSome && h = 0
        if st = .active && (!n.fresh || better) then useUplink c k h f
        else if n.copy.isNone then onNode c k (fun n => { n with copy := some (h, c.now, f) })
        else c

def execUplinkReceived (node : Fin 24) (ch : Fin 2) (off : Int) (frame : Bytes) : State → Host.Outcome State Fault Refusal :=
  run (uplinkOp node ch off frame)

/-- Cycles without an accepted uplink end with INPUT_MISSING (05 R138). -/
def markMissing (c : Chip) (k : Nat) : Chip :=
  c.onLoops (fun l => { l with
    ax := vmapIdx l.ax (fun i x => match vget c.cfg.axis i with
      | some g => if g.node = k + 1 then { x with inFlags := x.inFlags ||| 1 } else x
      | none => x) })

/-! ### Ranging -/

/-- At t_out an ECHO_REQ leaves every channel in RANGING (04 R121). -/
def echoOp (c : Chip) : Chip :=
  let off := Config.tOut c.cfg.sys.period
  let c := c.atOff off
  (List.range 24).foldl (fun c k => (List.range 2).foldl (fun c h =>
    let x := c.ch k h
    if chSends c k h && x.st = .ranging && x.retry = 0 && x.next.isNone then
      let e := (x.echo + 1) % 65536
      starSend (onCh c k h (fun x => { x with echo := e, echoAt := some (c.t0 + off) })) 4 k h off
        (closed (cellHeader 4 (k + 1) 0xFF c.count e 32 (unitIdent c) ++ zeros 12))
    else c) c) c

def execEchoRequestSend : State → Host.Outcome State Fault Refusal := run echoOp

/-- An instant in 1/64 ns of local time lies in the service window, t_upend to t_upend + 2.00 µs (04 R121). -/
def inService (c : Chip) (x : Nat) : Bool :=
  let open' := c.t0 + Config.tUpEnd c.cfg.sys.period
  decide (64 * open' ≤ x) && decide (x ≤ 64 * (open' + 2000))

/-- An ECHO_RESP arrives, `rtt` 1/64 ns after its request left (04 R120, R121). -/
def echoRespOp (k h rtt : Nat) (f : Bytes) (c : Chip) : Chip :=
  let x := c.ch k h
  if !c.star.run || x.st = .unused || x.st = .down then c else
  let fault := fun (c : Chip) => frameFault f 5 (k + 1) 0xFF c.count (fun f => f.length = 32 && ru f 8 2 = x.echo && rsv f 20 8)
  match x.echoAt with
  | none => let bad := fault c; if bad ≠ 0 then countCh c k h bad else blockedAt c k h
  | some t =>
    let c := c.atTime (t + rtt / 64)
    let bad := fault c
    if bad ≠ 0 then countCh c k h bad
    else if x.st ≠ .ranging || !inService c (64 * t + rtt) then blockedAt c k h
    else
      let d := quot 4 ((rtt : Int) - ru f 16 4) 2
      let c := countCh (onCh c k h (fun x => { x with echoAt := none, samples := x.samples ++ [satU 16 d] })) k h 0
      let l := (c.ch k h).samples
      if l.length < 16 then c else
      let mean := (quot 4 l.sum 16).toNat
      let spread := l.foldl max 0 - l.foldl min 65535
      if mean ≤ 64 * (c.port k).dMax && spread ≤ 256 then
        onCh c k h (fun x => { x with delay := mean, samples := [], next := some .admitting })
      else postCell (onCh c k h (fun x => { x with samples := [], retry := 1025 })) 0x0406 k h (le 2 mean ++ le 2 spread)

def execEchoRespReceived (node : Fin 24) (ch : Fin 2) (rtt : Nat) (frame : Bytes) : State → Host.Outcome State Fault Refusal :=
  run (echoRespOp node ch rtt frame)

/-! ### Claims -/

/-- A CLAIM copy arrives, `off` 1/64 ns after t0 (04 R123, R124): its window is the service window of a channel whose cycle-start shows
CLAIM_OPEN; a second copy of the cycle with the same sequence is discarded (R100). -/
def claimOp (k h off : Nat) (f : Bytes) (c : Chip) : Chip :=
  let n := c.node k
  let p := c.port k
  let x := c.ch k h
  if !c.star.run || x.st = .unused || x.st = .down then c else
  let c := c.atTime (c.t0 + off / 64)
  let bad := frameFault f 6 (k + 1) 0xFF c.count (fun f => f.length = 48 && rsv f 29 1 && rsv f 36 8)
  let seq := some (c.cyc, ru f 8 2)
  if bad ≠ 0 then countCh c k h bad
  else if !(x.claimOpen && x.st = .claiming && inService c (64 * c.t0 + off)) then blockedAt c k h
  else
    let c := countCh c k h 0
    if n.claimSeq = seq || n.claimWait.isSome || n.refused ≠ 0 then c else
    let c := onNode c k (fun n => { n with claimSeq := seq })
    let fits := c.cfg.slot.claims.any (fun e =>
      e.1 = k + 1 && e.2.1 = byteN f 28 && e.2.2.1 = ru f 16 4 && e.2.2.2 = ru f 20 4) && ru f 30 2 ≤ p.tPrep
    if fits then onNode c k (fun n => { n with claimWait := some (ru f 24 4) })
    else postCell (onNode c k (fun n => { n with refused := 1025 })) 0x0408 k 0xFF (slice f 16 8)

def execClaimReceived (node : Fin 24) (ch : Fin 2) (got : Arrival) : State → Host.Outcome State Fault Refusal :=
  run (claimOp node ch got.off got.frame)

/-- CLAIM_REFUSED clears (04 R124). -/
def execClaimRefusedExpiry (node : Fin 24) : State → Host.Outcome State Fault Refusal :=
  run fun c => if (c.node node).refused = 1 then onNode c node (fun n => { n with refused := 0 }) else c

/-- The star releases a claimed slot (04 R125). -/
def releaseClaim (c : Chip) (k : Nat) : Chip :=
  match (c.node k).slot with
  | some s => if (c.node k).claimed then
      postCell (onNode c k (fun n => { n with slot := none, claimed := false, serial := 0 })) 0x0409 k 0xFF (le 1 s)
    else c
  | none => c

/-- Every channel of the node has been DOWN for 64 cycles (04 R125). -/
def execClaimReleaseDown (node : Fin 24) : State → Host.Outcome State Fault Refusal :=
  run fun c =>
    let used := (List.range 2).filter (chUsed c node)
    if !used.isEmpty && used.all (fun h => (c.ch node h).st = .down && 64 ≤ (c.ch node h).downFor) then releaseClaim c node else c

/-! ### Acyclic transfers -/

/-- The command of a transfer completes: its response (04 R131). -/
def endTransfer (c : Chip) (k st : Nat) (data : Bytes) : Chip :=
  match (c.node k).transfer with
  | none => c
  | some t => respond (onNode c k (fun n => { n with transfer := none })) t.ring t.seq t.opcode (le 1 st ++ zeros 3 ++ data)

/-- A node's block is accepted in order, or discarded (04 R127, R128). -/
def acycOp (k : Nat) (b : Bytes) (c : Chip) : Chip :=
  let n := c.node k
  let seq := ru b 2 2
  let first := mbit (byteN b 1) 0
  if !acycValid b || !(first || seq = (n.rxSeq + 1) % 65536) then c
  else
    let c := onNode c k (fun n => { n with rxSeq := seq })
    match n.transfer with
    | none => c
    | some t =>
      if ru b 4 2 ≠ t.id then
        -- a FIRST discards any partial transfer
        (if first then onNode c k (fun n => { n with transfer := some { t with begun := false, got := [] } }) else c)
      else if !first && !t.begun then c
      else
        let got := (if first then [] else t.got) ++ slice b 8 52
        let c := onNode c k (fun n => { n with transfer := some { t with begun := true, got := got, total := ru b 6 2 } })
        if !mbit (byteN b 1) 1 then c
        else
          let m := fit (ru b 6 2) got
          let st := byteN m 2
          let len := min (ru m 10 2) 4084
          if st ≠ 0 then endTransfer c k st []
          else if t.opcode = 0x0410 then endTransfer c k 0 (le 2 len ++ zeros 2 ++ slice m 12 len)
          else endTransfer c k 0 []

def execAcyclicBlockReceived (node : Fin 24) (block : Bytes) : State → Host.Outcome State Fault Refusal :=
  run (acycOp node block)

/-- The counter of every channel in use of a node (log 32). -/
def countNode (c : Chip) (k i : Nat) : Chip :=
  (List.range 2).foldl (fun c h => if (c.ch k h).st = .active || (c.ch k h).st = .admitting then countCh c k h i else c) c

/-- A block has been sent and not acknowledged within 2 cycles (04 R127). -/
def AcycBlk.overdue (cyc : Nat) (b : AcycBlk) : Bool := 0 < b.tries && !b.due && decide (b.at' + 2 ≤ cyc)

/-- Blocks not acknowledged within 2 cycles (04 R127): sent again at the next downlink, each at most three times; then the transfer is
abandoned. -/
def retryOp (k : Nat) (c : Chip) : Chip :=
  match (c.node k).transfer with
  | none => c
  | some t =>
    if t.blocks.any (fun b => b.overdue c.cyc && 4 ≤ b.tries) then endTransfer (countNode c k 7) k 7 []
    else onNode c k (fun n => { n with
      transfer := some { t with blocks := t.blocks.map (fun b => if b.overdue c.cyc then { b with due := true } else b) } })

def execAcyclicRetry (node : Fin 24) : State → Host.Outcome State Fault Refusal := run (retryOp node)

/-- The response has not begun within 100 ms (04 R128, R131). -/
def execNodeResponseTimeout (node : Fin 24) : State → Host.Outcome State Fault Refusal :=
  run fun c => match (c.node node).transfer with
    | some t => if t.begun then c else endTransfer (c.atTime t.deadline) node 7 []
    | none => c

/-! ### Commands -/

/-- CELL_GET_STATUS (04 R130). -/
def bodyCellStatus (_ : Req) (c : Chip) : Reply :=
  answer c .ok (le 1 (b2n c.star.coldEnd.isNone) ++ le 1 c.cfg.slot.slots.length ++ zeros 2 ++ le 4 c.cfg.slot.tableId
    ++ ((List.range 24).map (fun k => byte ((c.ch k 0).st.code + 16 * (c.ch k 1).st.code))))

def execCellGetStatus (q : Req) : State → Host.Outcome State Fault Refusal := host 0x0401 36 layNone bodyCellStatus q

/-- CELL_GET_PORT (04 R130, R131). -/
def bodyCellPort (q : Req) (c : Chip) : Reply :=
  let k := byteN q.payload 0 - 1
  let h := byteN q.payload 1
  let x := c.ch k h
  if !chUsed c k h then refuse c .badParam else
  answer c .ok (le 1 x.st.code ++ le 1 ((c.node k).slot.getD 0xFF) ++ le 2 x.delay
    ++ ((List.range 9).map (fun i => le 4 (vget x.cnt i))).flatten
    ++ leI 2 (satI 16 x.offLast) ++ leI 2 (satI 16 x.offMin) ++ leI 2 (satI 16 x.offMax) ++ le 2 (min x.blocked.length 65535))

def execCellGetPort (q : Req) : State → Host.Outcome State Fault Refusal :=
  host 0x0402 52 (lay 2 fun b => [isNode (byteN b 0), bLe b 1 1]) bodyCellPort q

/-- A channel mask names only channels in use of a node (04 R131). -/
def maskUsed (c : Chip) (k m : Nat) : Bool := (List.range 2).all (fun h => !mbit m h || chUsed c k h)

/-- CELL_CLEAR_COUNTERS (04 R130). -/
def bodyCellClear (q : Req) (c : Chip) : Reply :=
  let nn := byteN q.payload 0
  let m := byteN q.payload 1
  if nn ≠ 0 && (!maskUsed c (nn - 1) m || !(chUsed c (nn - 1) 0 || chUsed c (nn - 1) 1)) then refuse c .badParam else
  answer (c.onStar (fun s => { s with
    node := vmapIdx s.node (fun k n => if nn = 0 || nn = k + 1 then
      { n with ch := vmapIdx n.ch (fun h x => if mbit m h then
          { x with cnt := Vector.replicate 9 0, offSeen := false, offLast := 0, offMin := 0, offMax := 0 } else x) } else n) })) .ok

def execCellClearCounters (q : Req) : State → Host.Outcome State Fault Refusal :=
  host 0x0403 4 (lay 2 fun b => [bLe b 0 24, bLe b 1 3]) bodyCellClear q

/-- An arm or auxiliary axis with an axis on the node is not DISABLED (04 R131). -/
def nodeInUse (c : Chip) (k : Nat) : Bool :=
  let on := fun (o : Option OwnerCfg) => match o with
    | some g => g.axes.any (fun a => match vget c.cfg.axis a with | some x => x.node = k + 1 | none => false)
    | none => false
  (List.range 12).any (fun a => on (vget c.cfg.arm a) && (vget c.joints.arm a).st ≠ .disabled)
    || (List.range 32).any (fun a => on (vget c.cfg.aux a) && (vget c.joints.aux a).st ≠ .disabled)

/-- CELL_RESYNC (04 R131): its channels enter LOCK at the boundary. -/
def bodyResync (q : Req) (c : Chip) : Reply :=
  let k := byteN q.payload 0 - 1
  let m := byteN q.payload 1
  let left := (List.range 2).any (fun h => (c.ch k h).st = .active && !mbit m h)

  let bars := firstFail [
    (!maskUsed c k m || !(chUsed c k 0 || chUsed c k 1), Status.badParam),
    (configured c k && !left && nodeInUse c k, .refusedState)]
  match bars with
  | some st => refuse c st
  | none => answer (deferB c 0x0404 q) .ok

def execCellResync (q : Req) : State → Host.Outcome State Fault Refusal :=
  host 0x0404 4 (lay 2 fun b => [isNode (byteN b 0), bLe b 1 3]) bodyResync q

def applyResync (p : Bytes) (c : Chip) : Chip :=
  let k := byteN p 0 - 1
  (List.range 2).foldl (fun c h =>
    let st := (c.ch k h).st
    if mbit (byteN p 1) h && st ≠ .unused && st ≠ .down then onCh c k h toLock else c) c

/-- A request to a node (04 R128, R131): refused without an ACTIVE channel or beside another request; answered when it ends. -/
def startTransfer (op service : Nat) (q : Req) (data : Bytes) (c : Chip) : Reply :=
  let k := byteN q.payload 0 - 1
  let n := c.node k
  let bars := firstFail [
    (!(chUsed c k 0 || chUsed c k 1), Status.badParam),
    (chCount c k .active = 0, .refusedState),
    (n.transfer.isSome, .busy)]
  match bars with
  | some st => refuse c st
  | none =>
    let m := le 2 service ++ zeros 2 ++ slice q.payload 4 8 ++ data
    let bl := acycBlocks n.txSeq n.nextId m
    let t : Transfer := {
      opcode := op, ring := q.ring, seq := q.seq, id := n.nextId, blocks := bl.map (fun b => { seq := b.1, data := b.2 }),
      deadline := c.now + 100000000 }
    { st := .ok, later := true,
      chip := onNode c k (fun n => { n with
        transfer := some t, txSeq := (n.txSeq + bl.length) % 65536, nextId := (n.nextId + 1) % 65536 }) }

def execCellNodeRead (q : Req) : State → Host.Outcome State Fault Refusal :=
  host 0x0410 (8 + ru q.payload 10 2)
    (lay 12 fun b => [isNode (byteN b 0), rsv b 1 3, 1 ≤ ru b 10 2 && ru b 10 2 ≤ 4084])
    (fun q c => startTransfer 0x0410 1 q [] c) q

/-- The layout of CELL_NODE_WRITE. -/
def layNodeWrite (b : Bytes) : Bool :=
  12 ≤ b.length && b.length = 12 + ru b 10 2 && isNode (byteN b 0) && rsv b 1 3 && ru b 10 2 ≤ 4084

def execCellNodeWrite (q : Req) : State → Host.Outcome State Fault Refusal :=
  host 0x0411 4 layNodeWrite (fun q c => startTransfer 0x0411 2 q (q.payload.drop 12) c) q

/-- CELL_RELEASE_CLAIM (04 R125, R131). -/
def bodyReleaseClaim (q : Req) (c : Chip) : Reply :=
  let k := byteN q.payload 0 - 1
  let bars := firstFail [
    (!(c.node k).claimed, Status.badParam),
    (0 < chCount c k .active, .refusedState)]
  match bars with
  | some st => refuse c st
  | none => answer (releaseClaim c k) .ok (le 1 ((c.node k).slot.getD 0xFF))

def execCellReleaseClaim (q : Req) : State → Host.Outcome State Fault Refusal :=
  host 0x0420 5 (lay 1 fun b => [isNode (byteN b 0)]) bodyReleaseClaim q

/-! ### The step of plant time (03 R86) -/

/-- Every stored instant of a line clock shifts (03 R86). -/
def shiftLine (d : Int) (n : Line) : Line :=
  let sh := fun (e : Est) => { e with t := e.t + d }
  { n with
    est := sh n.est, hist := n.hist.map sh, holdEst := n.holdEst.map sh, zAt := n.zAt + d,
    switching := n.switching.map (fun w => { w with
      t0 := w.t0 + d, base := w.base.map (fun x => (x.1, x.2 + d)), remote := w.remote.map (fun x => (x.1 + d, x.2)) }) }

/-- Lines, encoders, snapshots, loaded events and node samples on the new timescale. -/
def shiftInstants (d : Int) (c : Chip) : Chip :=
  let c := c.onLt (fun t => { t with
    line := vmapIdx t.line (fun _ n => shiftLine d n),
    stepped := true,
    enc := vmapIdx t.enc (fun _ e => { e with
      lastEdge := e.lastEdge.map (· + d), seenEdge := e.seenEdge.map (· + d), ssi := e.ssi.map (fun x => (x.1, x.2 + d)),
      atTin := e.atTin.map (fun k => (k.1, k.2.1, k.2.2.map (· + d))) }),
    snaps := t.snaps.map (fun s => vmapIdx s (fun _ e => { e with t := e.t + d })),
    events := t.events.map (fun s => { s with due := s.due.map (· + d) }) })
  c.onStar (fun s => { s with
    node := vmapIdx s.node (fun _ n => { n with
      tin := n.tin + d, tinPrev := n.tinPrev + d,
      trigs := n.trigs.map (fun g => if g.src < 1024 then { g with when := g.when + d } else g) }) })

/-- Cycle numbers kept for later move with the cycle count. -/
def shiftCycles (d : Int) (c : Chip) : Chip :=
  let mv := fun (n : Nat) => ((n : Int) + d).toNat
  let c := { c with
    deferB := c.deferB.map (fun (x : Deferred) => { x with due := mv x.due }), deferP := c.deferP.map (fun (x : Deferred) => { x with due := mv x.due }) }
  let c := c.onPt (fun p => { p with trigs := p.trigs.map (fun (t : Trig) => { t with since := mv t.since }) })
  let c := c.onLt (fun t => { t with
    events := t.events.map (fun s => { s with since := mv s.since }),
    enc := vmapIdx t.enc (fun _ e => { e with atTin := e.atTin.map (fun k => (mv k.1, k.2)) }) })
  let c := c.onPair (fun p => { p with
    items := p.items.map (fun (m : Nat × Nat × Nat × Bytes) => (mv m.1, m.2)),
    tx := { p.tx with blocks := p.tx.blocks.map (fun b => (b.1, { b.2 with at' := mv b.2.at' })) },
    swap := p.swap.map (fun (w : Swap) => { w with cyc := mv w.cyc }) })
  let c := c.onPlanner (fun p => { p with entering := p.entering.map (fun (e : Nat × Nat) => (e.1, mv e.2)) })
  c.onStar (fun s => { s with
    node := vmapIdx s.node (fun _ n => { n with
      ch := vmapIdx n.ch (fun _ x => { x with blocked := x.blocked.map mv }),
      claimSeq := n.claimSeq.map (fun x => (mv x.1, x.2)),
      transfer := n.transfer.map (fun (t : Transfer) => { t with blocks := t.blocks.map (fun b => { b with at' := mv b.at' }) }) }) })

/-- The step instant (03 R86): it ends the cycle in progress on the old timescale; plant time jumps; the cycle that follows starts on
the first multiple of T on the new one; the star cold-starts with STEPPED; TIME_STEPPED carries the new cycle count. -/
def stepOp (c : Chip) : Chip :=
  match c.pt.step with
  | none => c
  | some (d, _) =>
    let T := c.period
    let t' : Int := (c.cyc + 1) * T + d
    let c := c.atTime (c.localAt ((c.cyc + 1) * T : Nat))
    let n := ((t' + T - 1) / T).toNat
    let moved : Int := (n : Int) - 1 - c.cyc
    let c := shiftCycles moved (shiftInstants d { c with ptOff := c.ptOff + d, cyc := n - 1 })
    let c := c.onPt (fun p => { p with step := none, stepPending := false, goodRun := 0, badRun := 0 })
    let c := if c.star.run then (coldStart c).onStar (fun s => { s with stepped := true }) else c
    enqueue c {
      ring := vget c.cfg.sys.evRing 0, opcode := 0x0102, cls := 3, len := 16,
      payload := le 2 0x0102 ++ le 1 0xFF ++ le 1 0xFF ++ le 4 (n % 4294967296) ++ leI 8 d }

def execTimeStep : State → Host.Outcome State Fault Refusal := run stepOp

end Sys2Proof.Machine
end

