-- ==== Sys2Proof/Machine/Loops.lean ====
section
/-!
DEFINITION. The loop engines (chapter 05) and the law library (06 R166-R173): dispatch, the joint law, commit, misses, the loop
commands. The deadline itself is in Deadline.lean.
-/

namespace Sys2Proof.Machine

open Sys2Proof

/-! ### Axes and engines -/

def Chip.axis (c : Chip) (a : Nat) : LoopAxis := vget c.loops.ax a
def Chip.acfg (c : Chip) (a : Nat) : Option AxisCfg := if c.active then vget c.cfg.axis a else none
def onAxis (c : Chip) (a : Nat) (f : LoopAxis → LoopAxis) : Chip := c.onLoops (fun l => { l with ax := vmod l.ax a f })
def onEng (c : Chip) (e : Nat) (f : Engine → Engine) : Chip := c.onLoops (fun l => { l with eng := vmod l.eng e f })

/-- The engine that runs an axis (05 R133). -/
def engineOf (c : Chip) (a : Nat) : Option Nat := (List.range 18).find? (fun e => (vget c.loops.eng e).axes.contains a)

/-- The built-in programs (06 R166): identity, Q15, WCET, bytes of a state half, biquad stages, observer. -/
def builtins : List (Nat × Bool × Nat × Nat × Nat × Bool) :=
  [(0x00010010, false, 1380, 256, 2, true), (0x00010011, false, 1660, 320, 4, true), (0x00010012, false, 1080, 192, 2, false),
   (0x00010020, true, 620, 128, 1, false), (0x00010030, false, 760, 128, 1, false), (0x00010031, true, 540, 128, 1, false),
   (0x00010032, true, 180, 64, 0, false)]

/-- A loop program by its identity: of the image, or built in. -/
def findProgram (c : Chip) (id : Nat) : Option Program :=
  match c.cfg.programs.find? (fun p => p.identity = id) with
  | some p => some p
  | none => (builtins.find? (fun b => b.1 = id)).map (fun b =>
      let x := Config.builtinFacts id
      { identity := id, version := x.2.2.2, q15 := b.2.1, stateBytes := b.2.2.2.1, coefBytes := x.2.1, scratch := x.2.2.1,
        wcet := b.2.2.1, digest := Config.builtinDigest id, stages := b.2.2.2.2.1, observer := b.2.2.2.2.2 })

/-- The identity of the program an axis runs (06 R177). -/
def programId (g : AxisCfg) (x : LoopAxis) : Nat := if x.q15 then g.q15 else g.normal

/-- The active coefficient block (06, Coefficients and banks). -/
def LoopAxis.coef (x : LoopAxis) : Bytes := if x.bank = 0 then x.bankA else x.bankB

/-- The 64 bytes of a set-point and feed-forward block (06 R170). -/
def spBytes (s : SpBlock) : Bytes :=
  fit 64 (leI 8 s.pSp ++ leI 4 s.vSp ++ leI 4 s.aSp ++ leI 4 s.tau ++ le 2 s.inertia ++ le 1 s.ffFlags ++ le 1 s.spFlags
    ++ leI 2 s.phA ++ leI 2 s.phB ++ le 2 s.control ++ le 2 s.ramp)

/-- The 64 bytes of an input block (05 R138). -/
def inputBytes (x : LoopAxis) : Bytes := fit 64 (patch (fit 24 x.inp) 18 (le 1 x.inFlags))

/-! ### The law of the library programs (06 R168), on exact rationals; a result is narrowed once, when it is stored (log 33) -/

/-- `m` × 2^`e`. -/
def dyadic (m e : Int) : Rat := if 0 ≤ e then (m * 2 ^ e.toNat : Int) else mkRat m (2 ^ (-e).toNat)

/-- A value in units of 2^-`k`, as an inexact quotient is kept. -/
def fixed (k : Nat) (v : Rat) : Int := let x := v * (2 ^ k : Nat); quot 5 x.num x.den

/-- The coefficients of a section (06 R172, R173). -/
structure Coefs where
  flags : Nat
  kp : Rat
  kvff : Rat
  kv : Rat
  ki : Rat
  ktff : Rat
  kaff : Rat
  gobs : Rat
  jobs : Rat
  iLim : Rat
  iInt : Rat
  stages : List (Rat × Rat × Rat × Rat × Rat)

/-- Of a block-floating program: mantissa × 2^(e - 23) (06 R172). -/
def coefsBf (p : Program) (b : Bytes) : Coefs :=
  let m := fun (off e : Nat) => dyadic (sbits 24 (ru b off 3)) (ri b e 1 - 23)
  { flags := byteN b 12, kp := m 24 16, kvff := m 28 16, kv := m 32 17, ki := m 36 17, ktff := m 40 18, kaff := m 44 18,
    gobs := if p.observer then m 48 19 else 0, jobs := if p.observer then m 52 19 else 0,
    iLim := dyadic (ru b 56 2) (-15), iInt := dyadic (ru b 58 2) (-15),
    stages := (List.range p.stages).map (fun s =>
      let k := fun (j : Nat) => m (60 + 20 * s + 4 * j) (20 + s)
      (k 0, k 1, k 2, k 3, k 4)) }

/-- Of a Q15 program: Q15 value × 2^s (06 R173). -/
def coefsQ15 (p : Program) (block : Bytes) : Coefs :=
  let b := block.drop 2048
  let m := fun (off s : Nat) => dyadic (ri b off 2) (byteN b s - 15)
  { flags := byteN b 12, kp := m 24 16, kvff := m 28 16, kv := m 32 17, ki := m 36 17, ktff := m 40 18, kaff := m 44 18,
    gobs := 0, jobs := 0, iLim := dyadic (ru b 48 2) (-15), iInt := dyadic (ru b 52 2) (-15),
    stages := if p.stages = 0 then [] else
      let k := fun (j : Nat) => m (56 + 4 * j) 19
      [(k 0, k 1, k 2, k 3, k 4)] }

/-- A value held within ± a limit. -/
def clipR (v lim : Rat) : Rat := if v < -lim then -lim else if lim < v then lim else v

/-- One biquad stage on its history x1, x2, y1, y2: the output and the new history. -/
def biquad (k : Rat × Rat × Rat × Rat × Rat) (h : List Rat) (x : Rat) : Rat × List Rat :=
  let x1 := h.getD 0 0; let x2 := h.getD 1 0; let y1 := h.getD 2 0; let y2 := h.getD 3 0
  let y := k.1 * x + k.2.1 * x1 + k.2.2.1 * x2 - k.2.2.2.1 * y1 - k.2.2.2.2 * y2
  (y, [x, x1, y, y1])

/-- Stages in order; the bytes of their histories follow byte 64 of the state half, 16 per stage, Q15 in 32 bits (log 33). -/
def biquads (ks : List (Rat × Rat × Rat × Rat × Rat)) (st : Bytes) (u : Rat) : Rat × Bytes :=
  let r := (ks.zipIdx).foldl (fun (acc : Rat × Bytes) k =>
    let off := 64 + 16 * k.2
    let h := (List.range 4).map (fun j => dyadic (ri st (off + 4 * j) 4) (-15))
    let y := biquad k.1 h acc.1
    (y.1, acc.2 ++ (y.2.map (fun v => leI 4 (satI 32 (fixed 15 v)))).flatten)) (u, [])
  (r.1, r.2)

/-- A sample is missing (06 R182): INPUT_MISSING, or the sample counter did not move. -/
def sampleMissing (n : Node) (x : LoopAxis) : Bool := mbit x.inFlags 0 || n.sample = n.samplePrev

/-- The feedback of a cycle (06 R168, R182): position and velocity, bridged by extrapolation where the sample is missing. -/
def feedback (st inp : Bytes) (missing : Bool) : Int × Rat :=
  let pLast : Int := ri st 16 8
  let vLast := dyadic (ri st 4 4) (-16)
  if missing then (pLast + fixed 0 vLast, vLast) else (ri inp 0 6, (ri inp 0 6 - pLast : Int))

/-- Bytes 12 and 13 of the state half (06 R171): consecutive missing samples, FB_BRIDGED, I_CLIPPED. -/
def bridgeBytes (st : Bytes) (missing clipped : Bool) : Bytes :=
  le 1 (if missing then min 255 (byteN st 12 + 1) else 0) ++ le 1 (bits [missing, clipped])

/-- The state half that AUX_PHASE writes (06 R166, R171): it has no law, and supervision reads its error, velocity and position. -/
def phaseState (sp : SpBlock) (st inp : Bytes) (missing : Bool) : Bytes :=
  let f := feedback st inp missing
  leI 4 (satI 32 (fixed 0 (dyadic sp.pSp (-16) - f.1))) ++ leI 4 (satI 32 (fixed 16 f.2)) ++ zeros 4 ++ bridgeBytes st missing false
    ++ zeros 2 ++ leI 8 f.1 ++ zeros 40

/-- One run of the law (06 R168, R171): the state half written, i_cmd as Q15, and whether a stored result left its field. -/
def law (k : Coefs) (sp : SpBlock) (st inp : Bytes) (missing observer : Bool) : Bytes × Int × Bool :=
  let vLast := dyadic (ri st 4 4) (-16)
  let p : Int := (feedback st inp missing).1
  let v : Rat := (feedback st inp missing).2
  let iLast := dyadic (ri st 24 4) (-15)
  let clipped := mbit (byteN st 13) 1
  let eP := dyadic sp.pSp (-16) - p
  let vSp := dyadic sp.vSp (-16)
  let eV := k.kvff * vSp + k.kp * eP - v
  let g := if mbit k.flags 3 then dyadic sp.inertia (-14) else 1
  let integ0 := dyadic (ri st 28 4) (-15)
  let integ := if clipped && sgn eV.num = sgn iLast.num then integ0 else clipR (integ0 + k.ki * eV) k.iInt
  let tau := if mbit sp.ffFlags 0 && mbit k.flags 0 then dyadic sp.ramp (-15) * (k.ktff * dyadic sp.tau (-17)) else 0
  let iff := tau + k.kaff * dyadic sp.aSp (-24)
  let filtered := mbit k.flags 1
  let uPre := g * k.kv * (eV + integ) + (if filtered then iff else 0)
  let bq := biquads k.stages st uPre
  let u := bq.1 + (if filtered then 0 else iff)
  let dHat0 := dyadic (ri st 32 4) (-15)
  let res := if observer then iLast - k.jobs * (v - vLast) - dHat0 else 0
  let dHat := if observer then dHat0 + k.gobs * res else 0
  let u := if mbit k.flags 2 && observer then u - dHat else u
  let i := clipR u k.iLim
  let w := [fixed 0 eP, fixed 16 v, fixed 15 res, fixed 15 i, fixed 15 integ, fixed 15 dHat, fixed 15 uPre]
  let s := fun (j : Nat) => satI 32 (w.getD j 0)
  (leI 4 (s 0) ++ leI 4 (s 1) ++ leI 4 (s 2) ++ bridgeBytes st missing (i ≠ u) ++ zeros 2 ++ leI 8 p
      ++ leI 4 (s 3) ++ leI 4 (s 4) ++ leI 4 (s 5) ++ leI 4 (s 6) ++ zeros 24 ++ bq.2,
    satI 16 (w.getD 3 0), w.any (fun v => satI 32 v ≠ v))

/-! ### Dispatch and commit (05 R134, R156) -/

/-- The excitation of a JOINT_TEST on an axis in this cycle, Q15 (06 R193). -/
def excite (c : Chip) (a : Nat) : Int :=
  match (List.range 12).filterMap (fun k => (vget c.joints.arm k).test.filter (fun t => t.axis = a)) with
  | t :: _ => Config.excitation t.shape t.amp t.f0 t.f1 t.n
  | [] => 0

/-- The program of an axis runs: its staged output block, the state half it wrote, SAT, or the cause that abandons it. -/
def runAxis (c : Chip) (e pos a : Nat) (g : AxisCfg) : Chip :=
  let x := c.axis a
  let n := c.node (g.node - 1)
  let serial := c.loops.dispatches
  let c := c.onLoops (fun l => { l with dispatches := l.dispatches + 1 })
  let c := onAxis c a (fun x => { x with missing := mbit x.inFlags 0 })
  match findProgram c (programId g x) with
  | none => onAxis c a (fun x => { x with abandoned := 3 })
  | some p =>
    if p.custom && !p.code.isEmpty then
      let u : Cpu := {
        q15 := p.q15, pos := pos, half := x.half, bank := x.bank, serial := serial, inp := inputBytes x, sp := spBytes x.sp,
        outb := fit 64 x.outb, rd := fit 2048 x.state, wr := fit 2048 x.stateNext, coef := fit 4096 x.coef }
      let u := runProgram p.code (c.period * 12 / 10) { u with r := dispatchRegs u a }
      let spent := if 2 ≤ u.stop then 24 + u.tm.cycle else 0
      let c := onEng (c.onLoops (fun l => { l with regs := vset l.regs e u.r })) e (fun g => { g with
        scratch := u.scratch, busyNow := g.busyNow + spent })
      let exc := excite c a
      let out := if exc = 0 then u.outb else patch u.outb 2 (leI 2 (satI 16 (ri u.outb 2 2 + exc)))
      if u.stop = 1 then onAxis c a (fun x => { x with
        outb := out, state := u.rd, stateNext := u.wr, staged := some (out.take 8), stagedSat := u.r.satw ≠ 0 })
      else if 2 ≤ u.stop then onAxis c a (fun x => { x with outb := u.outb, state := u.rd, stateNext := u.wr, abandoned := u.stop })
      else c
    else if p.identity = 0x00010032 then
      let out := le 2 (x.sp.control % 8 + 8) ++ leI 2 x.sp.phA ++ leI 2 x.sp.phB ++ zeros 2
      onAxis c a (fun x => { x with
        outb := patch (fit 64 x.outb) 0 out, stateNext := phaseState x.sp x.state x.inp (sampleMissing n x), staged := some out,
        stagedSat := false })
    else
      let k := if p.q15 then coefsQ15 p (fit 4096 x.coef) else coefsBf p (fit 4096 x.coef)
      let r := law k x.sp x.state x.inp (sampleMissing n x) p.observer
      let out := le 2 (x.sp.control % 8) ++ leI 2 (satI 16 (r.2.1 + excite c a)) ++ zeros 4
      takeFree (onAxis c a (fun x => { x with
        outb := patch (fit 64 x.outb) 0 out, stateNext := r.1, staged := some out, stagedSat := r.2.2 || Config.lawSat c.free a }))

/-- An axis of the engine is running: dispatched, neither committed nor abandoned. -/
def running (c : Chip) (e : Nat) : Option Nat :=
  (vget c.loops.eng e).axes.find? (fun a => let x := c.axis a; x.dispatched && !x.committed && x.abandoned = 0)

/-- The input blocks of an axis's node are complete: an accepted uplink, or INPUT_MISSING declared (05 R134). -/
def inputsReady (c : Chip) (a : Nat) : Bool :=
  match c.acfg a with
  | some g => (c.node (g.node - 1)).fresh || mbit (c.axis a).inFlags 0
  | none => false

/-- An engine dispatches its next axis, once that axis's inputs are complete and the previous axis has ended (05 R134). -/
def dispatchNext (c : Chip) (e : Nat) : Chip :=
  let g := vget c.loops.eng e
  match g.axes.findIdx? (fun a => !(c.axis a).dispatched) with
  | none => c
  | some i =>
    let a := g.axes.getD i 0
    if c.loops.closed || Config.tDl c.cfg.sys.period ≤ c.now - c.t0 || (running c e).isSome || !inputsReady c a then c else
    match c.acfg a with
    | none => c
    | some k =>
      let c := onAxis c a (fun x => { x with dispatched := true, lastDispatch := c.now - c.t0 })
      runAxis c e i a k

def execAxisDispatch (eng : Fin 18) (off : Nat) : State → Host.Outcome State Fault Refusal :=
  run fun c => if c.active then dispatchNext (c.atOff off) eng else c

/-- The slot whose start governs a node's missing dispatch: its own, or the highest CLAIMABLE one (05 R134). -/
def missSlot (c : Chip) (k : Nat) : Nat :=
  match (c.node k).slot with
  | some s => s
  | none => ((List.range c.cfg.slot.slots.length).filter (fun s => (c.cfg.slot.slots.getD s (0, false)).2)).getLastD 0

/-- A node without an accepted uplink: its axes are dispatched with INPUT_MISSING (05 R134). -/
def missingOp (k : Nat) (c : Chip) : Chip :=
  if !c.active || (c.node k).fresh then c else
  let c := markMissing (c.atOff (Config.slotStart (missSlot c k) + 350)) k
  (List.range 18).foldl (fun c e =>
    if (vget c.loops.eng e).axes.any (fun a => match c.acfg a with | some g => g.node = k + 1 | none => false)
    then dispatchNext c e else c) c

def execInputMissingDispatch (node : Fin 24) : State → Host.Outcome State Fault Refusal := run (missingOp node)

/-- COMMIT of the axis that runs on an engine (05 R156): it counts if it retires before t_dl. -/
def commitOp (e off : Nat) (c : Chip) : Chip :=
  match running c e with
  | none => c
  | some a =>
    let x := c.axis a
    match x.staged with
    | none => c
    | some out =>
      if Config.tDl c.cfg.sys.period ≤ off || c.t0 + off < c.now then c else
      let c := c.atOff off
      let c := onAxis c a (fun x => { x with
        out := some out, staged := none, committed := true, state := x.stateNext, stateNext := x.state, half := 1 - x.half,
        sat := x.stagedSat, satTotal := if x.stagedSat then inc x.satTotal else x.satTotal, lastCommit := off })
      onEng c e (fun g => { g with
        last := off, latest := max g.latest off, busyNow := g.busyNow + (off - x.lastDispatch) * 12 / 10 })

def execAxisCommit (eng : Fin 18) (off : Nat) : State → Host.Outcome State Fault Refusal := run (commitOp eng off)

/-- Engine cycles since the dispatch of an axis (05 R158). -/
def cyclesSince (c : Chip) (a : Nat) : Nat := (c.now - c.t0 - (c.axis a).lastDispatch) * 12 / 10

/-- The axis that runs on an engine is abandoned with a cause; the engine was busy until then (05 R158, R159). -/
def abandonAxis (c : Chip) (e cause : Nat) : Chip :=
  match running c e with
  | none => c
  | some a =>
    let n := cyclesSince c a
    onEng (onAxis c a (fun x => { x with abandoned := cause, staged := none })) e (fun g => { g with busyNow := g.busyNow + n })

/-- A PROT, ILLEGAL or ECC fault abandons the axis that runs (05 R159); an ILLEGAL or ECC one shows an engine fault (R161). -/
def execAxisProtectionFault (eng : Fin 18) (cause : Nat) : State → Host.Outcome State Fault Refusal :=
  run fun c => abandonAxis c eng cause

/-! ### Misses (05 R159-R161) -/

/-- At t_dl: what the cycle gave an axis. INPUT_MISSING of the cycle is shown for every axis, dispatched or not (05 R164). -/
def closeAxis (c : Chip) (a : Nat) : Chip :=
  match c.acfg a with
  | none => c
  | some g =>
    let missing := mbit (c.axis a).inFlags 0 || !(c.node (g.node - 1)).fresh
    onAxis c a (fun x =>
      let x := { x with missing := missing }
      if x.committed then { x with dlmiss := false, misses := 0 }
      else
        { x with
          dlmiss := true, sat := false, misses := x.misses + 1, missTotal := inc x.missTotal, staged := none,
          abandoned := if x.abandoned = 0 then 1 else x.abandoned,
          cause := if x.abandoned = 0 then 1 else x.abandoned, faultedDl := x.faultedDl || g.missLimit < x.misses + 1 })

/-- The misses of one engine: counted, posted at most once, and the engine marked for migration on its causes (05 R159, R161). -/
def closeEngine (c : Chip) (e : Nat) : Chip :=
  let l := (vget c.loops.eng e).axes
  let c := l.foldl closeAxis (abandonAxis c e 1)
  let missed := l.filter (fun a => (c.axis a).dlmiss)
  match missed with
  | [] => c
  | a :: _ =>
    let c := post c 3 0x0501 e a (le 1 missed.length ++ le 1 (c.axis a).cause ++ le 4 (vget c.loops.eng e).last)
    if missed.any (fun a => (c.axis a).cause ≠ 2) then onEng c e (fun g => { g with migrate := true }) else c

/-- An engine of the pool, lowest first. -/
def spareEngine (c : Chip) : Option Nat := (List.range 18).find? (fun e => (vget c.loops.eng e).st = .pool)

/-- The work of an engine moves to another, with its order, its programs and so its worst case (05 R132, R157, R161). An axis of which
a copied word has an uncorrectable error is FAULTED_DL (14 R417). -/
def moveEngine (c : Chip) (from' dest : Nat) (left : EngSt) : Chip :=
  let g := vget c.loops.eng from'
  let serial := c.free
  let c := (takeFree c).onLoops (fun l => { l with
    ax := vmapIdx l.ax (fun a x => if g.axes.contains a && Config.copyError serial a then { x with faultedDl := true } else x) })
  let c := onEng c dest (fun t => { t with
    st := .inService, axes := g.axes, scratch := g.scratch, worst := g.worst, home := g.home.orElse (fun _ => some from') })
  onEng c from' (fun t => { t with st := left, axes := [], migrate := false, worst := 0 })

/-- The engine block at 0xC00 of every DMEM (05 R135): cycle count, period code, the rest reserved. No program may read it (R136). -/
def engineBlock (c : Chip) : Bytes := fit 1024 (le 4 c.count ++ le 1 c.cfg.sys.period)

/-- The engines at a boundary: the set-point halves swap (05 R137), the figures of the past cycle stand (R158). No rule says when a
memory error is corrected: the counts of R164 grow by free values (log 70). -/
def loopBoundary (c : Chip) : Chip :=
  let serial := c.free
  (takeFree c).onLoops (fun l => { l with
    closed := false,
    eng := vmapIdx l.eng (fun e g => { g with
      busy := g.busyNow, busyNow := 0, ecc := incBy g.ecc (Config.eccCorrected serial e) }),
    ax := vmapIdx l.ax (fun _ x => { x with
      sp := x.spNext, spNext := x.sp, dispatched := false, committed := false, abandoned := 0, staged := none }) })

/-! ### Commands (05 R164, R165) -/

/-- LOOP_GET_ENGINE. -/
def bodyGetEngine (q : Req) (c : Chip) : Reply :=
  let g := vget c.loops.eng (byteN q.payload 0)
  let total := g.axes.foldl (fun n a => incBy n (c.axis a).missTotal) 0
  answer c .ok (le 1 g.st.code ++ le 1 g.axes.length ++ zeros 2 ++ le 4 g.busy ++ le 4 g.last ++ le 4 g.latest ++ le 4 g.worst
    ++ le 4 total ++ le 4 g.ecc ++ (List.range 16).map (fun i => byte (g.axes.getD i 0xFF)))

def execLoopGetEngine (q : Req) : State → Host.Outcome State Fault Refusal :=
  host 0x0501 48 (lay 1 fun b => [bLe b 0 17]) bodyGetEngine q

/-- LOOP_GET_AXIS. -/
def bodyGetAxis (q : Req) (c : Chip) : Reply :=
  let a := byteN q.payload 0
  let x := c.axis a
  match c.acfg a with
  | none => answer c .ok (le 1 0xFF ++ zeros 31)
  | some g =>
    let id := programId g x
    let p := (findProgram c id).getD { identity := id }
    answer c .ok (le 1 ((engineOf c a).getD 0xFF) ++ le 1 (bits [x.dlmiss, x.sat, x.missing, x.faultedDl]) ++ le 1 x.misses
      ++ le 1 x.cause ++ le 4 id ++ le 4 p.version ++ le 4 p.wcet ++ le 4 x.missTotal ++ le 4 x.satTotal
      ++ le 4 x.lastDispatch ++ le 4 x.lastCommit)

def execLoopGetAxis (q : Req) : State → Host.Outcome State Fault Refusal :=
  host 0x0502 36 (lay 1 fun b => [bLe b 0 127]) bodyGetAxis q

/-- LOOP_CLEAR_COUNTERS: FAULTED_DL and the consecutive counts stay; the joints' "since cleared" figures go with it (log 34). -/
def bodyLoopClear (q : Req) (c : Chip) : Reply :=
  let e := byteN q.payload 0
  let hit := (List.range 18).filter (fun k => e = 0xFF || k = e)
  answer (hit.foldl (fun c k =>
    let c := (vget c.loops.eng k).axes.foldl (fun c a =>
      (onAxis c a (fun x => { x with missTotal := 0, satTotal := 0 })).onJoints (fun j => { j with
        sup := vmod j.sup a (fun s => { s with peak := 0, bridged := 0, faults := 0 }) })) c
    onEng c k (fun g => { g with latest := 0, ecc := 0 })) c) .ok

def execLoopClearCounters (q : Req) : State → Host.Outcome State Fault Refusal :=
  host 0x0503 4 (lay 1 fun b => [byteN b 0 < 18 || byteN b 0 = 0xFF]) bodyLoopClear q

/-- The header of a program (05 R162). -/
def programHeader (p : Program) : Bytes :=
  let len := if p.custom then p.code.length else (Config.builtinFacts p.identity).1
  le 2 1 ++ le 1 (b2n p.q15) ++ le 1 (b2n p.kx24) ++ le 2 len ++ le 2 p.stateBytes ++ le 2 p.coefBytes ++ le 2 p.scratch
    ++ le 4 p.wcet ++ le 4 p.identity ++ le 4 p.version ++ le 1 (b2n p.custom) ++ zeros 7 ++ fit 32 p.digest

/-- LOOP_GET_PROGRAM. -/
def bodyGetProgram (q : Req) (c : Chip) : Reply :=
  match findProgram c (ru q.payload 0 4) with
  | some p => answer c .ok (programHeader p)
  | none => refuse c .badParam

def execLoopGetProgram (q : Req) : State → Host.Outcome State Fault Refusal :=
  host 0x0504 68 (lay 4 fun _ => []) bodyGetProgram q

end Sys2Proof.Machine
end

