-- ==== Sys2Proof/Machine/Owners.lean ====
section
/-!
DEFINITION. Arms and auxiliary axes as owners of axes (06 R189, 09 R290): owner 0-11 is an arm, owner 12 + n is AUXn.
-/

namespace Sys2Proof.Machine

open Sys2Proof

/-- The sequence of an owner. -/
def Chip.seq (c : Chip) (o : Nat) : ArmSeq := if o < 12 then vget c.joints.arm o else vget c.joints.aux (o - 12)

def onSeq (c : Chip) (o : Nat) (f : ArmSeq → ArmSeq) : Chip :=
  if o < 12 then c.onJoints (fun j => { j with arm := vmod j.arm o f })
  else c.onJoints (fun j => { j with aux := vmod j.aux (o - 12) f })

/-- The image's figures of a configured owner. -/
def Chip.ocfg (c : Chip) (o : Nat) : Option OwnerCfg :=
  if !c.active then none else if o < 12 then vget c.cfg.arm o else vget c.cfg.aux (o - 12)

/-- Configured owners. -/
def owners (c : Chip) : List Nat := (List.range 44).filter (fun o => (c.ocfg o).isSome)

/-- Axes of an owner that the image configures. -/
def ownerAxes (c : Chip) (o : Nat) : List Nat :=
  match c.ocfg o with
  | some g => g.axes.filter (fun a => (c.acfg a).isSome)
  | none => []

/-- The owner of an axis. -/
def axisOwner (c : Chip) (a : Nat) : Option Nat := (owners c).find? (fun o => (ownerAxes c o).contains a)

/-- The node index of an axis. -/
def axisNode (c : Chip) (a : Nat) : Nat := match c.acfg a with | some g => g.node - 1 | none => 24

/-- A tool axis: on a node of a CLAIM_PORT port (06 R191). -/
def isTool (c : Chip) (a : Nat) : Bool := (c.port (axisNode c a)).claim

/-- A tool axis whose node is present (06 R191): it has an ACTIVE channel. -/
def toolPresent (c : Chip) (a : Nat) : Bool := 0 < chCount c (axisNode c a) .active

/-- The latest axis block the node sent for an axis (04 R104). -/
def axisStatus (c : Chip) (a : Nat) : AxisIn :=
  match c.acfg a with
  | some g => (c.node (g.node - 1)).axes.getD g.pos {}
  | none => {}

def powerOn (c : Chip) (a : Nat) : Bool := mbit (axisStatus c a).status 0
def brakeOpen (c : Chip) (a : Nat) : Bool := mbit (axisStatus c a).status 1
def fbFault (c : Chip) (a : Nat) : Bool := mbit (axisStatus c a).status 2
def stoSet (c : Chip) (a : Nat) : Bool := mbit (axisStatus c a).status 3
def noBrake (c : Chip) (a : Nat) : Bool := match c.acfg a with | some g => g.noBrake | none => true

/-- The nodes that carry axes of an owner. -/
def ownerNodes (c : Chip) (o : Nat) : List Nat := ((ownerAxes c o).map (axisNode c)).dedup

/-- The stop group of an owner (06 R179): an arm with every auxiliary axis on its nodes; else the auxiliary axes of the node. -/
def stopGroup (c : Chip) (o : Nat) : List Nat :=
  let meets := fun (x y : Nat) => (ownerNodes c x).any (fun k => (ownerNodes c y).contains k)
  let arm := if o < 12 then some o else (List.range 12).find? (fun a => meets a o)
  match arm with
  | some a => a :: ((owners c).filter (fun x => 12 ≤ x && meets a x))
  | none => (owners c).filter (fun x => 12 ≤ x && meets o x)

/-- The arm of an owner's stop group. -/
def groupArm (c : Chip) (o : Nat) : Option Nat := (stopGroup c o).find? (· < 12)

/-- Nodes of a stop group. -/
def groupNodes (c : Chip) (o : Nat) : List Nat := ((stopGroup c o).flatMap (ownerNodes c)).dedup

/-- ARM_STATE or AUX_STATE (06 R192, 09 R292). -/
def postSeq (c : Chip) (o : Nat) (new old : ArmSt) : Chip :=
  if o < 12 then post c 3 0x0510 o 0xFF (le 1 new.code ++ le 1 old.code)
  else post c 3 0x0809 0xFF (96 + (o - 12)) (le 1 new.code ++ le 1 old.code)

/-- The state of an owner changes, with its event. -/
def toSt (c : Chip) (o : Nat) (st : ArmSt) : Chip :=
  let old := (c.seq o).st
  if old = st then c else postSeq (onSeq c o (fun s => { s with st := st })) o st old

/-- Enabled: ENABLING, HOLD or RUNNING (06 R189). -/
def enabledSt (s : ArmSt) : Bool := s = .enabling || s = .hold || s = .running

/-- The effective speed class of an owner's arm (06 R186, 10 R324); an axis outside an arm's stop group has none. -/
def ownerClass (c : Chip) (o : Nat) : Option Nat := (groupArm c o).map (fun a => (vget c.sep.arm a).e)

/-- Axes whose loops the owner's sequence commands now: all but absent or disabled tool axes. -/
def liveAxes (c : Chip) (o : Nat) : List Nat :=
  (ownerAxes c o).filter (fun a => !isTool c a || (c.seq o).tools.contains a || (c.seq o).tool.axes.contains a)

/-- The profile position of an axis at its measured feedback: the set-point holds there (06 R184, R187; 09 R266). -/
def holdMeasured (c : Chip) (a : Nat) : Chip :=
  let p : Int := ri (c.axis a).inp 0 6
  c.onProf (fun f => { f with ax := vmod f.ax a (fun x => { x with
    mode := .hold, p := p + dyadic x.o (-16), v := 0, a := 0, lag := 0, stopping := none, move := none, next := none,
    changes := [], home := none, master := none, dem := (0, 0), tracking := true }) })

/-- The feed-forward and control word of an axis (06 R170, R187, R191). -/
def controlOf (c : Chip) (o a : Nat) : Nat × Nat :=
  let s := c.seq o
  let phase := match c.acfg a with | some g => if g.phase then 8 else 0 | none => 0
  let t := s.tool
  if t.axes.contains a then (b2n t.enable + 2 * b2n t.release + phase, t.ramp)
  else if isTool c a && !s.tools.contains a then (phase, 0)
  else (b2n s.enable + 2 * b2n s.release + phase, s.ramp)

end Sys2Proof.Machine
end

