-- ==== Sys2Proof/Machine/Solver.lean ====
section
/-!
DEFINITION. Tungsten (chapter 07): the feed-forward job and its outcomes, class P jobs, warm starts, structures, tiles, its commands.
The arithmetic is Machine/Kinematics.lean; what the extractions inside the microcode leave of a value is free (log 35).
-/

namespace Sys2Proof.Machine

open Sys2Proof

def Chip.sarm (c : Chip) (a : Nat) : SolArm := vget c.solver.arm a
def Chip.tileOf (c : Chip) (t : Nat) : Tile := vget c.solver.tile t
def onSArm (c : Chip) (a : Nat) (f : SolArm → SolArm) : Chip := c.onSolver (fun s => { s with arm := vmod s.arm a f })
def onTile (c : Chip) (t : Nat) (f : Tile → Tile) : Chip := c.onSolver (fun s => { s with tile := vmod s.tile t f })
def onJob (c : Chip) (id : Nat) (f : Job → Job) : Chip :=
  c.onSolver (fun s => { s with jobs := s.jobs.map (fun j => if j.id = id then f j else j) })
def dropJob (c : Chip) (id : Nat) : Chip := c.onSolver (fun s => { s with jobs := s.jobs.filter (fun j => j.id ≠ id) })
def findJob (c : Chip) (id : Nat) : Option Job := c.solver.jobs.find? (fun j => j.id = id)
def Chip.mcfg (c : Chip) (a : Nat) : Option ModelCfg := if c.active then vget c.cfg.model a else none

/-! ### Structure (07 R217, R221) -/

/-- The records of the joints present: tool joints only while their node has an ACTIVE channel (07 R221). -/
def presentMask (c : Chip) (m : ModelCfg) : Nat :=
  maskOf m.joints.length (fun i =>
    let j := m.joints.getD i {}
    !mbit j.flags 1 || 0 < chCount c (axisNode c j.joint) .active)

/-- Indices of the present records, and the records. -/
def presentIdx (m : ModelCfg) (mask : Nat) : List Nat := (List.range m.joints.length).filter (mbit mask)
def presentJoints (m : ModelCfg) (mask : Nat) : List JointRec := (presentIdx m mask).map (fun i => m.joints.getD i {})

/-- The arm as a job that starts now computes with it (07 R206, R222). -/
def rigOf (c : Chip) (a : Nat) (m : ModelCfg) : Rig :=
  let s := c.sarm a
  { arm := a, m := m, idx := presentIdx m s.present, tool := s.tool, pay := s.payload, payPos := s.payPos }

/-- Joints present in an arm. -/
def nPresent (c : Chip) (a : Nat) : Nat :=
  match c.mcfg a with | some m => (presentJoints m (c.sarm a).present).length | none => 0

/-- The structure signature (07 R217); kind and count are one byte each (log 35). -/
def signatureOf (m : ModelCfg) (mask : Nat) : Nat :=
  let idx := presentIdx m mask
  let recs := idx.map (fun i =>
    let j := m.joints.getD i {}
    let par := if j.parent = 255 then 255 else (idx.findIdx? (· = j.parent)).getD 255
    le 1 par ++ le 1 j.type ++ le 1 j.axis ++ le 1 (j.flags &&& 5))
  ofLe (shake256 (le 1 (if m.delta then 2 else 1) ++ le 1 idx.length ++ recs.flatten) 8)

/-- SOLVER_JOB_DONE (07 R224). -/
def postJob (c : Chip) (j : Job) (st flags : Nat) : Chip :=
  post c 4 0x0601 j.arm (j.tile.getD 0xFF) (le 2 j.id ++ le 1 st ++ le 1 flags ++ le 4 j.tag)

/-- A tile's class P work pauses or ends now, and goes on now: its busy time (07 R226). -/
def tileRests (c : Chip) (t : Nat) : Chip :=
  let now := c.now
  onTile c t (fun x => { x with busyNow := x.busyNow + (match x.pSince with | some u => now - u | none => 0), pSince := none })
def tileWorks (c : Chip) (t : Nat) : Chip := let now := c.now; onTile c t (fun x => { x with pSince := some now })

/-- The tile of a job that ends is free. -/
def jobLeaves (c : Chip) (j : Job) : Chip :=
  match j.tile with | some t => onTile (tileRests c t) t (fun x => { x with suspended := false }) | none => c

/-- The result record from byte 4 on (07 R225). -/
def resultBytes (c : Chip) (j : Job) (st flags iters : Nat) (words : Bytes) : Bytes :=
  le 1 j.type ++ le 1 j.arm ++ le 1 st ++ le 1 flags ++ le 1 iters ++ le 1 (j.tile.getD 0xFF) ++ le 2 j.id ++ le 4 j.tag
    ++ fit 16 words ++ le 8 (c.sarm j.arm).signature ++ words.drop 16

/-- A job completes (07 R215, R216, R227): a host job's result is kept to be read; a planner job tells its segment whether it ended
well (08 R240). -/
def finishJob (c : Chip) (j : Job) (st flags iters : Nat) (words : Bytes) (good : Bool) : Chip :=
  let b := resultBytes c j st flags iters words
  let c := postJob (jobLeaves c j) j st flags
  match j.seg with
  | some k => dropJob (c.onPlanner (fun p => { p with segs := p.segs.map (fun s =>
      if s.id = k then { s with solver := some (s.solver.getD true && good), jobsLeft := s.jobsLeft - 1 } else s) })) j.id
  | none => onJob c j.id (fun j => { j with done := some (st, b, c.now) })

/-- A job ends with SQUASHED: stopped at once, its result discarded (07 R216). -/
def squashJob (c : Chip) (j : Job) : Chip := finishJob c j 11 0 0 [] false

/-- At a boundary: a changed set of tool joints changes the signature and squashes the arm's class P jobs (07 R221). -/
def structures (c : Chip) : Chip :=
  (List.range 12).foldl (fun c a =>
    match c.mcfg a with
    | none => c
    | some m =>
      let mask := presentMask c m
      if mask = (c.sarm a).present then c else
      let sg := signatureOf m mask
      let c := onSArm c a (fun s => { s with present := mask, signature := sg })
      let c := post c 4 0x0604 a 0xFF (le 8 sg)
      (c.solver.jobs.filter (fun j => j.arm = a && j.done.isNone)).foldl squashJob c) c

/-! ### The feed-forward job (07 R206-R208) -/

/-- The class C work of a tile is complete in this cycle. -/
def classCDone (c : Chip) (t : Nat) : Bool := (c.tileOf t).arms.all (fun a => (c.sarm a).part = 2)

/-- A tile does class C work: from t_in, with `after` for what t_tpre leaves, until its last class C job is complete (07 R207, R210). -/
def classCNow (c : Chip) (t after : Nat) : Bool := decide (c.t0 + Config.tIn + after ≤ c.now) && !classCDone c t

/-- Class C jobs start on a tile in service: its class P job is suspended (07 R207, R210), and has not been busy since t_in. -/
def classCOp (t : Nat) (c : Chip) : Chip :=
  if !c.active || (c.tileOf t).st ≠ .inService || (c.tileOf t).started then c else
  let held := c.solver.jobs.any (fun j => j.tile = some t && j.done.isNone)
  let c := tileRests (c.atOff Config.tIn) t
  onTile (c.atOff Config.tCs) t (fun x => { x with started := true, suspended := held })

def execClassCStart (tile : Fin 9) : State → Host.Outcome State Fault Refusal := run (classCOp tile)

/-- Joint values q, q̇, q̈ of a set-point (07 R206) as words, ANG32 or LEN32, VEL32, AC32, and whether one saturates. -/
def jointState (T : Nat) (j : JointRec) (s : SpBlock) : (Int × Int × Int) × Bool :=
  let k := dyadic j.scaleM (j.scaleE - 23)
  let q := dyadic (s.pSp - j.offset) (-16) * k
  let per : Rat := mkRat 1000000000 T
  let x := extract (posF j) (if mbit j.flags 0 then reduceAngle q else q)
  let v := extract velF (dyadic s.vSp (-16) * k * per)
  let a := extract accF (dyadic s.aSp (-24) * k * per * per)
  ((x.1, v.1, a.1), x.2 || v.2 || a.2)

/-- The state of every present joint of an arm, from the set-points of the next cycle. -/
def armState (c : Chip) (js : List JointRec) : List ((Int × Int × Int) × Bool) :=
  js.map (fun j => jointState c.period j (c.axis j.joint).spNext)

/-- A joint's state as values. -/
def jointValues (j : JointRec) (x : Int × Int × Int) : Rat × Rat × Rat := (word (posF j) x.1, word velF x.2.1, word accF x.2.2)

/-- Part 1 of FEED_FORWARD (07 R206): the torque words, TRQ32, and OVERFLOW. -/
def ffTorque (g : Rig) (xs : List ((Int × Int × Int) × Bool)) : List Int × Bool :=
  let vs := (g.joints.zip xs).map (fun p => jointValues p.1 p.2.1)
  let key := g.key ++ (xs.map (fun x => [x.1.1, x.1.2.1, x.1.2.2])).flatten
  let tau := ((invDyn g vs).zip (g.joints.zip vs)).map (fun p => (trqF, p.1 + frictionOf p.2.1 p.2.2))
  let w := emit 0x10 key 0 tau
  (w.1, w.2 || xs.any (·.2) || Config.overflowOf 0x10 key)

/-- Part 2 (07 R206): the inertia ratios, unsigned Q2.14, saturating at the format's limits, and OVERFLOW. -/
def ffRatio (g : Rig) (xs : List ((Int × Int × Int) × Bool)) : List Nat × Bool :=
  let vs := (g.joints.zip xs).map (fun p => jointValues p.1 p.2.1)
  let key := g.key ++ xs.map (·.1.1)
  let m := (massMatrix g (vs.map (·.1))).zipIdx.map (fun r => r.1.getD r.2 0)
  (((m.zip g.joints).zipIdx).map (fun p =>
    let j := p.1.2
    satU 16 (halfEven (Config.tileValue 0x11 key p.2 ((p.1.1 + word (jinF j) j.jRot) / word (jinF j) j.mNom) * (2 ^ 14 : Nat)))),
    xs.any (·.2) || Config.overflowOf 0x11 key)

/-- The tile whose class C list holds an arm. -/
def tileFor (c : Chip) (a : Nat) : Option Nat := (List.range 9).find? (fun t => (c.tileOf t).arms.contains a)

/-- The class C jobs before an arm's on its tile are complete: the tile runs them in image order (07 R207). -/
def jobsBefore (c : Chip) (t a : Nat) : Bool := ((c.tileOf t).arms.takeWhile (· ≠ a)).all (fun b => (c.sarm b).part = 2)

/-- Cost in tile cycles of PATH_CHECK over sample points and zone tests, and of FEED_FORWARD (07 R197). -/
def pathCost (delta : Bool) (n points tests : Nat) : Nat := (if delta then 260 else 40 + 60 * n) * points + 30 * tests
def ffCost (delta : Bool) (n : Nat) : Nat := if delta then 1200 else 420 + 210 * n

/-- Earliest end of an arm's class C job, ns after t0: t_cs and the costs of the tile's jobs up to it at 1.2 GHz (07 R197, R207). -/
def classCEnd (c : Chip) (t a : Nat) : Nat :=
  let l := (c.tileOf t).arms.takeWhile (· ≠ a) ++ [a]
  let cost := fun (b : Nat) => match c.mcfg b with | some m => ffCost m.delta (nPresent c b) | none => 0
  Config.tCs + (5 * (l.map cost).sum + 5) / 6

/-- Fields of the next set-point blocks of an arm's present joints. -/
def onNext {α : Type} (c : Chip) (l : List (JointRec × α)) (f : SpBlock → α → SpBlock) : Chip :=
  l.foldl (fun c p => onAxis c p.1.joint (fun x => { x with spNext := f x.spNext p.2 })) c

/-- A part of a FEED_FORWARD job completes and writes its fields of the inactive halves (07 R206): false part 1, true part 2. A part
that is not complete at t_dl writes nothing of this cycle (01 R17). A failed model gives 0, 0x4000 and FF_VALID 0 (07 R205). -/
def ffDoneOp (a : Nat) (second : Bool) (off : Nat) (c : Chip) : Chip :=
  match c.mcfg a, tileFor c a with
  | some m, some t =>
    if !(c.tileOf t).started || (c.sarm a).part ≠ b2n second || c.loops.closed || Config.tDl c.cfg.sys.period ≤ off
      || !jobsBefore c t a || (second && off < classCEnd c t a) then c else
    let c := c.atOff off
    let g := rigOf c a m
    let xs := armState c g.joints
    let blank := g.joints.map (fun j => (j, ()))
    let c :=
      if !second then
        let r := if m.valid then ffTorque g xs else (g.joints.map (fun _ => 0), false)
        onSArm (onNext c (g.joints.zip r.1) (fun x v => { x with tau := v, ffFlags := b2n m.valid })) a (fun s => { s with part := 1, overflow := r.2 })
      else
        let r := if m.valid then ffRatio g xs else (blank.map (fun _ => 0x4000), false)
        onSArm (onNext c (g.joints.zip r.1) (fun x v => { x with inertia := v })) a (fun s => { s with part := 2, overflow := s.overflow || r.2 })
    let held := c.solver.jobs.any (fun j => j.tile = some t && j.done.isNone)
    if !classCDone c t then c
    else
      let c := onTile c t (fun x => { x with cNow := off, latest := max x.latest off, suspended := false })
      if held then tileWorks c t else c
  | _, _ => c

def execFeedForwardDone (arm : Fin 12) (part : Bool) (off : Nat) : State → Host.Outcome State Fault Refusal :=
  run (ffDoneOp arm part off)

/-- Bytes 16-21 kept from the current half, with FF_STALE (06 R169, 07 R208). -/
def staleBlock (x : LoopAxis) : LoopAxis :=
  { x with spNext := { x.spNext with tau := x.sp.tau, inertia := x.sp.inertia, ffFlags := x.sp.ffFlags % 2 + 2 } }

/-- The outcome of an arm's class C job at t_dl (07 R208). -/
def ffOutcome (c : Chip) (a : Nat) : Chip :=
  match c.mcfg a with
  | none => c
  | some m =>
    let s := c.sarm a
    let js := presentJoints m s.present
    let tile := tileFor c a
    let fault := fun (c : Chip) => match tile with | some t => onTile c t (fun x => { x with fault := true }) | none => c
    let each := fun (c : Chip) (f : LoopAxis → LoopAxis) => js.foldl (fun c j => onAxis c j.joint f) c
    let stale := fun (c : Chip) =>
      let c := onSArm (each c staleBlock) a (fun s => { s with stale := s.stale + 1, staleTotal := inc s.staleTotal })
      if (c.sarm a).stale = c.cfg.sys.staleLimit then post c 4 0x0602 a 0xFF (le 4 (c.sarm a).stale) else c
    let fresh := fun (c : Chip) (f : LoopAxis → LoopAxis) => onSArm (each c f) a (fun s => { s with stale := 0 })
    let v := b2n m.valid
    let c := if s.overflow then
        let c := onSArm c a (fun s => { s with ovf := inc s.ovf })
        let c := match tile with | some t => onTile c t (fun x => { x with ovf := inc x.ovf }) | none => c
        stale (post c 4 0x0603 a (tile.getD 0xFF) (le 1 0x10 ++ zeros 3 ++ le 4 (c.sarm a).ovf))
      else if s.part = 2 then fresh c (fun x => { x with spNext := { x.spNext with ffFlags := v } })
      else if s.part = 1 then fresh c (fun x => { x with spNext := { x.spNext with inertia := x.sp.inertia, ffFlags := v + 4 } })
      else stale c
    if s.part = 2 then c else fault c

/-- The next cycle's class C work: nothing started, nothing done; the tiles' figures are those of the cycle past (07 R226). -/
def solverBoundary (c : Chip) : Chip :=
  let now := c.now
  c.onSolver (fun s => { s with
    arm := vmapIdx s.arm (fun _ x => { x with part := 0, overflow := false }),
    tile := vmapIdx s.tile (fun _ x => { x with
      started := false, suspended := false, last := x.cNow, cNow := 0, busyNow := 0,
      busyP := (quot 14 (6 * ((x.busyNow + (match x.pSince with | some u => now - u | none => 0) : Nat) : Int)) 5).toNat,
      pSince := x.pSince.map (fun _ => now) }) })

/-- A tile leaves service: its class P job waits again, from its visible iterate (07 R223). -/
def vacate (c : Chip) (t : Nat) (st : BlockSt) : Chip :=
  let c := c.onSolver (fun s => { s with jobs := s.jobs.map (fun j => if j.tile = some t && j.done.isNone then { j with tile := none } else j) })
  onTile (tileRests c t) t (fun x => { x with st := st, arms := [], fault := false, started := false, suspended := false })

/-! ### Class P jobs -/

/-- Whether job `x` goes before `y` (07 R209). -/
def jobBefore (x y : Job) : Bool :=
  if x.deadline ≠ y.deadline then x.deadline < y.deadline
  else if x.host ≠ y.host then !x.host
  else if x.arm ≠ y.arm then x.arm < y.arm
  else decide (x.submitted < y.submitted)

/-- The next job in queue order. -/
def nextWaiting (c : Chip) : Option Job :=
  (c.solver.jobs.filter (fun j => j.tile.isNone && j.done.isNone && c.now < j.deadline)).foldl
    (fun b j => match b with | some x => if jobBefore j x then some j else some x | none => some j) none

/-- Cell of a target coordinate in the warm-start cache: 25 mm of a LEN32 value, downwards (07 R220, log 35). -/
def cellOf (x : Int) : Int := x * 40 / 67108864

/-- The cache index of a target position (07 R220). -/
def cacheIndex (rec' : Bytes) (off : Nat) : Nat :=
  let m := fun (k : Nat) (f : Int) => ((cellOf (ri rec' (off + 4 * k) 4) * f) % 512).toNat
  (m 0 73856093 ^^^ m 1 19349663) ^^^ m 2 83492791

/-- Two positions lie in one cell. -/
def sameCell (x : Bytes) (ox : Nat) (y : Bytes) (oy : Nat) : Bool :=
  (List.range 3).all (fun k => cellOf (ri x (ox + 4 * k) 4) = cellOf (ri y (oy + 4 * k) 4))

/-- A warm-start record's check holds (07 R218). -/
def warmOk (r : Bytes) : Bool := r.length = 96 && ru r 92 4 = crc32c (r.take 92)

/-- The joint words of a warm-start record, and the default seeds of the joint records (07 R218, R219). -/
def recordSeed (r : Bytes) (n : Nat) : List Int := wordsAt r 16 n
def defaultSeed (g : Rig) : List Int := g.joints.map (·.seed)

/-- How an IK job starts (07 R219): its seed, its flags, the cache after it, and whether it missed. -/
def warmStart (g : Rig) (s : SolArm) (j : Job) : List Int × Nat × SolArm × Bool :=
  let cold := defaultSeed g
  if mbit j.flags 1 then
    let r := slice j.inputs 28 96
    if !warmOk r then (cold, 0, s, true)
    else if ru r 0 8 = s.signature then (recordSeed r g.n, 0, s, false)
    else (cold, 0x10, s, false)
  else if mbit j.flags 2 then (cold, 0, s, false)
  else
    let i := cacheIndex j.inputs 0
    match s.cache.find? (fun e => e.1 = i && sameCell e.2 64 j.inputs 0) with
    | none => (cold, 0, s, true)
    | some e =>
      if !warmOk e.2 then (cold, 0, s, true)
      else if ru e.2 0 8 ≠ s.signature then (cold, 0x10, { s with cache := s.cache.filter (fun x => x.1 ≠ i) }, false)
      else (recordSeed e.2 g.n, 8, s, false)

/-- A free tile in service takes the next job (07 R209), with the tool and payload in force (07 R222). -/
def jobStartOp (t : Nat) (c : Chip) : Chip :=
  let x := c.tileOf t
  let busy := c.solver.jobs.any (fun j => j.tile = some t && j.done.isNone)
  if !c.active || x.st ≠ .inService || busy || classCNow c t 0 then c else
  match nextWaiting c with
  | none => c
  | some j =>
    let s := c.sarm j.arm
    let c := onJob (tileWorks c t) j.id (fun j => { j with
      tile := some t, load := j.load.orElse (fun _ => some (s.tool, s.payload, s.payPos)) })
    match c.mcfg j.arm with
    | none => c
    | some m =>
      if j.type ≠ 3 || j.iterate.isSome || !j.seed.isEmpty then c else
      let w := warmStart (rigOf c j.arm m) s j
      let c := onJob (onSArm c j.arm (fun _ => w.2.2.1)) j.id (fun j => { j with seed := w.1, warm := w.2.1 })
      if w.2.2.2 then
        (onSArm c j.arm (fun s => { s with wscMiss := inc s.wscMiss })).onMb (fun m => { m with classP := vmod m.classP 2 inc })
      else c

def execClassPJobStart (tile : Fin 9) : State → Host.Outcome State Fault Refusal := run (jobStartOp tile)

/-- The job a tile runs now: none while it does class C work, which it has turned to t_tpre after t_in (07 R210). -/
def runningJob (c : Chip) (t : Nat) : Option Job :=
  if (c.tileOf t).suspended || classCNow c t Config.tTpre then none
  else c.solver.jobs.find? (fun j => j.tile = some t && j.done.isNone && c.now < j.deadline)

/-- The arm as a job computes with it: the tool and payload of its start. -/
def jobRig (c : Chip) (j : Job) (m : ModelCfg) : Rig :=
  let g := rigOf c j.arm m
  match j.load with | some (t, p, x) => { g with tool := t, pay := p, payPos := x } | none => g

/-- A saturated extraction of a class P job counts once for the job (07 R200). -/
def countOvf (c : Chip) (j : Job) (t : Nat) : Chip :=
  onTile (onSArm c j.arm (fun s => { s with ovf := inc s.ovf })) t (fun x => { x with ovf := inc x.ovf })

/-- The iterate after the visible one of an IK job (07 R211). -/
def nextIterate (c : Chip) (j : Job) : Option IkState :=
  (c.mcfg j.arm).map (fun m => ikNext (jobRig c j m) j.inputs j.cap j.seed j.warm j.iterate)

/-- The last published iterate ended the iteration. -/
def Job.over (j : Job) : Bool := match j.iterate with | some x => x.ended | none => false

/-- Iterate `number` becomes visible at an instant (07 R211, R214), and with it its saturation counts. A step that lowers nothing
publishes none. -/
def iterateOp (t number at' : Nat) (c : Chip) : Chip :=
  let d := c.atTime at'
  match runningJob d t with
  | none => c
  | some j =>
    if j.type ≠ 3 || j.over then c else
    match nextIterate d j with
    | none => c
    | some y =>
      if j.iterate.any (fun x => y.k ≤ x.k) || y.k ≠ number then c else
      let had := j.iterate.any (fun x => mbit x.flags 5)
      let d := onJob d j.id (fun j => { j with iterate := some y })
      if mbit y.flags 5 && !had then countOvf d j t else d

def execIkIteratePublished (tile : Fin 9) (number t : Nat) : State → Host.Outcome State Fault Refusal := run (iterateOp tile number t)

/-- The warm-start record of an iterate (07 R218), its check last. -/
def warmRecord (c : Chip) (j : Job) (gen n : Nat) (x : IkState) : Bytes :=
  let b := le 8 (c.sarm j.arm).signature ++ le 1 j.arm ++ le 1 n ++ le 1 (x.flags % 2) ++ zeros 1 ++ le 4 gen
    ++ ((List.range 12).map (fun i => leI 4 (x.q.getD i 0))).flatten ++ slice j.inputs 0 28
  b ++ le 4 (crc32c b)

/-- Result bytes 16-31 and the outputs of an iterate (07 R225): residuals, pivot, λ², q, then its record (07 R220). -/
def ikWords (c : Chip) (j : Job) (x : IkState) : Bytes :=
  leI 4 x.ePos ++ leI 4 x.eRot ++ leI 4 x.pivot ++ leI 4 x.lam2 ++ (x.q.map (leI 4)).flatten
    ++ (match c.mcfg j.arm with | some m => warmRecord c j m.generation x.q.length x | none => [])

/-- An IK job is delivered with its visible iterate (07 R211, R215, R220): a converged one writes its record, unless NO_STORE. -/
def endIk (c : Chip) (j : Job) (x : IkState) (st : Nat) : Chip :=
  let w := ikWords c j x
  let i := cacheIndex j.inputs 0
  let rec' := w.drop (w.length - 96)
  let c := if st = 0 && mbit x.flags 0 && !mbit j.flags 3 then
      onSArm c j.arm (fun s => { s with cache := (i, rec') :: s.cache.filter (fun e => e.1 ≠ i) })
    else c
  let near := match c.mcfg j.arm with | some m => decide (x.ePos ≤ m.tolP) && decide (x.eRot ≤ m.tolO) | none => false
  finishJob c j st x.flags x.k w ((st = 0 && mbit x.flags 0 && !mbit x.flags 5) || (st = 12 && near))

/-- A class P job ends on its tile at an instant before its deadline (07 R211, R214-R216): an IK job whose iteration is over, or whose
next step lowers nothing; any other job with its one result. -/
def jobDoneOp (t at' : Nat) (c : Chip) : Chip :=
  let d := c.atTime at'
  match runningJob d t with
  | none => c
  | some j =>
    if j.type = 3 then
      match j.iterate, nextIterate d j with
      | some x, some y =>
        if x.ended then endIk d j x 0
        else if y.k ≤ x.k then endIk (if mbit y.flags 5 && !mbit x.flags 5 then countOvf d j t else d) j y 0
        else c
      | _, _ => c
    else match d.mcfg j.arm with
      | none => c
      | some m =>
        let r := if j.type = 8 then ([], 0, 0) else jobResult (jobRig d j m) j.type j.flags j.inputs
        let d := if mbit r.2.2 5 then countOvf d j t else d
        finishJob d j 0 r.2.2 0 (zeros 8 ++ leI 4 r.2.1 ++ zeros 4 ++ (r.1.map (leI 4)).flatten) (!mbit r.2.2 5)

def execSolverJobDone (tile : Fin 9) (t : Nat) : State → Host.Outcome State Fault Refusal := run (jobDoneOp tile t)

/-- A job's deadline passes (07 R215, R216): an iteration that was over is delivered as it is, another as far as it came. -/
def deadlineOp (id : Nat) (c : Chip) : Chip :=
  match findJob c id with
  | none => c
  | some j =>
    if j.done.isSome then c else
    let c := c.atTime j.deadline
    match j.iterate with
    | some x => endIk c j { x with flags := if x.ended then x.flags else x.flags - x.flags % 2 } (if x.ended then 0 else 12)
    | none => finishJob c j 7 0 0 [] false

def execSolverJobDeadline (job : Nat) : State → Host.Outcome State Fault Refusal := run (deadlineOp job)

/-- An unread result is discarded 1 s after completion (07 R227). -/
def execSolverResultExpiry (job : Nat) : State → Host.Outcome State Fault Refusal :=
  run fun c => match (findJob c job).bind (·.done) with
    | some (_, _, t) => dropJob (c.atTime (t + 1000000000)) job
    | none => c

/-! ### Commands (07 R225-R227) -/

/-- Cost in tile cycles of a submittable job at a number of iterations (07 R197). -/
def jobCost (delta : Bool) (n type iters : Nat) : Nat :=
  if delta then
    match type with
    | 1 => 260 | 2 => 340 | 3 => 300 | 4 => 700 | 5 => 520 | 6 => 708 | _ => 1528
  else
    let mm := 120 + 40 * n * n
    match type with
    | 1 => 40 + 60 * n | 2 => 80 + 90 * n | 3 => 40 + 60 * n + iters * (260 + 140 * n) | 4 => 200 + 150 * n
    | 5 => mm | 6 => mm + 60 + 8 * n * n | _ => 200 + 150 * n + mm + 100 + 8 * n * n + 20 * n



/-- SOLVER_GET_ARM. -/
def bodySolverArm (q : Req) (c : Chip) : Reply :=
  let a := byteN q.payload 0
  let s := c.sarm a
  match c.mcfg a with
  | none => refuse c .badParam
  | some m =>
    let stale := (presentJoints m s.present).any (fun j => mbit (c.axis j.joint).sp.ffFlags 1)
    let tool := (List.range m.joints.length).any (fun i => mbit s.present i && mbit (m.joints.getD i {}).flags 1)
    let t := tileFor c a
    answer c .ok (le 1 (b2n m.valid) ++ le 1 (nPresent c a) ++ le 1 (t.getD 0xFF) ++ le 1 (bits [stale, tool]) ++ le 8 s.signature
      ++ le 4 m.generation ++ le 4 s.ovf ++ le 4 s.staleTotal ++ le 4 s.wscMiss ++ slice s.tool 0 4 ++ leI 4 s.payload)

def execSolverGetArm (q : Req) : State → Host.Outcome State Fault Refusal :=
  host 0x0601 40 (lay 1 fun b => [isArm (byteN b 0)]) bodySolverArm q

/-- SOLVER_SET_TOOL (07 R222). -/
def bodySetTool (q : Req) (c : Chip) : Reply :=
  let a := byteN q.payload 0
  let st := (c.seq a).st
  if (c.mcfg a).isNone then refuse c .badParam
  else if !(st = .disabled || st = .hold) then refuse c .refusedState
  else answer (deferB c 0x0602 q) .ok (le 4 (dueCount c 0x0602))

def execSolverSetTool (q : Req) : State → Host.Outcome State Fault Refusal :=
  host 0x0602 8 (lay 100 fun b => [isArm (byteN b 0), rsv b 1 3, rsv b 76 24]) bodySetTool q

def applySetTool (b : Bytes) (c : Chip) : Chip := onSArm c (byteN b 0) (fun s => { s with tool := slice b 4 96 })

/-- SOLVER_SET_PAYLOAD (07 R222). -/
def bodySetPayload (q : Req) (c : Chip) : Reply :=
  let m := ri q.payload 4 4
  match c.mcfg (byteN q.payload 0) with
  | none => refuse c .badParam
  | some g =>
    if m < 0 || g.payMax < m then refuse c .badParam
    else answer (deferB c 0x0603 q) .ok (le 4 (dueCount c 0x0603))

def execSolverSetPayload (q : Req) : State → Host.Outcome State Fault Refusal :=
  host 0x0603 8 (lay 20 fun b => [isArm (byteN b 0), rsv b 1 3]) bodySetPayload q

def applySetPayload (b : Bytes) (c : Chip) : Chip :=
  onSArm c (byteN b 0) (fun s => { s with payload := ri b 4 4, payPos := (ri b 8 4, ri b 12 4, ri b 16 4) })

/-- Bytes of the inputs of a job (07 R225). -/
def inputLen (n type flags : Nat) : Nat :=
  match type with
  | 3 => 28 + (if mbit flags 1 then 96 else 0) | 4 | 7 => 12 * n | _ => 4 * n

/-- The lowest job ID from the counter on that no job held bears. -/
def freshJob (c : Chip) : Nat :=
  ((List.range 512).map (fun k => (c.solver.nextJob + k) % 65536)).find? (fun i => (findJob c i).isNone) |>.getD c.solver.nextJob

/-- A job enters the queue. -/
def pushJob (c : Chip) (j : Job) : Chip :=
  c.onSolver (fun s => { s with jobs := s.jobs ++ [j], nextJob := (j.id + 1) % 65536 })

/-- The reserved bits and places of a given warm-start record are zero (07 R218, R227; 00 R7). -/
def recordOk (r : Bytes) : Bool :=
  byteN r 10 < 2 && rsv r 11 1 && byteN r 8 < 12 && byteN r 9 ≤ 12 && rsv r (16 + 4 * byteN r 9) (4 * (12 - byteN r 9))

/-- The queue has room for `k` more jobs (07 R209: 256). -/
def queueRoom (c : Chip) (k : Nat) : Bool := (c.solver.jobs.filter (fun j => j.tile.isNone && j.done.isNone)).length + k ≤ 256

/-- SOLVER_SUBMIT (07 R209, R225, R227). -/
def bodySubmit (q : Req) (c : Chip) : Reply :=
  let b := q.payload
  let a := byteN b 1
  let type := byteN b 0
  let n := nPresent c a
  let waiting := c.solver.jobs.filter (fun j => j.tile.isNone && j.done.isNone)
  match c.mcfg a with
  | none => refuse c .badParam
  | some m =>
    let cap := if byteN b 3 = 0 then m.cap else byteN b 3
    let bars := firstFail [
      (b.length ≠ 12 + inputLen n type (byteN b 2) || (type = 3 && mbit (byteN b 2) 1 && !recordOk (slice b 40 96)), Status.badParam),
      (!m.valid, .notPermitted),
      (!queueRoom c 1 || 16 ≤ (waiting.filter (·.host)).length, .noResource),
      (type = 3 && mbit (byteN b 2) 1 && !warmOk (slice b 40 96), .checkFail)]
    match bars with
    | some st => refuse c st
    | none =>
      let id := freshJob c
      let j : Job := {
        id := id, type := type, arm := a, host := true, flags := byteN b 2, cap := cap, inputs := b.drop 12, tag := ru b 8 4,
        deadline := c.now + ru b 4 4 * 1000, submitted := c.now }
      answer (pushJob c j) .ok (le 2 id ++ zeros 2 ++ le 4 (jobCost m.delta n type cap))

def execSolverSubmit (q : Req) : State → Host.Outcome State Fault Refusal :=
  host 0x0604 12 (fun b => 12 ≤ b.length && [1 ≤ byteN b 0 && byteN b 0 ≤ 7, isArm (byteN b 1), bLe b 2 15, bLe b 3 64,
    10 ≤ ru b 4 4 && ru b 4 4 ≤ 1000000].all id) bodySubmit q

/-- SOLVER_RESULT (07 R227): a result read is gone. -/
def bodyResult (q : Req) (c : Chip) : Reply :=
  let id := ru q.payload 0 2
  match findJob c id with
  | none => refuse c .badParam
  | some j => match j.done with
    | none => refuse c .busy
    | some (_, b, _) => answer (dropJob c id) .ok b

def execSolverResult (q : Req) : State → Host.Outcome State Fault Refusal :=
  host 0x0605 352 (lay 2 fun _ => []) bodyResult q

/-- SOLVER_CANCEL (07 R216): in the tile cycle of the deadline itself a cancel still prevails. -/
def bodyCancel (q : Req) (c : Chip) : Reply :=
  match findJob c (ru q.payload 0 2) with
  | none => refuse c .badParam
  | some j => match j.done with
    | none => answer (squashJob c j) .ok
    | some (st, _, t) =>
      if (st = 7 || st = 12) && t = c.now && t = j.deadline then answer (squashJob c { j with tile := none }) .ok else refuse c .refusedState

def execSolverCancel (q : Req) : State → Host.Outcome State Fault Refusal :=
  host 0x0606 4 (lay 2 fun _ => []) bodyCancel q

/-- An arm named, configured, or 0xFF for all. -/
def armOrAll (c : Chip) (a : Nat) : Bool := a = 0xFF || (a < 12 && (c.mcfg a).isSome)

/-- SOLVER_WARM_FLUSH (07 R220). -/
def bodyFlush (q : Req) (c : Chip) : Reply :=
  let a := byteN q.payload 0
  if !armOrAll c a then refuse c .badParam
  else answer (c.onSolver (fun s => { s with
    arm := vmapIdx s.arm (fun i x => if a = 0xFF || a = i then { x with cache := [] } else x) })) .ok

def execSolverWarmFlush (q : Req) : State → Host.Outcome State Fault Refusal :=
  host 0x0607 4 (lay 1 fun b => [byteN b 0 < 12 || byteN b 0 = 0xFF]) bodyFlush q

/-- SOLVER_GET_TILE. -/
def bodyTile (q : Req) (c : Chip) : Reply :=
  let x := c.tileOf (byteN q.payload 0)
  answer c .ok (le 1 x.st.code ++ le 1 x.arms.length ++ zeros 2 ++ le 4 x.last ++ le 4 x.latest ++ le 4 x.busyP ++ le 4 x.ovf)

def execSolverGetTile (q : Req) : State → Host.Outcome State Fault Refusal :=
  host 0x0608 24 (lay 1 fun b => [bLe b 0 8]) bodyTile q

/-- SOLVER_CLEAR_COUNTERS. -/
def bodySolverClear (q : Req) (c : Chip) : Reply :=
  let a := byteN q.payload 0
  let t := byteN q.payload 1
  if !armOrAll c a then refuse c .badParam
  else answer (c.onSolver (fun s => { s with
    arm := vmapIdx s.arm (fun i x => if a = 0xFF || a = i then { x with ovf := 0, staleTotal := 0, wscMiss := 0 } else x),
    tile := vmapIdx s.tile (fun i x => if t = 0xFF || t = i then { x with latest := 0, ovf := 0 } else x) })) .ok

def execSolverClearCounters (q : Req) : State → Host.Outcome State Fault Refusal :=
  host 0x0609 4 (lay 2 fun b => [byteN b 0 < 12 || byteN b 0 = 0xFF, byteN b 1 < 9 || byteN b 1 = 0xFF]) bodySolverClear q

end Sys2Proof.Machine
end

