-- ==== Sys2Proof/Machine/Planner.lean ====
section
/-!
DEFINITION. The run-ahead planner and the zone arbiter (chapter 08). Into which cubics the planner splits a motion is a free value
(log 36); the poses, the candidates, the zone intervals, and every rule that judges, squashes, arbitrates and commits is here.
-/

namespace Sys2Proof.Machine

open Sys2Proof

/-! ### Axes of the profile unit that the planner reads -/

def Chip.pax (c : Chip) (a : Nat) : Prof := vget c.prof.ax a
def onAx (c : Chip) (a : Nat) (f : Prof → Prof) : Chip := c.onProf (fun p => { p with ax := vmod p.ax a f })
def Chip.chain (c : Chip) (o : Nat) : Chain := vget c.prof.chain o
def onChain (c : Chip) (o : Nat) (f : Chain → Chain) : Chip := c.onProf (fun p => { p with chain := vmod p.chain o f })

/-- The cycle period in µs. -/
def Chip.tUs (c : Chip) : Rat := mkRat c.period 1000

/-- A value in units of 2^-`k`, rounded to nearest (09 R261). -/
def nearest (k : Nat) (v : Rat) : Int := let x := v * (2 ^ k : Nat); roundDiv x.num x.den

/-- Output velocity and acceleration as they are written: counts per cycle Q16.16, counts per cycle² Q8.24 (06 R170). -/
def vOut (c : Chip) (x : Prof) : Int := nearest 16 (x.v * c.tUs)
def aOut (c : Chip) (x : Prof) : Int := nearest 24 (x.a * c.tUs * c.tUs)

/-- AT_REST (09 R263), judged on the outputs as they are written (log 37). -/
def atRest (c : Chip) (a : Nat) : Bool :=
  let x := c.pax a
  let chained := match axisOwner c a with | some o => !(c.chain o).queue.isEmpty | none => false
  vOut c x = 0 && aOut c x = 0 && nearest 16 x.lag = 0 && x.move.isNone && x.stopping.isNone && x.next.isNone && x.home.isNone
    && !chained && x.mode ≠ .stream

/-- Every axis of an owner is AT_REST (09 R263). -/
def ownerAtRest (c : Chip) (o : Nat) : Bool := (ownerAxes c o).all (atRest c)

/-! ### Segments and picks -/

def Chip.pcfg (c : Chip) : PlanCfg := c.cfg.plan.getD {}
def findSeg (c : Chip) (id : Nat) : Option Seg := c.planner.segs.find? (fun s => s.id = id)
def findPick (c : Chip) (id : Nat) : Option Pick := c.planner.picks.find? (fun p => p.id = id)
def onPick (c : Chip) (id : Nat) (f : Pick → Pick) : Chip :=
  c.onPlanner (fun p => { p with picks := p.picks.map (fun k => if k.id = id then f k else k) })
def dropPick (c : Chip) (id : Nat) : Chip := c.onPlanner (fun p => { p with picks := p.picks.filter (fun k => k.id ≠ id) })
def onSeg (c : Chip) (id : Nat) (f : Seg → Seg) : Chip :=
  c.onPlanner (fun p => { p with segs := p.segs.map (fun s => if s.id = id then f s else s) })
def Seg.live (s : Seg) : Bool := s.st = .proposed || s.st = .committed

/-- PROPOSED and COMMITTED segments of an arm. -/
def armSegs (c : Chip) (a : Nat) : List Seg := c.planner.segs.filter (fun s => s.owner = a && s.live)

/-- Segments of a pick. -/
def pickSegs (c : Chip) (id : Nat) (st : SegSt) : List Seg := c.planner.segs.filter (fun s => s.tag = id && s.st = st)

/-- A planner counter goes up: 0 PLAN_TICK_SKIP, 1 PLAN_STARVED, 2 PICK_MISSED, 3 squashes, 4 LATE_COMMIT squashes (08 R259). -/
def countPlan (c : Chip) (i k : Nat) : Chip := c.onPlanner (fun p => { p with cnt := vmod p.cnt i (fun n => incBy n k) })

/-- The line's position and velocity (Q32.32 counts/µs) now. -/
def linePos (c : Chip) (l : Nat) : Int := (c.line l).state.pos c.plant
def lineVel (c : Chip) (l : Nat) : Int := (c.line l).state.vel c.plant

/-- Counts travelled in a time in µs at a velocity. -/
def travel (vel : Int) (us : Nat) : Int := vel * us / 4294967296

/-- The commit lead in counts at a velocity (08 R239). -/
def commitLead (c : Chip) (vel : Int) : Int := travel vel (c.pcfg.leadMs * 1000)

/-! ### What a tick sees (08 R228 step 2) -/

/-- Line states, speed classes, arm states and presets as they stand at the boundary that begins a tick. -/
def snapPlan (c : Chip) : Chip :=
  let snap : PlanSnap := {
    cyc := some c.cyc, plant := c.t0 + c.ptOff,
    line := Vector.ofFn (fun l : Fin 4 => ((c.line l).st, (c.line l).state)),
    cls := Vector.ofFn (fun a : Fin 12 => (vget c.sep.arm a).e),
    arm := Vector.ofFn (fun a : Fin 12 => ((c.seq a).st, (c.seq a).fault.isSome || (ownerAxes c a).any (fun x => (c.pax x).lagFault))),
    presets := c.planner.presets }
  c.onPlanner (fun p => { p with snap := snap })

/-- The snapshot of a boundary at which a tick falls due. -/
def tickSnap (c : Chip) : Chip :=
  if c.active && decide (c.cyc % Config.tickCycles c.cfg.sys.period = 0) then snapPlan c else c

def seenSt (c : Chip) (l : Nat) : LineSt := (vget c.planner.snap.line l).1
def seenEst (c : Chip) (l : Nat) : Est := (vget c.planner.snap.line l).2
def seenPos (c : Chip) (l : Nat) : Int := (seenEst c l).pos c.planner.snap.plant
def seenVel (c : Chip) (l : Nat) : Int := (seenEst c l).vel c.planner.snap.plant
def seenUsable (c : Chip) (l : Nat) : Bool := seenSt c l = .valid || seenSt c l = .holdover
def seenClass (c : Chip) (a : Nat) : Nat := vget c.planner.snap.cls a

/-- Cores in service (08 R257). -/
def coresIn (c : Chip) : Nat := ((List.range 8).filter (fun k => vget c.planner.core k = .inService)).length

/-- The planner level changes, with PLAN_LEVEL (08 R256). -/
def setLevel (c : Chip) (n : Nat) : Chip :=
  if c.planner.level = n then c else
  post (c.onPlanner (fun p => { p with level := n, calm := 0 })) 4 0x0748 0xFF 0xFF (le 1 n ++ le 1 (coresIn c))

/-- A pick is missed: its event frees its place (08 R233, R258). -/
def missPick (c : Chip) (k : Pick) (why : Nat) : Chip :=
  countPlan (dropPick (post c 4 0x0742 (k.arm.getD 0xFF) 0xFF (le 4 k.id ++ le 1 why)) k.id) 2 1

/-- A pick is cancelled (08 R233, R260). -/
def cancelPick (c : Chip) (k : Pick) : Chip :=
  dropPick (post c 4 0x0743 (k.arm.getD 0xFF) 0xFF (le 4 k.id ++ le 1 k.st.code)) k.id

/-! ### Squash (08 R243-R245) -/

/-- The segments whose predecessor chain leads back to one (08 R244). -/
def cascade (c : Chip) (root : Nat) : List Nat :=
  c.planner.segs.foldl (fun ids s =>
    match s.pred with
    | some p => if s.live && ids.contains p then ids ++ [s.id] else ids
    | none => ids) [root]

/-- After a squash, a pick without a COMMITTED segment waits again or is cancelled; else it stays ACTIVE (08 R244). -/
def settlePick (c : Chip) (id : Nat) : Chip :=
  match findPick c id with
  | none => c
  | some k =>
    if !(pickSegs c id .committed).isEmpty then onPick c id (fun k => { k with todo := [] })
    else if k.cancelling then cancelPick c k
    else onPick c id (fun k => { k with st := .pending, arm := none, todo := [] })

/-- One cascade (08 R244): the segments, their jobs, their reservations, their picks, and its root for the event. -/
def squash (c : Chip) (root cause : Nat) : Chip :=
  match findSeg c root with
  | none => c
  | some s =>
    if !s.live then c else
    let ids := cascade c root
    let had := c.planner.segs.any (fun x => ids.contains x.id && x.st = .committed)
    let tags := ((c.planner.segs.filter (fun x => ids.contains x.id)).map (·.tag)).dedup
    let jobs := c.solver.jobs.filter (fun j => j.done.isNone && (match j.seg with | some k => ids.contains k | none => false))
    let c := c.onPlanner (fun p => { p with
      segs := p.segs.map (fun x => if ids.contains x.id then
        { x with st := .squashed, cause := if x.id = root then cause else 6, freedTick := p.tick + 1 } else x),
      resv := (p.resv.filter (fun r => !(ids.contains r.seg && r.st = .proposed))).map
        (fun r => if ids.contains r.seg then { r with st := .squashed, kept := true } else r),
      roots := p.roots ++ [(s.owner, cause, root, ids.length, had)] })
    let c := jobs.foldl squashJob c
    let c := countPlan c 3 ids.length
    let c := if cause = 9 then countPlan c 4 1 else c
    tags.foldl settlePick c

/-- The squash events of a tick: cascades of one arm with one cause are one event (08 R258). -/
def postSquashes (c : Chip) : Chip :=
  let merged := c.planner.roots.foldl (fun (l : List (Nat × Nat × Nat × Nat × Bool)) r =>
    match l.find? (fun x => x.1 = r.1 && x.2.1 = r.2.1) with
    | none => l ++ [r]
    | some _ => l.map (fun x => if x.1 = r.1 && x.2.1 = r.2.1 then
        (x.1, x.2.1, x.2.2.1, x.2.2.2.1 + r.2.2.2.1, x.2.2.2.2 || r.2.2.2.2) else x)) []
  let c := merged.foldl (fun c r =>
    post c 4 0x0744 r.1 0xFF (le 4 r.2.2.1 ++ le 1 r.2.1 ++ le 1 r.2.2.2.1 ++ le 1 (b2n r.2.2.2.2))) c
  c.onPlanner (fun p => { p with roots := [] })

/-- A COMMITTED segment is RETIRED (08 R242, R245), with its CHECKPOINT event; one that was CUT runs out in the profile unit and is not
retired again. -/
def retireSeg (c : Chip) (id : Nat) (cut : Bool) : Chip :=
  match findSeg c id with
  | none => c
  | some s =>
    if s.st ≠ .committed then c else
    let c := c.onPlanner (fun p => { p with
      segs := p.segs.map (fun x => if x.id = id then { x with st := .retired, cut := cut, freedTick := p.tick + 1 } else x),
      resv := p.resv.map (fun r => if r.seg = id then { r with st := .retired, kept := cut } else r) })
    if s.checkpoint then post c 4 0x0745 s.owner 0xFF (le 4 id ++ le 1 (b2n cut)) else c

/-- A segment runs to its end (08 R242, R260): the last of its pick makes the pick DONE, the last committed one of a cancelled pick
makes it CANCELLED. -/
def endSeg (c : Chip) (id : Nat) : Chip :=
  match findSeg c id with
  | none => c
  | some s =>
    if s.st ≠ .committed then c else
    let c := retireSeg c id false
    match findPick c s.tag with
    | none => c
    | some k =>
      if s.final then dropPick (post c 4 0x0741 (k.arm.getD 0xFF) 0xFF (le 4 k.id ++ le 4 k.tag)) k.id
      else if k.cancelling && (pickSegs c s.tag .committed).isEmpty then cancelPick c k
      else c

/-- An arm stops (08 R245; causes ARM_STOP, MODE, and SC0): its PROPOSED segments are squashed, its COMMITTED ones cut or removed;
`along` keeps the running record in the profile unit, which comes to rest along it. -/
def stopChain (c : Chip) (a cause : Nat) (along : Bool) : Chip :=
  let ch := c.chain a
  let run' := if ch.started && ch.planner then ch.queue.head?.map (·.id) else none
  let hit := (armSegs c a).filter (fun s => s.st = .committed)
  let tags := (hit.map (·.tag)).dedup
  let c := match run' with | some r => retireSeg c r true | none => c
  let c := (armSegs c a).foldl (fun c s => squash c s.id cause) c
  let c := if ch.planner || along then
      onChain c a (fun h => { h with queue := if along && h.started then h.queue.take 1 else [], started := along && h.started })
    else c
  let c := tags.foldl (fun c t =>
    match findPick c t with
    | none => c
    | some k =>
      if k.reassign && linePos c k.line + commitLead c (lineVel c k.line) ≤ k.pLast && !k.cancelling then
        onPick c t (fun k => { k with st := .pending, arm := none, todo := [], barred := mput k.barred a true })
      else if k.cancelling then cancelPick c k
      else missPick c { k with arm := some a } 1) c
  postSquashes c

/-- A chain of the planner ends in motion with no successor (08 R246): its reservations stay until the arm is at rest. -/
def chainStarved (c : Chip) (a last : Nat) : Chip :=
  let c := c.onPlanner (fun p => { p with resv := p.resv.map (fun r =>
    if r.arm = a && (r.st = .committed || r.st = .retired) then { r with kept := true } else r) })
  countPlan (post c 4 0x0746 a 0xFF (le 4 last)) 1 1

/-! ### Curves and poses (08 R230, R236) -/

/-- The Hermite curve of a span S at u (08 R236): position and its derivatives by σ = uS. -/
def hermite (S u p0 d0 p1 d1 : Rat) : Rat × Rat × Rat :=
  ((2 * u ^ 3 - 3 * u ^ 2 + 1) * p0 + (u ^ 3 - 2 * u ^ 2 + u) * S * d0 + (-2 * u ^ 3 + 3 * u ^ 2) * p1 + (u ^ 3 - u ^ 2) * S * d1,
   ((6 * u ^ 2 - 6 * u) * p0 + (3 * u ^ 2 - 4 * u + 1) * S * d0 + (-6 * u ^ 2 + 6 * u) * p1 + (3 * u ^ 2 - 2 * u) * S * d1) / S,
   ((12 * u - 6) * p0 + (6 * u - 4) * S * d0 + (-12 * u + 6) * p1 + (6 * u - 2) * S * d1) / (S * S))

/-- The span of a record in its parameter: µs or line counts. -/
def spanOf (s : Seg) : Rat := if s.lineSpan then s.span else mkRat s.span 1000

/-- The curve of one axis of a record at σ. -/
def curveAt (s : Seg) (sigma : Rat) (st : Rat × Rat) (e : Int × Int) : Rat × Rat × Rat :=
  hermite (spanOf s) (if spanOf s = 0 then 0 else sigma / spanOf s) st.1 st.2 (dyadic e.1 (-16)) (dyadic e.2 (-32))

/-- The length of one count of a LIN line, in m (02 R39). -/
def countLen : Rat := mkRat 1 256000000

/-- A LEN32 length along a line in its counts (08 R231). -/
def lenCounts (r : Int) : Int := quot 15 (r * 256000000) (2 ^ 26)

/-- The rotation whose columns are three orthonormal vectors, by its largest part. -/
def frameQuat (x y z : R3) : Q4 :=
  let t := x.1 + y.2.1 + z.2.2
  if 0 ≤ t then
    let w := sqrtR (1 + t) / 2
    (w, (y.2.2 - z.2.1) / (4 * w), (z.1 - x.2.2) / (4 * w), (x.2.1 - y.1) / (4 * w))
  else if y.2.1 ≤ x.1 && z.2.2 ≤ x.1 then
    let a := sqrtR (1 + x.1 - y.2.1 - z.2.2) / 2
    ((y.2.2 - z.2.1) / (4 * a), a, (y.1 + x.2.1) / (4 * a), (z.1 + x.2.2) / (4 * a))
  else if z.2.2 ≤ y.2.1 then
    let a := sqrtR (1 + y.2.1 - x.1 - z.2.2) / 2
    ((z.1 - x.2.2) / (4 * a), (y.1 + x.2.1) / (4 * a), a, (z.2.1 + y.2.2) / (4 * a))
  else
    let a := sqrtR (1 + z.2.2 - x.1 - y.2.1) / 2
    ((x.2.1 - y.1) / (4 * a), (z.1 + x.2.2) / (4 * a), (z.2.1 + y.2.2) / (4 * a), a)

/-- The point x(p) of R230 in the cell frame, for a reference position, lateral offset and height. -/
def itemPoint (c : Chip) (l : Nat) (ref y z p : Rat) : R3 :=
  let u := len3 (vget c.pcfg.dir l)
  let w := len3 (vget c.pcfg.lat l)
  add3 (add3 (len3 (vget c.pcfg.datum l)) (mul3 ((p - ref) * countLen) u)) (add3 (mul3 y w) (mul3 z (cross3 u w)))

/-- A gripping frame on a line (08 R230, R232): at x(p), turned by yaw about u × w; how an arm's TCP stands to an item is free. -/
def itemPose (c : Chip) (a l : Nat) (ref y z yaw p : Rat) : Pose :=
  let u := len3 (vget c.pcfg.dir l)
  let w := len3 (vget c.pcfg.lat l)
  ⟨qmul (qmul (frameQuat u w (cross3 u w)) (turnBy (0, 0, 1) yaw)) (Config.gripTurn a), itemPoint c l ref y z p⟩

/-- The grip pose of a pick at a line position (08 R232, R234). -/
def gripPose (c : Chip) (a : Nat) (k : Pick) (p : Rat) : Pose :=
  itemPose c a k.line k.pItem (word lenF (ri k.raw 16 4)) (word lenF (ri k.raw 20 4)) (word angF (ri k.raw 24 4)) p

/-- The place pose of a pick, of a place on a line at a position of that line (08 R232). -/
def placePose (c : Chip) (a : Nat) (k : Pick) (p : Rat) : Pose :=
  if mbit (byteN k.raw 7) 2 then
    itemPose c a (byteN k.raw 40) (ri k.raw 44 8) (word lenF (ri k.raw 52 4)) (word lenF (ri k.raw 56 4)) (word angF (ri k.raw 60 4)) p
  else ⟨qmul (turnBy (0, 0, 1) (word angF (ri k.raw 64 4))) (Config.gripTurn a), len3 (vecAt k.raw 52)⟩

/-- The base of an arm in the cell frame, and a cell pose in the base frame (07 R201). -/
def basePose (m : ModelCfg) : Pose := ⟨quat m.baseRot, len3 m.baseT⟩
def inBase (m : ModelCfg) (f : Pose) : Pose :=
  let b := basePose m
  ⟨qmul (qconj b.r) f.r, turn (qconj b.r) (sub3 f.p b.p)⟩

/-- A pose as the target words of an IK job (07 R225). -/
def poseBytes (f : Pose) : Bytes :=
  let w := fun (k : Nat) (x : Rat) => leI 4 (satI 32 (let v := x * (2 ^ k : Nat); quot 15 v.num v.den))
  (list3 f.p).flatMap (w lenF) ++ (f.r.1 :: list3 f.r.2).flatMap (w trigF)

/-- Feedback counts as a joint position, and back (07 R206). -/
def jointOf (j : JointRec) (p : Rat) : Rat := (p - mkRat j.offset 65536) * dyadic j.scaleM (j.scaleE - 23)
def countsOf (j : JointRec) (q : Rat) : Rat := mkRat j.offset 65536 + q / dyadic j.scaleM (j.scaleE - 23)

/-- Where a new segment of an arm starts (08 R236): end state of its chain, d0 in the new span's unit; else the set-points, at rest. -/
def chainState (c : Chip) (a : Nat) (lineSpan : Bool) : List (Rat × Rat) :=
  match (armSegs c a).getLast? with
  | none => (ownerAxes c a).map (fun x => ((c.pax x).p, 0))
  | some s =>
    let v := mkRat (seenVel c s.line) 4294967296
    s.axes.map (fun e => (dyadic e.1 (-16),
      let d := dyadic e.2 (-32)
      if s.lineSpan = lineSpan then d else if s.lineSpan then d * v else if v = 0 then 0 else d / v))

/-- Joint positions along a segment at σ. -/
def segJoints (g : Rig) (s : Seg) (st : List (Rat × Rat)) (sigma : Rat) : List Rat :=
  (g.joints.zip (st.zip s.axes)).map (fun e => jointOf e.1 (curveAt s sigma e.2.1 e.2.2).1)

/-- The frame of a joint record in the base frame; of a delta arm the upper arms and the platform. -/
def jointFrame (g : Rig) (q : List Rat) (ix : Nat) : Pose :=
  if g.m.delta then
    if ix < 3 then
      let e := elbow g ix (q.getD ix 0)
      let o := mul3 (blockWord (·.baseR) g) (radial g ix)
      let x := mul3 (1 / blockWord (·.upper) g) (sub3 e.1 o)
      let y := cross3 (0, 0, 1) (radial g ix)
      ⟨frameQuat x y (cross3 x y), o⟩
    else flange g q
  else match (serialLinks g (q.map (fun x => (x, 0, 0)))).find? (fun l => l.ix = ix) with
    | some l => l.f
    | none => poseId

/-- The points that PATH_CHECK tests, in the cell frame (08 R231, R250): the TCP and the link points. -/
def testPoints (c : Chip) (g : Rig) (q : List Rat) : List R3 :=
  let b := basePose g.m
  (fkPose g q).p :: ((vget c.pcfg.arm g.arm).links.take 4).map (fun l => (jointFrame g q l.1).at (len3 l.2)) |>.map b.at

/-! ### Judging (08 R239-R241) -/

/-- The arm may work (08 R240 bit 7, R269). -/
def armFit (c : Chip) (a : Nat) : Bool :=
  let s := c.seq a
  (s.st = .hold || s.st = .running) && s.fault.isNone && !(ownerAxes c a).any (fun x => (c.pax x).lagFault)

/-- The same as the tick sees it (08 R228). -/
def seenFit (c : Chip) (a : Nat) : Bool :=
  let s := vget c.planner.snap.arm a
  (s.1 = .hold || s.1 = .running) && !s.2

/-- The device runs automatic operation. -/
def inAuto (c : Chip) : Bool := c.sys.dev = .automatic || c.sys.dev = .degraded

/-- The planner accepts requests: automatic operation, and no change to READY waits (01 R33). -/
def accepting (c : Chip) : Bool := inAuto c && c.sys.readyWait.isNone

/-- The assumption bits that hold (08 R240); a recovery segment has no pick of its own (log 36). -/
def assumptions (c : Chip) (s : Seg) : Nat :=
  let mine := c.planner.resv.filter (fun r => r.seg = s.id)
  bits [
    s.lines.all (fun l => (seenVel c l.1 - l.2.1).natAbs * 1000 ≤ c.pcfg.speedTolPm * l.2.1.natAbs),
    s.lines.all (fun l => seenUsable c l.1 && vget c.planner.snap.presets l.1 = l.2.2),
    s.cls ≤ seenClass c s.owner,
    mine.all (·.granted),
    (match s.pred with
     | some p => (match findSeg c p with | some x => x.st = .committed | none => false)
     | none => ownerAtRest c s.owner),
    s.recovery || (findPick c s.tag).isSome,
    s.sigAssumed = (c.sarm s.owner).signature,
    seenFit c s.owner && accepting c,
    s.jobsLeft = 0 && s.solver = some true]

/-- The instant after the tick's at which a line reaches a position in a direction; a position already reached counts as now. -/
def reachAt (c : Chip) (l : Nat) (x : Int) (up : Bool) : Option Int :=
  let p := seenPos c l
  let now := c.planner.snap.plant
  if (up && x ≤ p) || (!up && p ≤ x) then some now else reach (seenEst c l) x up now

/-- The predicted end of a segment that starts at an instant (08 R238). -/
def endInstant (c : Chip) (s : Seg) (start : Int) : Option Int :=
  if s.lineSpan then reachAt c s.line (s.start + s.span) (0 < s.span) else some (start + s.span)

/-- The predicted start of a segment (08 R238). -/
def startInstant (c : Chip) (s : Seg) : Option Int :=
  if s.lineSpan then reachAt c s.line s.start (0 < s.span)
  else match s.pred.bind (findSeg c) with
    | some p => endInstant c p p.startAt
    | none => some s.startAt

/-- The commit position is reached (08 R239). -/
def commitReached (c : Chip) (s : Seg) : Bool :=
  let l := (vget c.pcfg.arm s.owner).refLine
  if 0 ≤ seenVel c l then s.commitPos ≤ seenPos c l else seenPos c l ≤ s.commitPos

/-- Step 3: a PROPOSED segment whose set fails is squashed (08 R228, R240, R243). -/
def judgeSeg (c : Chip) (id : Nat) : Chip :=
  match findSeg c id with
  | none => c
  | some s =>
    if s.st ≠ .proposed then c else
    let h := assumptions c s
    let c := onSeg c id (fun s => { s with held := h })
    let cause := firstFail [(!mbit h 0, 2), (!mbit h 1, 3), (!mbit h 2, 4), (!mbit h 5, Config.missedCause id), (!mbit h 6, 7),
      (!accepting c && c.sys.dev ≠ .faultHalt, 11), (!mbit h 7, 8)]
    match cause with
    | some k => squash c id k
    | none => c

/-! ### Zone arbitration (08 R249-R255) -/

def lossOf (c : Chip) (z a : Nat) : Loss :=
  match c.planner.loss.find? (fun x => x.1 = z && x.2.1 = a) with | some x => x.2.2 | none => {}

def setLoss (c : Chip) (z a : Nat) (l : Loss) : Chip :=
  c.onPlanner (fun p => { p with loss := (z, a, l) :: p.loss.filter (fun x => !(x.1 = z && x.2.1 = a)) })

def onResv (c : Chip) (z seg : Nat) (f : Resv → Resv) : Chip :=
  c.onPlanner (fun p => { p with resv := p.resv.map (fun r => if r.zone = z && r.seg = seg then f r else r) })

/-- Two reservations conflict (08 R251). -/
def conflict (x y : Resv) : Bool := x.arm ≠ y.arm && x.lo < y.hi && y.lo < x.hi

/-- The bound the line reaches first (08 R251). -/
def needed (c : Chip) (z : ZoneCfg) (r : Resv) : Int := if 0 ≤ seenVel c z.line then r.lo else r.hi

/-- Arms of a zone's mask. -/
def zoneArms (z : ZoneCfg) : List Nat := (List.range 12).filter (mbit z.arms)

/-- Which of two requests is taken first (08 R253). -/
def requestBefore (c : Chip) (z : ZoneCfg) (x y : Resv) : Bool :=
  let px := (lossOf c z.id x.arm).priv
  let py := (lossOf c z.id y.arm).priv
  let tail := needed c z x < needed c z y || (needed c z x = needed c z y && x.arm ≤ y.arm)
  match px, py with
  | some a, some b => a < b || (a = b && tail)
  | some _, none => true
  | none, some _ => false
  | none, none => tail

/-- One request is treated (08 R253); the second component lists the arms that lost. -/
def treat (z : ZoneCfg) (acc : Chip × List Nat) (r : Resv) : Chip × List Nat :=
  let c := acc.1
  if !(c.planner.resv.any (fun x => x.zone = z.id && x.seg = r.seg && x.st = .proposed && !x.granted)) then acc else
  let rivals := c.planner.resv.filter (fun x => x.zone = z.id && conflict r x && (x.granted || x.st ≠ .proposed))
  let grant := fun (c : Chip) => onResv c z.id r.seg (fun x => { x with granted := true, now := true })
  let weaker := fun (x : Resv) => !x.now && (match (lossOf c z.id r.arm).priv, (lossOf c z.id x.arm).priv with
    | some _, none => true
    | some a, some b => a < b
    | none, _ => false)
  if rivals.isEmpty then (grant c, acc.2)
  else if rivals.any (fun x => x.st ≠ .proposed) then acc
  else if rivals.all weaker then
    (grant (rivals.foldl (fun c x => squash c x.seg 5) c), acc.2 ++ rivals.map (·.arm))
  else (squash c r.seg 5, acc.2 ++ [r.arm])

/-- An arm's count after the step (08 R253-R255). -/
def settleLoss (z : ZoneCfg) (lost : List Nat) (c : Chip) (a : Nat) : Chip :=
  let f := 9 - (zoneArms z).length
  let l := lossOf c z.id a
  let won := c.planner.resv.any (fun r => r.zone = z.id && r.arm = a && r.now)
  if won then setLoss c z.id a { count := 0, priv := if f = 0 then some c.cyc else none }
  else if lost.contains a then
    let n := l.count + 1
    let c := setLoss c z.id a { count := n, priv := if f ≤ n then l.priv.orElse (fun _ => some c.cyc) else l.priv }
    if n = 8 then post c 4 0x0747 a z.id (le 1 8) else c
  else c

/-- Step 4 for one zone. -/
def arbitrate (c : Chip) (z : ZoneCfg) : Chip :=
  let f := 9 - (zoneArms z).length
  let c := (zoneArms z).foldl (fun c a =>
    let l := lossOf c z.id a
    if f ≤ l.count && l.priv.isNone then setLoss c z.id a { l with priv := some c.cyc } else c) c
  let reqs := c.planner.resv.filter (fun r => r.zone = z.id && r.st = .proposed && !r.granted)
  let r := (reqs.insertionSort (fun x y => requestBefore c z x y)).foldl (treat z) (c, [])
  let c := (zoneArms z).foldl (settleLoss z r.2) r.1
  c.onPlanner (fun p => { p with resv := p.resv.map (fun (x : Resv) => if x.zone = z.id then { x with now := false } else x) })

/-- Reservations that end (08 R245, R252). -/
def releaseResv (c : Chip) : Chip :=
  let keep := fun (r : Resv) =>
    if r.kept then !(ownerAtRest c r.arm || (c.seq r.arm).st = .disabled)
    else if r.st = .retired then
      match c.cfg.zones.find? (fun z => z.id = r.zone) with
      | some z => if 0 ≤ seenVel c z.line then decide (seenPos c z.line < r.hi) else decide (r.lo < seenPos c z.line)
      | none => false
    else true
  c.onPlanner (fun p => { p with resv := p.resv.filter keep })

/-! ### Commit (08 R241) -/

/-- A segment record (08 R235). -/
def segBytes (s : Seg) : Bytes :=
  let owner := if s.owner < 12 then s.owner else 0x40 + (s.owner - 12)
  let h := le 4 s.id ++ le 4 (s.pred.getD 0xFFFFFFFF) ++ le 1 owner ++ le 1 s.axes.length ++ le 1 (b2n s.lineSpan) ++ le 1 s.line
    ++ le 2 (bits [s.endRest, s.checkpoint]) ++ le 1 s.cls ++ zeros 1 ++ leI 8 s.start ++ leI 8 s.span ++ le 4 s.tag
  let ax := (s.axes.map (fun a => leI 8 a.1 ++ leI 8 a.2)).flatten
  h ++ le 4 (crc32c (h ++ ax)) ++ ax

/-- Committed segments whose boundary is no later than cycle `cyc` enter the profile unit (08 R241, 13 R402). -/
def enterSegs (c : Chip) (cyc : Nat) : Chip :=
  let due := c.planner.entering.filter (fun e => e.2 ≤ cyc)
  let c := c.onPlanner (fun p => { p with entering := p.entering.filter (fun e => cyc < e.2) })
  due.foldl (fun c e => match findSeg c e.1 with
    | some s => if s.st = .committed then onChain c s.owner (fun ch => { ch with queue := ch.queue ++ [s], planner := true }) else c
    | none => c) c

/-- Step 5 for one segment. -/
def commitSeg (c : Chip) (id : Nat) : Chip :=
  match findSeg c id with
  | none => c
  | some s =>
    if s.st ≠ .proposed || !commitReached c s then c else
    let h := assumptions c s
    let off : Nat := if mirrors c then 2 else 1
    let entry : Int := c.t0 + (off * c.period : Nat) + c.ptOff
    let late := match startInstant c s with | some t => decide (t < entry + c.period) | none => false
    let waiting := (c.planner.entering.filter (fun e => (findSeg c e.1).any (fun x => x.owner = s.owner))).length
    if late then squash c id 9
    else if s.solver = some false then squash c id 10
    else if h ≠ 511 || 16 ≤ (c.chain s.owner).queue.length + waiting then onSeg c id (fun s => { s with held := h })
    else
      let c := onSeg c id (fun s => { s with st := .committed, held := h })
      let c := c.onPlanner (fun p => { p with
        resv := p.resv.map (fun r => if r.seg = id then { r with st := .committed } else r), entering := p.entering ++ [(id, c.cyc + off)] })
      let c := if mirrors c then queueItem c 0x0102 (c.count + 2) (segBytes s) else enterSegs c (c.cyc + 1)
      onPick c s.tag (fun k => { k with st := .active })

/-! ### Proposals (08 R234, R238, R246) -/

/-- The horizon in force, ms (08 R238, R256). -/
def horizonMs (c : Chip) : Nat := if c.planner.level = 0 then c.pcfg.horizonMs else max 8 (c.pcfg.horizonMs / 2)

/-- The quota of an arm (08 R237). -/
def quotaOf (c : Chip) (a : Nat) : Nat :=
  let q := (vget c.pcfg.arm a).quota
  if q ≠ 0 then q else 256 / max 1 ((List.range 12).filter (fun a => (c.ocfg a).isSome)).length

/-- Records that hold a place of the pool (08 R237): one squashed or retired keeps its place to the end of the tick. -/
def pooled (c : Chip) : List Seg := c.planner.segs.filter (fun s => s.live || decide (c.planner.tick < s.freedTick))
def armPooled (c : Chip) (a : Nat) : Nat := ((pooled c).filter (fun s => s.owner = a)).length

/-- Reach entry and exit of an arm on a line for a reference position, in counts; none where its record gives no reach (08 R231). -/
def reachOf (c : Chip) (a : Nat) (k : Pick) : Option (Int × Int) :=
  let r := vget (vget c.pcfg.arm a).reach k.line
  if r.1 < r.2 then some (k.pItem + lenCounts r.1, k.pItem + lenCounts r.2) else none

/-- An arm may take a pick (08 R234, R245; 07 R205). -/
def eligible (c : Chip) (k : Pick) (a : Nat) : Bool :=
  let st := (vget c.planner.snap.arm a).1
  mbit k.mask a && !mbit k.barred a && (c.ocfg a).isSome && (st = .hold || st = .running)
    && armPooled c a < quotaOf c a && (reachOf c a k).isSome && (c.mcfg a).any (·.valid)

/-- An IK run to its end (07 R211), as the planner's jobs make it. -/
def ikRun (g : Rig) (target : Bytes) (seed : List Int) : Nat → Option IkState → Option IkState
  | 0, x => x
  | n + 1, x => if x.any (·.ended) then x else ikRun g target seed n (some (ikNext g target g.m.cap seed 0 x))

/-- IK of an arm converges at a pose (08 R234), from the seed that its job would take (07 R219). -/
def ikReaches (c : Chip) (a : Nat) (m : ModelCfg) (target : Bytes) : Bool :=
  let g := rigOf c a m
  let j : Job := { id := 0, type := 3, arm := a, host := false, inputs := target }
  (ikRun g target (warmStart g (c.sarm a) j).1 66 none).any (fun x => mbit x.flags 0)

/-- An arm's candidate grip position (08 R234): whether a move from the end of its chain is there in time under its class is free. -/
def candidate (c : Chip) (k : Pick) (a : Nat) : Option Int :=
  match reachOf c a k, c.mcfg a with
  | some r, some m =>
    let lo := max r.1 (seenPos c k.line + travel (seenVel c k.line) (vget c.pcfg.arm a).tLead)
    let hi := min k.pLast r.2
    let step : Int := c.pcfg.pickStepMm * 256000
    if hi < lo then none else
    let from' := (chainState c a false).map (fun e => (e.1 * 65536).floor)
    ((List.range ((hi - lo) / step + 1).toNat).map (fun i => lo + step * i)).find? (fun p =>
      ikReaches c a m (poseBytes (inBase m (gripPose c a k p))) && Config.moveFits a (seenClass c a) p from')
  | _, _ => none

/-- The arm and the grip position: smallest position, then lowest arm (08 R234). -/
def bestCandidate (c : Chip) (k : Pick) : Option (Nat × Int) :=
  ((List.range 12).filter (eligible c k)).foldl (fun b a =>
    match candidate c k a, b with
    | some p, some (x, q) => if p < q then some (a, p) else some (x, q)
    | some p, none => some (a, p)
    | none, _ => b) none

/-- Lines a segment depends on (08 R240), each once. -/
def segLines (c : Chip) (a : Nat) (item : Option Nat) (span : Option Nat) : List Nat :=
  (span.toList ++ item.toList ++ [(vget c.pcfg.arm a).refLine]).dedup

/-- Sample instants of a segment from its start to its end, by the sample step (08 R250). -/
def sampleTimes (c : Chip) (t0 t1 : Int) : List Int :=
  let step : Int := c.pcfg.sampleMs * 1000000
  ((List.range ((t1 - t0) / step).toNat).map (fun i => t0 + step * i)) ++ [t1]

/-- σ of a segment at a predicted instant. -/
def sigmaAt (c : Chip) (s : Seg) (t0 t : Int) : Rat :=
  if s.lineSpan then (((seenEst c s.line).pos t - s.start : Int) : Rat) else mkRat (t - t0) 1000

/-- A point lies in a zone's box enlarged by its margin and the tool radius (08 R250). -/
def inZone (c : Chip) (a : Nat) (z : ZoneCfg) (x : R3) : Bool :=
  let e := word lenF (z.margin + (vget c.pcfg.arm a).toolRadius)
  let f := fun (v lo hi : Rat) => decide (lo - e ≤ v) && decide (v ≤ hi + e)
  let lo := len3 z.boxMin
  let hi := len3 z.boxMax
  f x.1 lo.1 hi.1 && f x.2.1 lo.2.1 hi.2.1 && f x.2.2 lo.2.2 hi.2.2

/-- The reservations a new segment asks for (08 R250): between its first and last sample in a zone, widened by one step, in positions of
the zone's line. -/
def zoneNeeds (c : Chip) (g : Rig) (s : Seg) (t0 t1 : Int) : List Resv :=
  let st := chainState c s.owner s.lineSpan
  let step : Int := c.pcfg.sampleMs * 1000000
  let pts := (sampleTimes c t0 t1).map (fun t => (t, testPoints c g (segJoints g s st (sigmaAt c s t0 t))))
  (c.cfg.zones.filter (fun z => mbit z.arms s.owner)).filterMap (fun z =>
    let ins := (pts.filter (fun p => p.2.any (inZone c s.owner z))).map (·.1)
    match ins.head?, ins.getLast? with
    | some x, some y =>
      let lo := (seenEst c z.line).pos (x - step)
      let hi := (seenEst c z.line).pos (y + step)
      some { zone := z.id, arm := s.owner, seg := s.id, lo := min lo hi, hi := max lo hi }
    | _, _ => none)

/-- The TCP along a LINE segment beside the item's point (08 R236): their distance at a part of the span. -/
def trackError (c : Chip) (g : Rig) (k : Pick) (s : Seg) (u : Rat) : Rat :=
  let q := segJoints g s (chainState c s.owner s.lineSpan) (u * spanOf s)
  norm3 (sub3 ((basePose g.m).at (fkPose g q).p) (gripPose c s.owner k (s.start + u * s.span)).p)

/-- A segment that follows the item from its start to its end stays within the track tolerance at its middle and quarter points. -/
def trackOk (c : Chip) (g : Rig) (k : Pick) (s : Seg) : Bool :=
  let near := fun (u : Rat) => decide (trackError c g k s u ≤ word lenF c.pcfg.trackTol)
  !(s.lineSpan && s.line = k.line && near 0 && near 1) || (near (1 / 4) && near (1 / 2) && near (3 / 4))

/-- The record of a plan as a segment of an arm (08 R235): what the record leaves outside its format is brought into it. -/
def toSeg (c : Chip) (a id tag : Nat) (item : Option Nat) (r : List Int) : Seg :=
  let isLine := r.getD 0 0 % 2 = 1
  let line := (r.getD 1 0).toNat % 4
  let flags := (r.getD 4 0).toNat % 4
  let pred := (armSegs c a).getLast?.map (·.id)
  let lines := segLines c a item (if isLine then some line else none)
  { id := id, pred := pred, owner := a, lineSpan := isLine, line := if isLine then line else 255, endRest := mbit flags 0,
    checkpoint := mbit flags 1, cls := seenClass c a, start := if isLine then r.getD 2 0 else 0,
    span := if isLine then (if r.getD 3 0 = 0 then 1 else r.getD 3 0) else clampI 31250 10000000000 (r.getD 3 0), tag := tag,
    axes := (List.range (nPresent c a)).map (fun i => (r.getD (6 + 2 * i) 0, if mbit flags 0 then 0 else r.getD (7 + 2 * i) 0)),
    sigAssumed := (c.sarm a).signature, vAssumed := seenVel c (vget c.pcfg.arm a).refLine,
    lines := lines.map (fun l => (l, seenVel c l, vget c.planner.presets l)),
    startAt := c.planner.snap.plant + clampI 0 (horizonMs c * 1000000) (r.getD 5 0) }

/-- The pose that a segment of a pick ends at: over the item or the place on its line; else a pose of the planner's (08 R232, R234). -/
def segTarget (c : Chip) (m : ModelCfg) (s : Seg) : Bytes :=
  match findPick c s.tag with
  | some k =>
    if s.lineSpan && s.line = k.line then poseBytes (inBase m (gripPose c s.owner k (s.start + s.span)))
    else if s.lineSpan && mbit (byteN k.raw 7) 2 && s.line = byteN k.raw 40 then poseBytes (inBase m (placePose c s.owner k (s.start + s.span)))
    else if s.final then poseBytes (inBase m (placePose c s.owner k (ri k.raw 44 8)))
    else Config.planPose s.owner s.id
  | none => Config.planPose s.owner s.id

/-- The jobs of a new segment (08 R234, R236, R250): IK at its end, FK at the quarter points of a LINE span, PATH_CHECK. -/
def segJobs (c : Chip) (g : Rig) (s : Seg) : List (Nat × Bytes) :=
  let st := chainState c s.owner s.lineSpan
  let words := fun (u : Rat) => ((g.joints.zip (segJoints g s st (u * spanOf s))).map (fun p => leI 4 (extract (posF p.1) p.2).1)).flatten
  [(3, segTarget c g.m s)] ++ (if s.lineSpan then [1 / 4, 1 / 2, 3 / 4].map (fun u => (1, words u)) else []) ++ [(8, [])]

/-- A planner job enters the queue. -/
def pushPlanJob (s : Seg) (cap deadline : Nat) (c : Chip) (j : Nat × Bytes) : Chip :=
  pushJob c { id := freshJob c, type := j.1, arm := s.owner, host := false, cap := cap, inputs := j.2, tag := s.tag, deadline := deadline,
              submitted := c.now, seg := some s.id }

/-- A segment is proposed if the pool, the queue of jobs, its lines and the horizon allow it (07 R209, 08 R237, R238, R248, R250); true
tells that it was refused, for more than four zones or a deviation beyond the track tolerance. -/
def propose (c : Chip) (a tag : Nat) (item : Option Nat) (recovery final : Bool) (r : List Int) : Option (Chip × Bool) :=
  let id := c.planner.nextSeg
  let s := { toSeg c a id tag item r with recovery := recovery, final := final }
  match c.mcfg a with
  | none => none
  | some m =>
    let g := rigOf c a m
    let jobs := segJobs c g s
    if 256 ≤ (pooled c).length || quotaOf c a ≤ armPooled c a || s.lines.any (fun l => seenSt c l.1 ≠ .valid)
      || !queueRoom c jobs.length || !m.valid then none else
    match startInstant c s with
    | none => none
    | some t =>
      match endInstant c s t with
      | none => none
      | some e =>
        if c.planner.snap.plant + horizonMs c * 1000000 < t then none else
        let l := (vget c.pcfg.arm a).refLine
        let s := { s with startAt := t, commitPos := (seenEst c l).pos t - commitLead c s.vAssumed, jobsLeft := jobs.length }
        let need := zoneNeeds c g s t e
        let off := match findPick c tag with | some k => !recovery && !trackOk c g k s | none => false
        let c := c.onPlanner (fun p => { p with nextSeg := (id + 1) % 2147483648 })
        if 4 < need.length || off then some (c, true) else
        let full := 1024 < c.planner.resv.length + need.length
        let c := c.onPlanner (fun p => { p with segs := p.segs ++ [s], resv := if full then p.resv else p.resv ++ need })
        let c := jobs.foldl (pushPlanJob s m.cap (c.localAt t)) c
        some (if full then squash c id 5 else c, false)

/-- The rest of a pick's plan is proposed as far as the horizon reaches. -/
def extend : Nat → Nat → Chip → Chip
  | 0, _, c => c
  | n + 1, id, c =>
    match findPick c id with
    | none => c
    | some k =>
      match k.todo, k.arm with
      | r :: rest, some a =>
        (match propose c a id (some k.line) false rest.isEmpty r with
         | none => c
         | some (c, true) => takeFree (onPick c id (fun k => { k with todo := Config.planSegments a id k.grip c.free }))
         | some (c, false) =>
           extend n id (onPick c id (fun k => { k with
             todo := if k.arm = some a then rest else k.todo, st := if k.st = .pending && k.arm = some a then .planned else k.st })))
      | _, _ => c

/-- An ACTIVE pick whose rest was squashed is planned on from its committed end (08 R244, R246). -/
def unfinished (c : Chip) (k : Pick) : Bool :=
  k.st = .active && k.todo.isEmpty && !(c.planner.segs.any (fun s => s.tag = k.id && s.live && (s.final || s.recovery)))

/-- Step 6 for one pick. -/
def planPickStep (c : Chip) (id : Nat) : Chip :=
  match findPick c id with
  | none => c
  | some k =>
    if k.cancelling then c else
    let plan := fun (a : Nat) (p : Int) => takeFree (onPick c id (fun k => { k with
      arm := some a, grip := p, todo := Config.planSegments a id p c.free }))
    let c := if k.st = .pending && k.arm.isNone then
        match bestCandidate c k with | some (a, p) => plan a p | none => c
      else if unfinished c k then match k.arm with | some a => plan a k.grip | none => c
      else c
    match findPick c id with
    | none => c
    | some k =>
      let c := extend k.todo.length id c
      match findPick c id with
      | some k => if k.st = .pending then onPick c id (fun k => { k with arm := none, todo := [] }) else c
      | none => c

/-- The record that brings an arm to rest at its park pose, tool joints where they are (08 R231, R246), in a free time. -/
def parkRecord (c : Chip) (a : Nat) (m : ModelCfg) : List Int :=
  let park := (vget c.pcfg.arm a).park
  let ends := (presentIdx m (c.sarm a).present).flatMap (fun i =>
    let j := m.joints.getD i {}
    let p := if mbit j.flags 1 then (c.pax j.joint).p else countsOf j (word (posF j) (park.getD i 0))
    [let v := p * 65536; quot 16 v.num v.den, 0])
  [0, 255, 0, Config.recoverySpan a c.free, 1, 0] ++ ends

/-- The recovery segment of an arm whose committed chain ends in motion after a squash (08 R246): toward the next feasible pick, else
to rest at the park pose. -/
def recover (c : Chip) (order : List Nat) (a : Nat) : Chip :=
  match (armSegs c a).getLast?, c.mcfg a with
  | some s, some m =>
    if s.st ≠ .committed || s.endRest then c else
    let next := order.find? (fun id => match findPick c id with
      | some k => k.st = .pending && !k.cancelling && (bestCandidate c k).any (fun b => b.1 = a)
      | none => false)
    let c1 := match next with | some id => planPickStep c id | none => c
    if (armSegs c1 a).getLast?.map (·.id) ≠ some s.id then c1 else
    match propose (takeFree c1) a s.tag none true false (parkRecord c1 a m) with
    | some (c2, false) => c2
    | _ => c1
  | _, _ => c

/-- Which pick is tried first (08 R234). -/
def pickBefore (x y : Pick) : Bool := if x.priority ≠ y.priority then x.priority else x.pLast ≤ y.pLast

/-! ### The tick (08 R228, R229) -/

/-- Step 1: cancels (08 R260). -/
def applyCancel (c : Chip) (id : Nat) : Chip :=
  match findPick c id with
  | none => c
  | some k =>
    let c := onPick c id (fun k => { k with cancelling := true, todo := [] })
    let c := (pickSegs c id .proposed).foldl (fun c s => squash c s.id 1) c
    match findPick c id with
    | some _ => if (pickSegs c id .committed).isEmpty then cancelPick c k else c
    | none => c

/-- A pick whose line has passed is missed (08 R234, R256). -/
def checkMissed (c : Chip) (id : Nat) : Chip :=
  match findPick c id with
  | none => c
  | some k =>
    if !(k.st = .pending || k.st = .planned) || seenPos c k.line ≤ k.pLast - commitLead c (seenVel c k.line) then c else
    let could := k.st = .pending && (List.range 12).any (eligible c k)
    let c := missPick c k (if could then 2 else 0)
    if could then setLevel c 2 else c

/-- PROPOSED segments planned again when the class rises (08 R247, REPLAN_ON_RAISE). -/
def replan (c : Chip) : Chip :=
  if !c.pcfg.replanOnRaise || c.planner.level ≠ 0 then c else
  c.planner.segs.foldl (fun c s =>
    let l := (vget c.pcfg.arm s.owner).refLine
    let gap := if 0 ≤ seenVel c l then s.commitPos - seenPos c l else seenPos c l - s.commitPos
    if s.st = .proposed && s.cls < seenClass c s.owner && (travel (seenVel c l) 8000).natAbs < gap then squash c s.id 4 else c) c

/-- The steps of a tick. -/
def tickSteps (c : Chip) : Chip :=
  let c := c.planner.cancels.foldl applyCancel c
  let c := releaseResv (c.onPlanner (fun p => { p with cancels := [] }))
  let c := (c.planner.picks.map (·.id)).foldl checkMissed c
  let c := replan ((c.planner.segs.map (·.id)).foldl judgeSeg c)
  let c := c.cfg.zones.foldl arbitrate c
  let c := (c.planner.segs.map (·.id)).foldl commitSeg c
  let c := if accepting c then
      let order := (c.planner.picks.insertionSort (fun x y => pickBefore x y)).map (·.id)
      order.foldl planPickStep (((c.planner.roots.map (·.1)).dedup).foldl (fun c a => recover c order a) c)
    else c
  let c := postSquashes c
  c.onPlanner (fun p => { p with segs := p.segs.filter (fun s => s.live || p.tick + 1 ≤ s.freedTick), tick := p.tick + 1 })

def tickOp (c : Chip) : Chip :=
  let due := c.active && holdsToken c && c.cfg.plan.isSome && decide (c.cyc % Config.tickCycles c.cfg.sys.period = 0) && c.planner.tickAt ≠ some c.cyc
  if !due then c else
  let c := c.onPlanner (fun p => { p with tickAt := some c.cyc })
  let c := if c.planner.snap.cyc = some c.cyc then c else snapPlan c
  if c.planner.late then countPlan (c.onPlanner (fun p => { p with late := false })) 0 1
  else
    let p0 := c.planner
    let c := takeFree ((tickSteps c).onPlanner (fun p => { p with late := Config.tickLate c.free }))
    if mirrors c then queueItem c 0x0103 (c.count + 2) (Config.planDeltaOut p0 c.planner) else c

def execPlannerTick : State → Host.Outcome State Fault Refusal := run tickOp

/-- The load of a window of 100 ms, Q16.16 % (08 R256). -/
def loadOp (load : Nat) (c : Chip) : Chip :=
  let pc := fun (n : Nat) => n * 65536
  let p := c.planner
  let low := if p.level = 1 then load < pc 70 else load < pc 85
  let calm := if low then p.calm + 1 else 0
  let c := c.onPlanner (fun p => { p with load := load, calm := calm })
  match p.level with
  | 0 => if pc 98 < load then setLevel c 2 else if pc 85 < load then setLevel c 1 else c
  | 1 => if pc 98 < load then setLevel c 2 else if 10 ≤ calm then setLevel c 0 else c
  | _ => if 10 ≤ calm then setLevel c 1 else c

def execPlannerLoadWindow (load : Nat) : State → Host.Outcome State Fault Refusal :=
  run fun c => if c.active then loadOp load c else c

/-- A core leaves service (08 R257). -/
def coreOp (k : Nat) (isFault : Bool) (c : Chip) : Chip :=
  if vget c.planner.core k ≠ .inService then c else
  let c := c.onPlanner (fun p => { p with core := vset p.core k (if isFault then .failed else .underTest) })
  if coresIn c = 0 then raiseFault c 0x0702 true 0xFF else raiseFault c 0x0701 false k

def execPlannerCoreRemoved (core : Fin 8) (isFault : Bool) : State → Host.Outcome State Fault Refusal := run (coreOp core isFault)

/-! ### Commands (08 R259, R260) -/

/-- The layout of a pick request (08 R232). -/
def layPick : Bytes → Bool := lay 72 fun b =>
  let onLine := mbit (byteN b 7) 2
  [ru b 4 2 < 4096, byteN b 7 < 8, bLe b 6 3, rsv b 41 3,
   if onLine then bLe b 40 3 && rsv b 64 4 else byteN b 40 = 0xFF && rsv b 44 8]

/-- PLAN_PICK. -/
def bodyPick (q : Req) (c : Chip) : Reply :=
  let b := q.payload
  let l := byteN b 6
  let arms := (List.range 12).filter (mbit (ru b 4 2))
  let id := ru b 0 4
  let heavy := arms.all (fun a => match c.mcfg a with | some m => decide (m.payMax < ri b 36 4) | none => true)
  let prio := mbit (byteN b 7) 0
  let bars := firstFail [
    (!accepting c, Status.refusedState),
    (arms.isEmpty || arms.any (fun a => (c.ocfg a).isNone) || !lineEnabled c l || lineMod c l ≠ 0
      || decide (ri b 28 8 < linePos c l) || heavy || (mbit (byteN b 7) 2 && !lineEnabled c (byteN b 40)), .badParam),
    ((findPick c id).isSome, .busy),
    (1024 ≤ c.planner.picks.length || (c.planner.level = 2 && !prio), .noResource)]
  match bars with
  | some st => refuse c st
  | none =>
    let k : Pick := {
      id := id, mask := ru b 4 2, line := l, priority := prio, reassign := mbit (byteN b 7) 1, pItem := ri b 8 8, pLast := ri b 28 8,
      payload := ri b 36 4, raw := b, tag := ru b 68 4 }
    answer (c.onPlanner (fun p => { p with picks := p.picks ++ [k] })) .ok (le 4 id)

def execPlanPick (q : Req) : State → Host.Outcome State Fault Refusal := host 0x0701 8 layPick bodyPick q

/-- PLAN_CANCEL_PICK: the cancel itself is applied at the next tick (08 R228). -/
def bodyCancelPick (q : Req) (c : Chip) : Reply :=
  let id := ru q.payload 0 4
  match findPick c id with
  | none => refuse c .refusedState
  | some _ =>
    let c' := c.onPlanner (fun p => { p with cancels := p.cancels ++ [id] })
    if (pickSegs c id .committed).isEmpty then answer c' .ok (le 1 5) else answer c' .partly (le 1 2)

def execPlanCancelPick (q : Req) : State → Host.Outcome State Fault Refusal :=
  host 0x0702 5 (lay 4 fun _ => []) bodyCancelPick q

/-- PLAN_GET_PICK. -/
def bodyGetPick (q : Req) (c : Chip) : Reply :=
  let id := ru q.payload 0 4
  match findPick c id with
  | none => refuse c .badParam
  | some k =>
    let segs := c.planner.segs.filter (fun s => s.tag = id && s.live)
    answer c .ok (le 1 k.st.code ++ le 1 (k.arm.getD 0xFF) ++ le 2 segs.length ++ leI 8 k.grip
      ++ le 4 (match segs with | s :: _ => s.id | [] => 0xFFFFFFFF))

def execPlanGetPick (q : Req) : State → Host.Outcome State Fault Refusal :=
  host 0x0703 20 (lay 4 fun _ => []) bodyGetPick q

/-- PLAN_GET_SEGMENT. -/
def bodyGetSegment (q : Req) (c : Chip) : Reply :=
  match findSeg c (ru q.payload 0 4) with
  | none => refuse c .badParam
  | some s => answer c .ok (le 1 s.st.code ++ le 1 s.cause ++ le 2 (if s.live then assumptions c s else s.held)
      ++ leI 8 s.commitPos ++ leI 8 s.vAssumed ++ segBytes s)

def execPlanGetSegment (q : Req) : State → Host.Outcome State Fault Refusal :=
  host 0x0704 256 (lay 4 fun _ => []) bodyGetSegment q

/-- PLAN_GET_STATUS. -/
def bodyPlanStatus (_ : Req) (c : Chip) : Reply :=
  let p := c.planner
  answer c .ok (le 1 p.level ++ le 1 (coresIn c) ++ le 2 (horizonMs c) ++ le 2 (pooled c).length
    ++ le 2 p.picks.length ++ le 4 p.load ++ (p.cnt.toList.map (le 4)).flatten
    ++ le 4 (vget c.mb.classP 4) ++ le 4 (vget c.mb.classP 5) ++ le 4 (vget c.mb.classP 0))

def execPlanGetStatus (q : Req) : State → Host.Outcome State Fault Refusal := host 0x0705 48 layNone bodyPlanStatus q

/-- ZONE_GET. -/
def bodyZone (q : Req) (c : Chip) : Reply :=
  let z := byteN q.payload 0
  if !(c.active && c.cfg.zones.any (fun k => k.id = z)) then refuse c .badParam else
  let rs := c.planner.resv.filter (fun r => r.zone = z)
  let out := (rs.drop (byteN q.payload 1)).take 16
  answer c .ok (le 1 (min 255 rs.length) ++ le 1 out.length ++ zeros 2
    ++ ((List.range 12).map (fun a => le 1 (lossOf c z a).count)).flatten
    ++ le 2 (maskOf 12 (fun a => (lossOf c z a).priv.isSome)) ++ zeros 2
    ++ (out.map (fun r => le 1 r.arm ++ le 1 r.st.code ++ zeros 2 ++ le 4 r.seg ++ leI 8 r.lo ++ leI 8 r.hi)).flatten)

def execZoneGet (q : Req) : State → Host.Outcome State Fault Refusal :=
  host 0x0706 408 (lay 2 fun _ => []) bodyZone q

/-- PLAN_CLEAR_COUNTERS: the counters of PLAN_GET_STATUS. -/
def bodyPlanClear (_ : Req) (c : Chip) : Reply :=
  answer ((c.onPlanner (fun p => { p with cnt := Vector.replicate 5 0 })).onMb (fun m => { m with
    classP := vset (vset (vset m.classP 0 0) 4 0) 5 0 })) .ok

def execPlanClearCounters (q : Req) : State → Host.Outcome State Fault Refusal := host 0x0707 4 layNone bodyPlanClear q

end Sys2Proof.Machine
end

