-- ==== Sys2Proof/Machine/Sections.lean ====
section
/-!
DEFINITION. The bodies of the image sections, read from their bytes as their chapters lay them out. A body that does not follow its
layout reads as none: the section fails (17 R478). Where the spec lays a section out only in part or not at all, the reading of its bytes
is a free value (log 20).
-/

namespace Sys2Proof.Config

/-! ### Sections without a layout in the spec -/

/-- Section 0x01, and the schedule of the class C jobs that the image carries (07 R207, R223): arm, tile, the tile of the degraded
placement, in image order. -/
opaque systemSection : Bytes → Option (SysCfg × List (Nat × Nat × Option Nat))
/-- Sections 0x02 and 0x03. -/
opaque lineSection : Bytes → Option LinesCfg
opaque timeSection : Bytes → Option PtimeCfg
/-- Section 0x06 of an arm or auxiliary axis: its figures, and its axes with their numbers. -/
opaque axisSection : Nat → Bytes → Option (OwnerCfg × List (Nat × AxisCfg))
/-- Section 0x08 before and beside its arm planner records: the other fields, offset and number of the records. -/
opaque plannerSection : Bytes → Option (PlanCfg × Nat × Nat)
/-- Sections 0x0A (tables of 256 values) and 0x0B (channels named, mask). -/
opaque stepperSection : Bytes → Option (Vector (Option (List Nat)) 4)
opaque weighSection : Bytes → Option Nat
/-- Section 0x87 and what else the image says of connections: A_link, entries (ID, kind, t_wd), produced cell-link connections. -/
opaque connSection : Bytes → Option (Nat × List (Nat × Nat × Nat) × List (Nat × Nat × List Nat))
/-- The range analysis of an arm model succeeds (07 R199: Glopo's bounds over an envelope that the section does not hold). -/
opaque rangesFit : Bytes → Bool

end Sys2Proof.Config

namespace Sys2Proof.Machine

open Sys2Proof

/-- `n` records of `w` bytes at `off`. -/
def records {α : Type} (b : Bytes) (off w n : Nat) (f : Bytes → α) : List α := (List.range n).map (fun i => f (slice b (off + w * i) w))

/-! ### The slot table (04 R108) -/

/-- A port entry of 8 bytes. -/
def readPort (b : Bytes) : PortEntry :=
  let m := byteN b 1
  { a := byteN b 0, chA := mbit m 0, chB := mbit m 1, claim := mbit m 2, pdu := mbit m 3, kUp := byteN b 2 % 16, kDn := byteN b 2 / 16,
    h := byteN b 3, tPrep := ru b 4 2, dMax := ru b 6 2 }

/-- The slot table; its length follows from its counts, its reserved fields are 0, and its ID is its own CRC-32C. -/
def readSlots (b : Bytes) : Option SlotTable :=
  let n := byteN b 3
  let nf := byteN b 4
  let np := byteN b 5
  let ports := 16 + 4 * n
  let fwd := ports + 192
  let claims := fwd + 4 * nf
  let slotB := records b 16 4 n id
  let portB := records b ports 8 24 id
  let fwdB := records b fwd 4 nf id
  let claimB := records b claims 16 np id
  let wellFormed := b.length = claims + 16 * np && nf ≤ 64 && np ≤ 8 && rsv b 6 2 && rsv b 12 4
    && slotB.all (fun x => byteN x 1 < 2 && rsv x 2 2) && portB.all (fun x => byteN x 1 < 16) && fwdB.all (fun x => byteN x 3 < 4)
    && claimB.all (fun x => rsv x 2 2 && rsv x 12 4)
    && ru b 8 4 = crc32c (patch b 8 (zeros 4))
  if !wellFormed then none else
  let ps := portB.map readPort
  some { version := ru b 0 2, period := byteN b 2, tableId := ru b 8 4,
         slots := slotB.map (fun x => (byteN x 0, byteN x 1 = 1)),
         port := Vector.ofFn (fun i : Fin 24 => ps.getD i.val {}),
         fwd := fwdB.map (fun x => (byteN x 0, byteN x 1, byteN x 2, byteN x 3)),
         claims := claimB.map (fun x => (byteN x 0, byteN x 1, ru x 4 4, ru x 8 4)) }

/-! ### A loop program (05 R162) -/

/-- The header of 64 bytes and the code behind it, a bundle of 8 bytes each. -/
def readProgram (inst : Nat) (b : Bytes) : Option Program :=
  let n := ru b 4 2
  let wellFormed := ru b 0 2 = 1 && byteN b 2 < 2 && byteN b 3 < 2 && 1 ≤ n && n ≤ 16384 && b.length = 64 + 8 * n
    && ru b 6 2 ≤ 2048 && ru b 6 2 % 4 = 0 && ru b 8 2 ≤ 4096 && ru b 8 2 % 4 = 0 && ru b 10 2 ≤ 61440 && byteN b 24 < 2 && rsv b 25 7
  if !wellFormed then none else
  some { identity := ru b 16 4, inst := inst, version := ru b 20 4, q15 := byteN b 2 = 1, kx24 := mbit (byteN b 3) 0,
         custom := byteN b 24 = 1, stateBytes := ru b 6 2, coefBytes := ru b 8 2, scratch := ru b 10 2, wcet := ru b 12 4,
         digest := slice b 32 32, code := records b 64 8 n (fun x => (BitVec.ofNat 32 (ru x 0 4), BitVec.ofNat 32 (ru x 4 4))) }

/-! ### An arm model (07 R201-R205) -/

def readVec (b : Bytes) (o : Nat) : Vec3 := (ri b o 4, ri b (o + 4) 4, ri b (o + 8) 4)
def readQuat (b : Bytes) (o : Nat) : Quat := (ri b o 4, ri b (o + 4) 4, ri b (o + 8) 4, ri b (o + 12) 4)

/-- A joint record of 128 bytes. -/
def readJoint (b : Bytes) : JointRec :=
  { parent := byteN b 0, type := byteN b 1, axis := byteN b 2, flags := byteN b 3, joint := byteN b 4, transl := readVec b 8,
    rot := readQuat b 20, scaleM := ri b 36 3, scaleE := ri b 39 1, offset := ri b 40 8, qMin := ri b 48 4, qMax := ri b 52 4,
    seed := ri b 56 4, mass := ri b 60 4, com := readVec b 64, inertia := (List.range 6).map (fun i => ri b (76 + 4 * i) 4),
    jRot := ri b 100 4, fV := ri b 104 4, fC := ri b 108 4, vBand := ri b 112 4, mNom := ri b 116 4 }

/-- A delta block of 64 bytes. -/
def readDelta (b : Bytes) : DeltaCfg :=
  { baseR := ri b 0 4, platR := ri b 4 4, upper := ri b 8 4, lower := ri b 12 4, upperInertia := ri b 16 4, lowerMass := ri b 20 4,
    share := ri b 24 4, platMass := ri b 28 4, angle := ri b 32 4 }

/-- A norm within 2^-20 of 1, of a quaternion in 2^-30. -/
def unitQuat (q : Quat) : Bool :=
  let (w, x, y, z) := q
  let n := w * w + x * x + y * y + z * z
  (2 ^ 30 - 2 ^ 10) ^ 2 ≤ n && n ≤ (2 ^ 30 + 2 ^ 10) ^ 2

/-- Reserved fields and values of a joint record; of a delta arm also those of R204. -/
def jointFormat (delta : Bool) (b : Bytes) : Bool :=
  byteN b 1 < 2 && byteN b 2 < 6 && byteN b 3 < 8 && byteN b 4 < 96 && rsv b 5 3 && rsv b 120 8
    && (!delta || (byteN b 0 = 255 && byteN b 1 = 0 && rsv b 8 28 && rsv b 60 40))

/-- Tool joints form an unbranched chain at the end of the records, from the last non-tool joint on. -/
def toolChain (l : List JointRec) : Bool :=
  let tool := fun (i : Nat) => mbit (l.getD i {}).flags 1
  let k := ((List.range l.length).filter (fun i => !tool i)).length
  (List.range l.length).all (fun i => tool i = decide (k ≤ i) && (i < k || decide (0 < i) && (l.getD i {}).parent = i - 1))

/-- The checks of R205 on joint records; `axes`: the joints of this arm. -/
def jointsOk (axes : List Nat) (delta : Bool) (l : List JointRec) : Bool :=
  (List.range l.length).all (fun i =>
    let j := l.getD i {}
    (j.parent = 255 || j.parent < i) && (delta || unitQuat j.rot) && j.qMin < j.qMax && j.qMin ≤ j.seed && j.seed ≤ j.qMax
      && 0 < j.vBand && 0 < j.mNom && (!mbit j.flags 2 || mbit j.flags 1) && (!mbit j.flags 0 || j.type = 0))
    && toolChain l && (l.map (·.joint)).isPerm axes && axes.Nodup

/-- A model section of arm `a` whose joints are `axes`. -/
def readModel (a : Nat) (axes : List Nat) (b : Bytes) : Option ModelCfg :=
  let n := byteN b 4
  let delta := byteN b 3 = 2
  let tool := 96 + 128 * n
  let recs := records b 96 128 n id
  let js := recs.map readJoint
  let format := ru b 0 2 = 1 && byteN b 2 = a && (byteN b 3 = 1 || byteN b 3 = 2) && 1 ≤ n && n ≤ 12 && (!delta || n = 4)
    && b.length = tool + 96 + (if delta then 64 else 0) && byteN b 5 < 64 && 1 ≤ byteN b 6 && byteN b 6 ≤ 64 && rsv b 7 1
    && ru b 84 4 < 2 ^ 20 && rsv b 88 8 && recs.all (jointFormat delta) && rsv b (tool + 72) 24 && (!delta || rsv b (tool + 96 + 36) 28)
  let sound := byteN b 5 ≠ 0 && unitQuat (readQuat b 36) && unitQuat (readQuat b (tool + 16)) && jointsOk axes delta js
    && Config.rangesFit b
  if !(format && sound) then none else
  some { delta := delta, taskMask := byteN b 5, cap := byteN b 6, generation := ru b 8 4, gravity := readVec b 12, baseT := readVec b 24,
         baseRot := readQuat b 36, tolP := ri b 52 4, tolO := ri b 56 4, lW := ri b 60 4, lamMax := ri b 64 4, eps := ri b 68 4,
         epsM := ri b 72 4, reg := ri b 76 4, payMax := ri b 80 4, shifts := ru b 84 4, joints := js, tool := slice b tool 96,
         block := if delta then readDelta (slice b (tool + 96) 64) else {} }

/-- A model that fails (07 R205): its arm keeps its joints. -/
def failedModel (axes : List Nat) : ModelCfg := { valid := false, joints := axes.map (fun x => { joint := x }) }

/-! ### Planner, zones, pair, self-test (08 R231, R249; 13 R390; 14 R415) -/

/-- An arm planner record of 192 bytes, with its arm. -/
def readArmPlan (b : Bytes) : Option (Nat × ArmPlan) :=
  let n := byteN b 2
  let quota := ru b 4 2
  let reach := records b 16 8 4 (fun x => (ri x 0 4, ri x 4 4))
  let format := byteN b 0 < 12 && byteN b 1 < 4 && n ≤ 4 && rsv b 3 1 && (quota = 0 || (4 ≤ quota && quota ≤ 256)) && rsv b 6 2
    && 1000 ≤ ru b 8 4 && ru b 8 4 ≤ 100000 && 0 ≤ ri b 12 4 && ri b 12 4 ≤ 2 ^ 25
    && reach.all (fun r => r.1 < r.2 || r = (0, 0)) && (List.range 4).all (fun i => rsv b (97 + 16 * i) 3)
    && rsv b (96 + 16 * n) (64 - 16 * n) && rsv b 160 32
  if !format then none else
  some (byteN b 0, { refLine := byteN b 1, quota := quota, tLead := ru b 8 4, toolRadius := ri b 12 4,
                     reach := Vector.ofFn (fun i : Fin 4 => reach.getD i.val (0, 0)), park := records b 48 4 12 (fun x => ri x 0 4),
                     links := records b 96 16 n (fun x => (byteN x 0, readVec x 4)) })

/-- The planner section. -/
def readPlanner (b : Bytes) : Option PlanCfg :=
  (Config.plannerSection b).bind (fun h =>
    let (g, off, n) := h
    let l := records b off 192 n readArmPlan
    if n ≤ 12 && off + 192 * n ≤ b.length && l.all (·.isSome) then
      some ((l.filterMap id).foldl (fun g e => { g with arm := vset g.arm e.1 e.2 }) g)
    else none)

/-- A zone record of 48 bytes. -/
def readZone (b : Bytes) : ZoneCfg :=
  { id := byteN b 0, line := byteN b 1, arms := ru b 2 2, coupled := mbit (byteN b 4) 0, name := slice b 8 8, boxMin := readVec b 16,
    boxMax := readVec b 28, margin := ri b 40 4 }

def zoneFormat (b : Bytes) : Bool :=
  let z := readZone b
  let n := (indices 12 (mbit z.arms)).length
  z.line < 4 && z.arms < 4096 && 1 ≤ n && n ≤ 9 && byteN b 4 < 2 && rsv b 5 3 && z.boxMin.1 < z.boxMax.1
    && z.boxMin.2.1 < z.boxMax.2.1 && z.boxMin.2.2 < z.boxMax.2.2 && 0 ≤ z.margin && z.margin ≤ 2 ^ 25 && rsv b 44 4

/-- The zone records. -/
def readZones (b : Bytes) : Option (List ZoneCfg) :=
  let n := b.length / 48
  let l := records b 0 48 n id
  if b.length = 48 * n && n ≤ 256 && l.all zoneFormat then some (l.map readZone) else none

/-- The pair record of 64 bytes. -/
def readPair (b : Bytes) : Option PairCfg :=
  let format := b.length = 64 && ru b 0 2 = 1 && (byteN b 2 = 1 || byteN b 2 = 2) && rsv b 3 1 && byteN b 12 &&& byteN b 13 = 0
    && byteN b 14 &&& byteN b 15 = 0 && 500 ≤ ru b 16 2 && ru b 16 2 ≤ 10000 && 10 ≤ ru b 18 2 && ru b 18 2 ≤ 1000
    && 2 ≤ byteN b 20 && byteN b 20 ≤ 8 && 1 ≤ byteN b 21 && byteN b 21 ≤ 8 && rsv b 22 42
  if !format then none else
  some { identity := byteN b 2, partner := slice b 4 8, sensors1 := byteN b 12, sensors2 := byteN b 13, cells1 := byteN b 14,
         cells2 := byteN b 15, tPwait := ru b 16 2, tIso := ru b 18 2, w := byteN b 20, nDiv := byteN b 21 }

/-- The Sterling record of 8 bytes. -/
def readStest (b : Bytes) : Option StestCfg :=
  if b.length = 8 && 60 ≤ ru b 0 4 && ru b 0 4 ≤ 86400 && byteN b 4 < 64 && byteN b 5 < 2 && rsv b 6 2 then
    some { period := ru b 0 4, kinds := byteN b 4, reportPass := mbit (byteN b 5) 0 }
  else none

/-! ### Separation (10 R301, R308, R317, R326) -/

/-- A box6 (10 R301). -/
def box6 (w : Nat) : Box :=
  { xl := w % 512, xh := w / 2 ^ 9 % 512, yl := w / 2 ^ 18 % 512, yh := w / 2 ^ 27 % 512, zl := w / 2 ^ 36 % 64, zh := w / 2 ^ 42 % 64 }

def readBoxes (b : Bytes) (o n : Nat) : List Box := records b o 6 n (fun x => box6 (ru x 0 6))

/-- The global record and its static boxes, into the separation configuration. -/
def readSepGlobal (b : Bytes) (g : SepCfg) : Option SepCfg :=
  let n := byteN b 21
  let format := ru b 0 2 = 1 && 1 ≤ byteN b 3 && byteN b 3 ≤ 4 && 1 ≤ ru b 16 2 && ru b 16 2 ≤ 288 && 1 ≤ ru b 18 2 && ru b 18 2 ≤ 288
    && 1 ≤ byteN b 20 && byteN b 20 ≤ 64 && n ≤ 64 && byteN b 22 ≤ 16 && rsv b 23 1 && rsv b 36 28 && b.length = 64 + 6 * n
  if !format then none else
  some { g with nx := ru b 16 2, ny := ru b 18 2, nz := byteN b 20, origin := readVec b 4, statics := readBoxes b 64 n, nCross := byteN b 3,
                vH := ri b 24 4, m := ru b 28 4, tol := ru b 32 4 }

/-- A sensor record of 80 bytes, with its port. -/
def readSensor (b : Bytes) : Option (Nat × SensorCfg) :=
  let n := byteN b 2
  let format := byteN b 0 < 8 && byteN b 1 < 2 && 1 ≤ n && n ≤ 8 && rsv b 3 1 && rsv b 18 2 && 1000 ≤ ru b 20 4 && ru b 20 4 ≤ 200000
    && 2000 ≤ ru b 24 4 && ru b 24 4 ≤ 200000 && rsv b (28 + 6 * n) (48 - 6 * n) && rsv b 76 4
  if !format then none else
  some (byteN b 0, { fast := byteN b 1 = 1, conn := ru b 4 4, addr := ru b 8 4, own := ru b 12 4, port := ru b 16 2, tSens := ru b 20 4,
                     tSwd := ru b 24 4, cover := readBoxes b 28 n })

/-- A capsule record of 32 bytes. -/
def readCapsule (b : Bytes) : Capsule :=
  { frame := byteN b 0, table := byteN b 1, ax := ri b 4 4, ay := ri b 8 4, az := ri b 12 4, bx := ri b 16 4, by' := ri b 20 4,
    bz := ri b 24 4, r := ru b 28 4 }

def capsuleFormat (b : Bytes) : Bool :=
  byteN b 1 < 16 && rsv b 2 2 && 0 < ru b 28 4 && ru b 28 4 ≤ 2 ^ 26 && (!(0xF0 ≤ byteN b 0 && byteN b 0 ≤ 0xF2) || rsv b 4 24)

/-- A separation arm record of 800 bytes, with its arm. -/
def readSepArm (b : Bytes) : Option (Nat × SepArmCfg) :=
  let n := byteN b 2
  let caps := records b 288 32 n id
  let format := byteN b 0 < 12 && byteN b 1 < 2 && 1 ≤ n && n ≤ 16 && 1 ≤ byteN b 3 && byteN b 3 ≤ 16 && 100 ≤ ru b 4 4 && ru b 4 4 ≤ 20000
    && ru b 26 2 < 4096 && 0 ≤ ri b 28 4 && ri b 28 4 ≤ 2 ^ 25 && rsv b 132 12 && (List.range 12).all (fun i => rsv b (146 + 12 * i) 2)
    && caps.all capsuleFormat
  if !format then none else
  some (byteN b 0,
    { autoResume := byteN b 1 = 1, tDrv := ru b 4 4, cDist := ri b 8 4, zD := ri b 12 4, zR := ri b 16 4, hyst := ru b 20 4,
      nR := ru b 24 2, partners := ru b 26 2, cMin := ru b 28 4, v := Vector.ofFn (fun i : Fin 4 => ri b (32 + 4 * i.val) 4),
      tStop := Vector.ofFn (fun i : Fin 4 => ru b (48 + 4 * i.val) 4), sStop := Vector.ofFn (fun i : Fin 4 => ri b (64 + 4 * i.val) 4),
      sp := Vector.ofFn (fun i : Fin 4 => ru b (80 + 4 * i.val) 4), d := Vector.ofFn (fun i : Fin 4 => ru b (96 + 4 * i.val) 4),
      nTr := Vector.ofFn (fun i : Fin 10 => ru b (112 + 2 * i.val) 2),
      maps := records b 144 12 12 (fun x => ((ru x 0 2 : Int), ri x 8 4, ri x 4 3, ri x 7 1)), capsules := caps.map readCapsule })

/-- The envelope tables of a body, one behind the other: a header of 32 bytes and the entries, whose CRC-32C it holds. -/
def readTables : Nat → Bytes → Option (List EnvTable)
  | _, [] => some []
  | 0, _ => none
  | k + 1, b =>
    let n := byteN b 2
    let js := records b 4 4 n id
    let size := ru b 24 4
    let ents := slice b 32 (6 * size)
    let format := byteN b 0 < 12 && byteN b 1 < 16 && n ≤ 3 && rsv b 3 1
      && js.all (fun x => byteN x 1 < 16 && 1 ≤ byteN x 2 && byteN x 2 ≤ 64 && rsv x 3 1) && rsv b 22 2
      && size = (js.map (fun x => byteN x 2)).foldl (· * ·) 1 && 32 + 6 * size ≤ b.length && ru b 28 4 = crc32c ents
    if !format then none else
    (readTables k (b.drop (32 + 6 * size))).map (fun l =>
      { arm := byteN b 0, table := byteN b 1, entries := readBoxes ents 0 size,
        index := (List.range n).map (fun i => (byteN b (4 + 4 * i), byteN b (5 + 4 * i), byteN b (6 + 4 * i), ru b (16 + 2 * i) 2)) } :: l)

/-- The cap rules of 4 bytes. -/
def readCaps (b : Bytes) : Option (List (Nat × Nat × Nat)) :=
  let n := b.length / 4
  let l := records b 0 4 n (fun x => (byteN x 0, byteN x 1, ru x 2 2))
  if b.length = 4 * n && n ≤ 16 && l.all (fun r => r.1 < 16 && r.2.1 < 4 && r.2.2 < 4096) then some l else none

/-- The node limit table: three sets of eight limits per node. -/
def readLimits (b : Bytes) : Option (Vector (Vector (List Nat) 3) 24) :=
  if b.length = 1152 then
    some (Vector.ofFn (fun n : Fin 24 => Vector.ofFn (fun s : Fin 3 => records b (48 * n.val + 16 * s.val) 2 8 (fun x => ru x 0 2))))
  else none

/-! ### Safe I/O (11 R358) -/

/-- An input pair record of 12 bytes: of a pair that is no RESET pair its scope fields are reserved. -/
def readInPair (b : Bytes) : Option InPairCfg :=
  let src := fun (x : Nat) => x < 16 || x = 0xFF
  let format := byteN b 0 < 4 && byteN b 1 < 2 && 50 ≤ ru b 2 2 && ru b 2 2 ≤ 800 && 5 ≤ ru b 4 2 && ru b 4 2 ≤ 500 && src (byteN b 6)
    && src (byteN b 7) && (if byteN b 0 = 3 then byteN b 9 < 2 && ru b 10 2 < 4096 else rsv b 8 4)
  if !format then none else
  some { mode := byteN b 0, startTest := byteN b 1 = 1, tF := ru b 2 2, tDisc := ru b 4 2, src0 := byteN b 6, src1 := byteN b 7,
         scopeOut := byteN b 8, scopeDevice := byteN b 9 = 1, scopeArms := ru b 10 2 }

/-- An output pair record of 20 bytes. -/
def readOutPair (b : Bytes) : Option OutPairCfg :=
  let m := byteN b 1
  let format := byteN b 0 < 3 && m < 16 && ru b 6 2 < 4096 && (byteN b 8 < 8 || byteN b 8 = 0xFF) && 10 ≤ byteN b 9 && byteN b 9 ≤ 50
    && 1 ≤ byteN b 10 && rsv b 11 1 && rsv b 18 2
  if !format then none else
  some { mode := byteN b 0, manual := mbit m 0, autoOn := mbit m 1, sc0Off := mbit m 2, cat1 := mbit m 3, release := ru b 2 4,
         arms := ru b 6 2, edm := byteN b 8, pulse := byteN b 9, period := byteN b 10, tEdm := ru b 12 2, offMs := ru b 14 2,
         tCat1 := ru b 16 2 }

/-- The safe I/O record: a header of 16 bytes, 16 input and 8 output pair records. -/
def readSio (b : Bytes) (g : SioCfg) : Option SioCfg :=
  let ins := records b 16 12 16 readInPair
  let outs := records b 208 20 8 readOutPair
  if b.length = 368 && ru b 0 2 = 1 && rsv b 3 13 && ins.all (·.isSome) && outs.all (·.isSome) then
    some { g with
      k := byteN b 2, inp := Vector.ofFn (fun i : Fin 16 => (ins.getD i.val none).getD {}),
      out := Vector.ofFn (fun i : Fin 8 => (outs.getD i.val none).getD {}) }
  else none

end Sys2Proof.Machine
end

