-- ==== Sys2Proof/Machine/Separation.lean ====
section
/-!
DEFINITION. Speed and separation monitoring (chapter 10): sensor scans, Copper's and Iron's occupancy and distances, the classes, the
faults and the commands. Lengths are exact: a unit `u` is 2^-23 mm, so that a LEN32 step is 125 u and a voxel 50 · 2^23 u.
-/

namespace Sys2Proof.Machine

open Sys2Proof

def Chip.sepA (c : Chip) (a : Nat) : SepArm := vget c.sep.arm a
def Chip.sepCfg (c : Chip) (a : Nat) : Option SepArmCfg := if c.active then vget c.cfg.sep.arm a else none
def onSepArm (c : Chip) (a : Nat) (f : SepArm → SepArm) : Chip := c.onSep (fun s => { s with arm := vmod s.arm a f })
def onSensor (c : Chip) (p : Nat) (f : Sensor → Sensor) : Chip := c.onSep (fun s => { s with sensor := vmod s.sensor p f })
def Chip.scfg (c : Chip) (p : Nat) : Option SensorCfg := if c.active then vget c.cfg.sep.sensor p else none

/-- Configured arms of the separation function. -/
def sepArms (c : Chip) : List Nat := (List.range 12).filter (fun a => (c.sepCfg a).isSome)

/-- 1 mm and one LEN32 step in units u. -/
def mmU : Int := 8388608
def lenU : Int := 125

/-! ### Scans -/

def Box.has (b : Box) (x y z : Nat) : Bool :=
  b.xl ≤ x && x ≤ b.xh && b.yl ≤ y && y ≤ b.yh && b.zl ≤ z && z ≤ b.zh

/-- A run lies inside the grid and the sensor's coverage (10 R298, R299). -/
def runInside (g : SepCfg) (s : SensorCfg) (r : Run) : Bool :=
  1 ≤ r.len && r.len ≤ 64 && r.x < g.nx && r.y < g.ny && r.z + r.len ≤ g.nz
    && (List.range r.len).all (fun k => s.cover.any (fun b => Box.has b r.x r.y (r.z + k)))

/-- A run word (10 R298). -/
def runOf (w : Nat) : Run :=
  { x := w % 512, y := w / 512 % 512, z := w / 2 ^ 18 % 64, len := w / 2 ^ 24 % 128 }

/-- SEP_SENSOR (10 R328). -/
def postSensor (c : Chip) (p what : Nat) : Chip :=
  post c 5 0x0902 0xFF p (le 1 what ++ zeros 3 ++ le 4 (vget c.sep.sensor p).discarded)

/-- The scan in progress is discarded as a whole (10 R299). -/
def dropScan (c : Chip) (p : Nat) : Chip :=
  if (vget c.sep.sensor p).part.isNone then c else
  onSensor c p (fun s => { s with part := none, bad := false, discarded := inc s.discarded })

/-- The last PDU of a scan has come (10 R299). -/
def endScan (c : Chip) (p i : Nat) (g : SensorCfg) (status : Nat) : Chip :=
  let s := vget c.sep.sensor p
  match s.part with
  | some (num, t, _, 0, runs) =>
    if s.bad || t + 10000000 < c.now || !runs.all (runInside c.cfg.sep g) then dropScan c p
    else
      let warn := mbit status 1
      let c := onConn c i (fun x => { x with stamp := some num })
      let c := onSensor c p (fun s => { s with
        part := none, bad := false, status := status, warn := warn, accepted := inc s.accepted,
        scans := { number := num, runs := runs, t := c.now } :: s.scans })
      if warn = s.warn then c else postSensor c p (if warn then 2 else 3)
  | _ => c

/-- One PDU of a sensor (10 R298, R299). -/
def scanPdu (p i : Nat) (g : SensorCfg) (c : Chip) (b : Bytes) : Chip :=
  let before := (c.conn i).seq
  let dup := pduFault c (c.conn i) b = 5
  let (c, used) := takePdu c i b
  let d := slice b 10 18
  if dup then c
  else if !used then onSensor c p (fun s => { s with bad := s.bad || s.part.isSome })
  else if byteN d 0 = 1 then
    let c := dropScan c p
    let n := ru d 2 2
    let now := c.now
    let c := onSensor c p (fun s => { s with
      part := some (ru b 6 4, now, n, n, []), status := byteN d 1,
      bad := !mbit (byteN d 1) 0 || g.tSens < ru d 4 4 || 1365 < n })
    endScan c p i g (byteN d 1)
  else
    match (vget c.sep.sensor p).part with
    | none => c
    | some (num, t, n, left, runs) =>
      let k := byteN d 1
      let next := match before with | some q => decide ((ru b 4 2 + 65536 - q) % 65536 = 1) | none => false
      let ok := byteN d 0 = 2 && 1 ≤ k && k ≤ 4 && ru b 6 4 = num && next
      let more := (List.range (min k 4)).map (fun j => runOf (ru d (2 + 4 * j) 4))
      let st := (vget c.sep.sensor p).status
      let c := onSensor c p (fun s => { s with part := some (num, t, n, left - 1, runs ++ more), bad := s.bad || !ok })
      endScan c p i g st

/-- A payload of 1 to 44 safety PDUs. -/
def scanLength (d : Bytes) : Bool := d.length % 32 = 0 && 32 ≤ d.length && d.length ≤ 1408

/-- The PDUs of a sensor, received on its port or relayed by the partner (10 R297, 13 R400). -/
def scanOp (p : Nat) (d : Bytes) (c : Chip) : Chip :=
  match c.scfg p with
  | none => c
  | some g => match c.sio.conn.findIdx? (fun x => x.id = g.conn) with
    | none => c
    | some i => (List.range (d.length / 32)).foldl (fun c k => scanPdu p i g c (slice d (32 * k) 32)) c

/-- A frame arrives on SPp: every Ethernet port stamps what it receives (03 R77). -/
def sensorFrame (c : Chip) (p : Nat) : Chip := stampRx c (6 + p) ((c.scfg p).elim false (·.fast)) c.now

/-- SPp takes a datagram from its sensor's address with a payload that fits (10 R297). -/
def takesScan (c : Chip) (p src : Nat) (d : Bytes) : Bool := match c.scfg p with | some g => src = g.addr && scanLength d | none => false

/-- An ARP request for the KX96's address on an SP port (10 R297): a reply per RFC 826, sender and target as six and four bytes. -/
def execArpRequestReceived (port : Fin 8) (target : Nat) (sender : Bytes) : State → Host.Outcome State Fault Refusal :=
  run fun c => let c := sensorFrame c port; match c.scfg port with
    | some g => if g.own = target then
        c.emit 1 port (le 2 0x0100 ++ le 2 0x0008 ++ le 1 6 ++ le 1 4 ++ le 2 0x0200 ++ fit 6 (Config.portMac port)
          ++ (le 4 g.own).reverse ++ fit 10 sender)
      else c
    | none => c

/-- The sensor's latest scan accepted by the intake instant `t`, unless the sensor is in TIMEOUT there (10 R300). -/
def scanInUse (c : Chip) (p t : Nat) : Option Scan :=
  match c.scfg p with
  | none => none
  | some g => (((vget c.sep.sensor p).scans.filter (fun s => s.t ≤ t)).head?).bind
      (fun s => if t ≤ s.t + g.tSwd * 1000 then some s else none)

/-- A sensor judged at an intake instant; SEP_SENSOR at a change (10 R300, R328). -/
def judgeSensor (c : Chip) (p t : Nat) : Chip :=
  if (c.scfg p).isNone then c else
  let gone := (scanInUse c p t).isNone
  if gone = (vget c.sep.sensor p).timeout then c
  else postSensor (onSensor c p (fun s => { s with timeout := gone })) p (if gone then 0 else 1)

/-- Local time of the next intake instant (10 R296). -/
def nextIntake (c : Chip) : Nat :=
  let n := Config.sepCycles c.cfg.sys.period
  c.t0 + (n - c.cyc % n) * c.period - 20000

/-- No scan within t_swd before the intake instant (10 R300). -/
def execSensorTimeout (port : Fin 8) : State → Host.Outcome State Fault Refusal :=
  run fun c =>
    let t := nextIntake c
    if (c.scfg port).isSome && (scanInUse c port t).isNone then judgeSensor (c.atTime t) port t else c

/-! ### Caps (10 R315) -/

/-- The cap the device state imposes. -/
def stateCap (c : Chip) : Nat :=
  let d := c.sys.dev
  if d = .faultHalt || c.sys.safetyDefaults || d = .off || d = .reset || d = .boot || d = .safeIdle || d = .configured then 0
  else if d = .commissioning then 1 else 4

/-- An input pair is in its demand state in a channel (11 R334, R335). -/
def pairDemand (c : Chip) (ch p : Nat) : Bool :=
  let g := vget c.cfg.sio.inp p
  !((g.mode = 1 || g.mode = 2) && (vget (vget c.sio.chan ch).inp p).st = .released)

/-- The cap c of an arm: the stricter of what the two channels see. -/
def armCap (c : Chip) (a : Nat) : Nat :=
  c.cfg.sep.caps.foldl (fun k r =>
    if mbit r.2.2 a && (pairDemand c 0 r.1 || pairDemand c 1 r.1) then min k r.2.1 else k) (stateCap c)

/-- The intake at P - 20 µs (10 R296): before the first change of an input pair after it, or when the boundary of P begins. -/
def takeIntake (n : Nat) (c : Chip) : Chip :=
  c.onSep (fun s => { s with intake := some (n, stateCap c, (List.range 12).map (armCap c)) })

/-- The intake of the coming period is taken if its instant has passed. -/
def intakeDue (c : Chip) : Chip :=
  let n := Config.sepCycles c.cfg.sys.period
  let p := (c.cyc / n + 1) * n
  if c.active && decide (nextIntake c < c.now) && c.sep.intake.map (·.1) ≠ some p then takeIntake p c else c

/-! ### Geometry -/

/-- A box in units u: bounds along x, y, z. -/
abbrev BoxU := (Int × Int) × (Int × Int) × (Int × Int)
abbrev PointU := Int × Int × Int

def voxelU : Int := 50 * mmU

/-- The box of a voxel (10 R301). -/
def voxelBox (g : SepCfg) (x y z : Nat) : BoxU :=
  let f := fun (o : Int) (i : Nat) => (lenU * o + voxelU * i, lenU * o + voxelU * (i + 1))
  (f g.origin.1 x, f g.origin.2.1 y, f g.origin.2.2 z)

/-- Squared distance of a coordinate from an interval. -/
def gap2 (p : Rat) (i : Int × Int) : Rat :=
  if p < i.1 then (i.1 - p) * (i.1 - p) else if (i.2 : Rat) < p then (p - i.2) * (p - i.2) else 0

/-- The least squared distance from a segment to a box. The squared distance along the segment is convex and made of quadratic
pieces, one for each choice of the nearer face per axis; its least value lies at an end, at a crossing of a face, or at the
vertex of a piece. -/
def segBox2 (a b : PointU) (q : BoxU) : Rat :=
  let ax : List (Rat × Rat × (Int × Int)) := [
    ((a.1 : Rat), ((b.1 - a.1 : Int) : Rat), q.1), ((a.2.1 : Rat), ((b.2.1 - a.2.1 : Int) : Rat), q.2.1),
    ((a.2.2 : Rat), ((b.2.2 - a.2.2 : Int) : Rat), q.2.2)]
  let f := fun (t : Rat) => (ax.map (fun e => gap2 (e.1 + t * e.2.1) e.2.2)).sum
  let cross := ax.flatMap (fun e => if e.2.1 = 0 then [] else [((e.2.2.1 : Rat) - e.1) / e.2.1, ((e.2.2.2 : Rat) - e.1) / e.2.1])
  let sides := fun (e : Rat × Rat × (Int × Int)) => ([none, some (e.2.2.1 : Rat), some (e.2.2.2 : Rat)] : List (Option Rat)).map
    (fun s => match s with | none => ((0 : Rat), (0 : Rat)) | some v => (e.2.1 * (v - e.1), e.2.1 * e.2.1))
  let sums := (ax.map sides).foldl (fun acc l => acc.flatMap (fun x => l.map (fun y => (x.1 + y.1, x.2 + y.2)))) [((0 : Rat), (0 : Rat))]
  let verts := sums.filterMap (fun s => if s.2 = 0 then none else some (s.1 / s.2))
  let ts := (0 : Rat) :: 1 :: (cross ++ verts).map (fun t => max 0 (min 1 t))
  (ts.map f).foldl min (f 0)

/-- The squared distance between two points. -/
def pt2 (a b : Rat × Rat × Rat) : Rat :=
  (a.1 - b.1) ^ 2 + (a.2.1 - b.2.1) ^ 2 + (a.2.2 - b.2.2) ^ 2

/-- The least squared distance between two segments: at an end of one, or where both gradients vanish. -/
def segSeg2 (a b p q : PointU) : Rat :=
  let r := fun (x : PointU) => ((x.1 : Rat), (x.2.1 : Rat), (x.2.2 : Rat))
  let d := fun (x y : PointU) => (((y.1 - x.1 : Int) : Rat), ((y.2.1 - x.2.1 : Int) : Rat), ((y.2.2 - x.2.2 : Int) : Rat))
  let dot := fun (x y : Rat × Rat × Rat) => x.1 * y.1 + x.2.1 * y.2.1 + x.2.2 * y.2.2
  let along := fun (x : PointU) (v : Rat × Rat × Rat) (t : Rat) => ((x.1 : Rat) + t * v.1, (x.2.1 : Rat) + t * v.2.1, (x.2.2 : Rat) + t * v.2.2)
  let u := d a b
  let v := d p q
  let w := d p a
  let toSeg := fun (x s : PointU) (k : Rat × Rat × Rat) =>
    let l := dot k k
    let t := if l = 0 then 0 else max 0 (min 1 (dot (d s x) k / l))
    pt2 (r x) (along s k t)
  let ends := [toSeg a p v, toSeg b p v, toSeg p a u, toSeg q a u]
  let det := dot u u * dot v v - dot u v * dot u v
  let inner := if det = 0 then [] else
    let s := (dot u v * dot v w - dot v v * dot u w) / det
    let t := (dot u u * dot v w - dot u v * dot u w) / det
    if 0 ≤ s && s ≤ 1 && 0 ≤ t && t ≤ 1 then [pt2 (along a u s) (along p v t)] else []
  (ends ++ inner).foldl min (toSeg a p v)

/-- A squared distance between axes less the radii, in whole mm, rounded down; 0 on contact (10 R303). -/
def surfaceMm (d2 : Rat) (r : Int) : Nat :=
  let s : Int := (Nat.sqrt (d2.num / (d2.den : Int)).toNat : Nat)
  if s ≤ r then 0 else ((s - r) / mmU).toNat

/-! ### Positions (10 R307) -/

/-- The newest accepted uplink data of node `k` among those of cycles P - 3 to P. -/
def nodeData (c : Chip) (k n : Nat) : Option SafePdu :=
  (vget c.sep.node k).hist.find? (fun h => h.cycle ≤ n && n ≤ h.cycle + 3)

/-- Per joint of an arm in model order: SPOS and raw feedback; none where a node of the arm has no data. An absent tool is no node of
the arm (log 43). -/
def armPos (c : Chip) (a n : Nat) : Option (List (Nat × Int)) :=
  (ownerAxes c a).foldl (fun l x => match l, c.acfg x with
    | some l, some g =>
      if isTool c x && !toolPresent c x then some (l ++ [(0, 0)])
      else (nodeData c (g.node - 1) n).map (fun d => l ++ [(d.spos.getD g.pos 0, d.raw.getD g.pos 0)])
    | _, _ => none) (some [])

/-- A joint is a tool joint (07 R202). -/
def toolJoint (c : Chip) (a j : Nat) : Bool :=
  match vget c.cfg.model a with | some m => mbit (m.joints.getD j {}).flags 1 | none => false

/-- Every joint agrees with its SPOS within its tolerance: (SPOS − zero) × scale beside its raw feedback through the arm model. -/
def posAgree (c : Chip) (a : Nat) (g : SepArmCfg) (l : List (Nat × Int)) : Bool :=
  let m := (vget c.cfg.model a).getD {}
  (List.range l.length).all (fun j =>
    let (s, raw) := l.getD j (0, 0)
    let (zero, tol, sm, se) := g.maps.getD j (0, 0, 0, 0)
    let r := m.joints.getD j {}
    toolJoint c a j || decide (|jointOf r raw - dyadic (((s : Int) - zero) * sm) (se - 23)| ≤ word (posF r) tol))

/-- The arm as Copper places it (10 R307, R308): its joints that are no tool joints, no tool and no payload. -/
def bareRig (m : ModelCfg) (a : Nat) : Rig :=
  { arm := a, m := m, idx := (List.range m.joints.length).filter (fun i => !mbit (m.joints.getD i {}).flags 1), tool := [], pay := 0, payPos := (0, 0, 0) }

/-- The two ends of a capsule in the base frame (10 R308): in a joint's frame, from elbow to platform, or in the platform's frame. -/
def capsuleEnds (g : Rig) (q : List Rat) (k : Capsule) : R3 × R3 :=
  if 0xF0 ≤ k.frame && k.frame ≤ 0xF2 then
    let i := k.frame - 0xF0
    ((elbow g i (q.getD i 0)).1, add3 (platform g q) (mul3 (blockWord (·.platR) g) (radial g i)))
  else
    let f := if k.frame = 0xFD then flange g q else jointFrame g q k.frame
    (f.at (len3 (k.ax, k.ay, k.az)), f.at (len3 (k.bx, k.by', k.bz)))

/-- A point in units u, in the cell frame; to which neighbouring unit it is rounded is free. -/
def toU (m : ModelCfg) (x : R3) : PointU :=
  let f := fun (v : Rat) => let w := v * ((2 ^ 26 : Nat) * lenU : Int); quot 17 w.num w.den
  let y := (basePose m).at x
  (f y.1, f y.2.1, f y.2.2)

/-- A capsule of an arm at raw feedback, ends and radius in units u. -/
def placed (m : ModelCfg) (a : Nat) (raws : List Int) (k : Capsule) : PointU × PointU × Int :=
  let g := bareRig m a
  let e := capsuleEnds g (g.joints.zipIdx.map (fun p => jointOf p.1 (raws.getD p.2 0))) k
  (toU m e.1, toU m e.2, lenU * k.r)

/-- The capsules of an arm where Copper has its positions. -/
def armCapsules (c : Chip) (a n : Nat) : Option (List (PointU × PointU × Int)) :=
  match c.sepCfg a, armPos c a n, vget c.cfg.model a with
  | some g, some l, some m => if posAgree c a g l then some (g.capsules.map (placed m a (l.map (·.2)))) else none
  | _, _, _ => none

/-! ### Protective distances (10 R310, R311) -/

/-- t_dev in µs: 520 + 250 + (T − 2.75), rounded up to 10 µs (10 R311, R325). -/
def tDev (period : Nat) : Nat := (767250 + period + 9999) / 10000 * 10

/-- T_r in µs (10 R311). -/
def reactionUs (g : SepCfg) (period : Nat) (a : SepArmCfg) : Nat :=
  ((g.sensor.toList.filterMap (fun s => s.map (·.tSens))).foldl max 0) + tDev period + a.tDrv

/-- S_p(k) of an arm, k from 1, from its terms (10 R310), LEN32; the rule names no rounding. -/
def protective (g : SepCfg) (period : Nat) (a : SepArmCfg) (k : Nat) : Int :=
  let tr : Rat := mkRat (reactionUs g period a) 1000000
  let ts : Rat := mkRat (vget a.tStop (k - 1) : Nat) 1000000
  let x := word velF g.vH * (tr + ts) + word velF (vget a.v (k - 1)) * tr
    + word lenF (vget a.sStop (k - 1) + a.cDist + a.zD + a.zR)
  let y := x * (2 ^ 26 : Nat)
  quot 18 y.num y.den

/-- Duhorn's recomputation at activation (10 R310): every stored S_p is that of its terms. -/
def distancesOk (g : SepCfg) (period : Nat) : Bool :=
  g.arm.toList.all (fun o => match o with
    | none => true
    | some a => [1, 2, 3, 4].all (fun k => protective g period a k = ((vget a.sp (k - 1) : Nat) : Int)))

/-- Iron's entry of an envelope table (10 R317): none: IRON_RANGE. -/
def entryAt (l : List (Nat × Int)) (t : EnvTable) : Option Box :=
  let bins := t.index.map (fun x =>
    let (j, shift, n, base) := x
    let s := (l.getD j (0, 0)).1
    if s < base || n ≤ (s - base) / 2 ^ shift then none else some ((s - base) / 2 ^ shift, n))
  if bins.any (·.isNone) then none else
  let ix := (bins.filterMap id).foldr (fun b acc => b.1 + b.2 * acc) 0
  t.entries[ix]?

/-- Entry boxes of an arm, with whether some index is out of range. -/
def armBoxes (c : Chip) (a n : Nat) : Option (List Box × Bool) :=
  (armPos c a n).map (fun l =>
    let e := (c.cfg.sep.tables.filter (fun t => t.arm = a)).map (entryAt l)
    (e.filterMap id, e.any (·.isNone)))

/-! ### Occupancy (10 R302, R316) -/

/-- A voxel lies in a run of a scan in use, or is not watched; and lies in no static box. -/
def seenVoxel (c : Chip) (t : Nat) (x y z : Nat) : Bool :=
  let use := (List.range 8).filterMap (fun p => (c.scfg p).map (fun g => (g, scanInUse c p t)))
  let hit := use.any (fun u => match u.2 with
    | some s => s.runs.any (fun r => r.x = x && r.y = y && r.z ≤ z && z < r.z + r.len)
    | none => false)
  let watched := use.any (fun u => u.2.isSome && u.1.cover.any (fun b => Box.has b x y z))
  (hit || !watched) && !c.cfg.sep.statics.any (fun b => Box.has b x y z)

/-- The voxels of the grid, x fastest (10 R329). -/
def voxels (g : SepCfg) : List (Nat × Nat × Nat) :=
  (List.range (g.nx * g.ny * g.nz)).map (fun i => (i % g.nx, i / g.nx % g.ny, i / (g.nx * g.ny)))

/-- Copper's occupied voxels. -/
def copperOcc (c : Chip) (n t : Nat) : List (Nat × Nat × Nat) :=
  let caps := (sepArms c).flatMap (fun a => (armCapsules c a n).getD [])
  let m := lenU * c.cfg.sep.m
  (voxels c.cfg.sep).filter (fun v =>
    seenVoxel c t v.1 v.2.1 v.2.2
      && !caps.any (fun k => segBox2 k.1 k.2.1 (voxelBox c.cfg.sep v.1 v.2.1 v.2.2) ≤ (((k.2.2 + m) ^ 2 : Int) : Rat)))

/-- Iron's occupied coarse cells. -/
def ironOcc (c : Chip) (n t : Nat) : List (Nat × Nat × Nat) :=
  let boxes := (sepArms c).flatMap (fun a => ((armBoxes c a n).getD ([], false)).1)
  (((voxels c.cfg.sep).filter (fun v =>
    seenVoxel c t v.1 v.2.1 v.2.2 && !boxes.any (fun b => Box.has b v.1 v.2.1 v.2.2))).map
      (fun v => (v.1 / 4, v.2.1 / 4, v.2.2 / 4))).dedup

/-- Copper's distance of an arm in mm (10 R303); 0 without accepted positions (R307). -/
def copperDist (c : Chip) (a n : Nat) (occ : List (Nat × Nat × Nat)) : Nat :=
  match armCapsules c a n with
  | none => 0
  | some ks => (ks.flatMap (fun k => occ.map (fun v =>
      surfaceMm (segBox2 k.1 k.2.1 (voxelBox c.cfg.sep v.1 v.2.1 v.2.2)) k.2.2))).foldl min 12750

/-- Empty cells between an interval and a cell (10 R319). -/
def gapCells (lo hi v : Nat) : Nat := max (lo - v - 1) (v - hi - 1)

/-- Iron's distance of an arm in mm (10 R319); 0 without positions or with an index out of range. -/
def ironDist (c : Chip) (a n : Nat) (occ : List (Nat × Nat × Nat)) : Nat :=
  match armBoxes c a n with
  | some (bs, false) => (bs.flatMap (fun b => occ.map (fun v =>
      200 * max (gapCells (b.xl / 4) (b.xh / 4) v.1) (max (gapCells (b.yl / 4) (b.yh / 4) v.2.1)
        (gapCells (b.zl / 4) (b.zh / 4) v.2.2))))).foldl min 12600
  | _ => 0

/-! ### The period -/

/-- Period m begins (10 R296): scans judged, host caps taken, each channel's own check reported. `astray`: the node and the class of a
class PDU that the safety die forms wrongly in this period (R322). -/
def periodOp (copperOk ironOk : Bool) (astray : Option (Nat × Nat)) (c : Chip) : Chip :=
  if !c.active || c.cyc % Config.sepCycles c.cfg.sys.period ≠ 0 || c.sep.start = some (c.t0, c.cyc) then c else
  let t := c.t0 - 20000
  let c := (List.range 8).foldl (fun c p =>
    let c := judgeSensor c p t
    onSensor c p (fun s =>
      let used := s.scans.filter (fun x => x.t ≤ t)
      { s with
        scans := s.scans.filter (fun x => t < x.t) ++ used.take 1,
        age := match used with | x :: _ => min ((t - x.t) / 1000) Config.cMax | [] => s.age })) c
  let c := c.onSep (fun s => { s with
    start := some (c.t0, c.cyc), periods := inc s.periods, astray := astray,
    arm := vmapIdx s.arm (fun _ x => { x with hostCap := x.hostNext }) })
  let c := if copperOk then
      (if c.sep.copperFail then haltGone (c.onSep (fun s => { s with copperFail := false })) 0x0906 0xFF else c)
    else copperFails c
  if ironOk && c.pow.safeRun then
    (if c.sep.ironFail then haltGone (c.onSep (fun s => { s with ironFail := false })) 0x0907 0xFF else c)
  else ironFails c

def execSeparationPeriod (checks : Bool × Bool) (astray : Option (Fin 24 × Fin 5)) : State → Host.Outcome State Fault Refusal :=
  run (periodOp checks.1 checks.2 (astray.map (fun x => (x.1.val, x.2.val))))

/-- A report has not come by P + 245 µs (10 R320): Iron lacks Copper's, or Copper lacks Iron's. -/
def execReportMissing (byIron : Bool) : State → Host.Outcome State Fault Refusal :=
  run fun c => match c.sep.start with
    | some (p, _) => let c := c.atTime (p + 245000); if byIron then copperFails c else ironFails c
    | none => c

/-- The greatest class whose threshold the distance reaches, the threshold raised by `h` (10 R313). -/
def classAt (g : SepArmCfg) (d h : Nat) : Nat :=
  ([4, 3, 2, 1].find? (fun k => lenU * ((vget g.d (k - 1) : Nat) + h) ≤ mmU * d)).getD 0

/-- A distance is below S_p of a class (10 R310, R313). -/
def belowSp (g : SepArmCfg) (b d : Nat) : Bool := 1 ≤ b && mmU * (d : Int) < lenU * (vget g.sp (b - 1) : Nat)

/-- n_tr(j, k) (10 R312, R326). -/
def transPeriods (g : SepArmCfg) (j k : Nat) : Nat := vget g.nTr (j * (j - 1) / 2 + k)

/-- e changes (10 R312, R328). -/
def setClass (c : Chip) (a e reason : Nat) : Chip :=
  let x := c.sepA a
  if x.e = e then c else
  let now := c.now
  let n := match c.sepCfg a with | some g => transPeriods g x.b e | none => 0
  let c := onSepArm c a (fun s =>
    if x.e < e then { s with e := e, b := e, trans := 0 }
    else { s with
      e := e, b := if n = 0 then e else s.b, trans := n,
      sc0 := if e = 0 then inc s.sc0 else s.sc0, sc0At := if e = 0 then now else s.sc0At })
  post c 5 0x0901 a 0xFF (le 1 e ++ le 1 x.e ++ le 1 reason ++ zeros 1 ++ le 2 x.dC ++ le 2 x.dI)

/-- At entry to FAULT_HALT every arm goes to SC0 at once (10 R315). -/
def sepHalt (c : Chip) : Chip :=
  (sepArms c).foldl (fun c a => setClass (onSepArm c a (fun s => { s with hold := 0, resume := false })) a 0 1)
    (c.onSep (fun s => { s with auxStop := true }))

/-- The partner's class of the period is lacking though the partner is there (13 R403). -/
def partnerLacks (c : Chip) (a : Nat) : Bool :=
  c.pair.st.isSome && c.pair.heart && !c.pair.partnerLost && (vget c.pair.pGov a).isNone

/-- The nodes of an arm. -/
def sepNodes (c : Chip) (a : Nat) : List Nat := ownerNodes c a

/-- Arms of a clearance pair, and its clearance in units u (10 R309); both records may name the pair. -/
def clearancePairs (c : Chip) : List (Nat × Nat × Int) :=
  (sepArms c).flatMap (fun a => (sepArms c).filterMap (fun b =>
    match c.sepCfg a, c.sepCfg b with
    | some g, some h =>
      let ab := mbit g.partners b
      let ba := mbit h.partners a
      if a < b && (ab || ba) then
        some (a, b, lenU * (max (if ab then g.cMin else 0) (if ba then h.cMin else 0) : Nat))
      else none
    | _, _ => none))

/-- Copper's distances between arms: the pairs below their clearance, and the least per arm in mm. -/
def clearances (c : Chip) (n : Nat) : List (Nat × Nat × Bool × Nat) :=
  (clearancePairs c).filterMap (fun p =>
    match armCapsules c p.1 n, armCapsules c p.2.1 n with
    | some ks, some ls =>
      let ds := ks.flatMap (fun k => ls.map (fun l => (segSeg2 k.1 k.2.1 l.1 l.2.1, k.2.2 + l.2.2)))
      some (p.1, p.2.1, ds.any (fun d => d.1 < (((p.2.2 + d.2) ^ 2 : Int) : Rat)),
        (ds.map (fun d => surfaceMm d.1 d.2)).foldl min 0xFFFF)
    | _, _ => none)

/-- The causes an arm shows in the period, bit n for code n (10 R321, R322), and its changed counts. -/
def judgeArm (c : Chip) (a n : Nat) (g : SepArmCfg) (dC dI : Nat) (near : Bool) : Chip :=
  let tol := lenU * (c.cfg.sep.tol : Nat)
  let bad := mmU * (dC : Int) + tol < mmU * (dI : Int)
  let mism := match armPos c a n with | some l => !posAgree c a g l | none => false
  let range := match armBoxes c a n with | some (_, r) => r | none => false
  let above := (sepNodes c a).any (fun k => match nodeData c k n, (vget c.sep.node k).sent with
    | some d, some s => s < d.enforced
    | _, _ => false)
  let limit := (g.tDrv + 499) / 500 + 2
  let lacks := partnerLacks c a
  let c := onSepArm c a (fun s =>
    let x := if bad then s.xRun + 1 else 0
    let p := if mism then s.posRun + 1 else 0
    let e := if lacks then s.echo else if above then s.echo + 1 else 0
    { s with
      dC := dC, dI := dI, xRun := x, posRun := p, echo := e, xTotal := if bad then inc s.xTotal else s.xTotal,
      present := 2 * b2n (c.cfg.sep.nCross ≤ x) + 4 * b2n (2 ≤ p) + 8 * b2n range + 16 * b2n (limit < e) + 32 * b2n near })
  if (c.sepA a).xRun = c.cfg.sep.nCross then c.onSep (fun s => { s with xTotal := inc s.xTotal }) else c

/-- The causes present are latched, the lowest first (10 R322). -/
def latchArm (c : Chip) (a : Nat) : Chip :=
  let x := c.sepA a
  if x.fault ≠ 0 then c else
  match [1, 2, 3, 4, 5].find? (mbit x.present) with
  | none => c
  | some k => post (onSepArm c a (fun s => { s with fault := k })) 5 0x0903 a 0xFF
      (le 1 k ++ le 1 (b2n (k = 1 && c.sep.major)) ++ zeros 2 ++ le 2 x.dC ++ le 2 x.dI)

/-- The class of one arm (10 R312, R313). `forced`: a failed channel, or FAULT_HALT. -/
def classArm (c : Chip) (a cap : Nat) (g : SepArmCfg) (forced : Bool) : Chip :=
  let x := c.sepA a
  let stop := x.fault ≠ 0 || forced
  let q := fun (d : Nat) => if belowSp g x.b d || stop then 0 else classAt g d 0
  let h := fun (d : Nat) => if stop then 0 else classAt g d g.hyst
  let qC := min (q x.dC) x.hostCap
  let hC := min (h x.dC) x.hostCap
  let qI := q x.dI
  let hI := h x.dI
  let reset := x.reset
  let c := onSepArm c a (fun s => { s with qC := qC, hC := hC, qI := qI, hI := hI, cap := cap, reset := false })
  let low := min (min qC qI) cap
  let up := x.e + 1 ≤ min (min hC hI) cap
  if low < x.e then
    let reason := if stop then 2 else if min cap x.hostCap < min (q x.dC) qI then 1 else 0
    setClass (onSepArm c a (fun s => { s with hold := 0, resume := false })) a low reason
  else if up && (0 < x.e || g.autoResume || x.resume || reset) then
    if g.nR ≤ x.hold + 1 then setClass (onSepArm c a (fun s => { s with hold := 0, resume := false })) a (x.e + 1) 3
    else onSepArm c a (fun s => { s with hold := s.hold + 1, resume := s.resume || decide (x.e = 0) })
  else onSepArm c a (fun s => { s with hold := 0, resume := false })

/-- b takes e when its periods have passed (10 R312). -/
def bindArm (c : Chip) (a : Nat) : Chip :=
  onSepArm c a (fun s => if s.trans = 0 then s else { s with trans := s.trans - 1, b := if s.trans = 1 then s.e else s.b })

/-- The table entry of the partner's CLASS PDU of an arm (13 R403). -/
def classConn (c : Chip) (a : Nat) : Option Nat :=
  c.sio.conn.findIdx? (fun x => idKind x.id = 6 && x.id / 2 % 128 = a && idDir x.id = (if unitIdent c = 1 then 1 else 0))

/-- The CLASS frame of the period leaves on both lanes (13 R400, R403): one PDU per configured arm. -/
def sendClasses (c : Chip) : Chip :=
  if c.pair.st.isNone then c else
  let use := (sepArms c).filterMap (fun a => (classConn c a).map (fun i => (a, i)))
  let pdus := use.flatMap (fun u =>
    let x := c.sepA u.1
    let y := c.conn u.2
    safePdu (idBack y.id) y.txSeq c.sep.periods
      (le 1 u.1 ++ le 1 x.e ++ le 1 x.b ++ le 1 (b2n (x.fault ≠ 0 || mbit x.present 5))))
  let f := closed (cellHeader 0x33 0 0xFF c.count c.count (20 + pdus.length) (unitIdent c) ++ pdus)
  let c := use.foldl (fun c u => onConn c u.2 (fun y => { y with txSeq := (y.txSeq + 1) % 65536 })) c
  (c.emit 2 0 f).emit 2 1 f

/-- The reports of the period as PDUs of the separation-report connections (11 R351, R352). -/
def reportConns (c : Chip) : Chip :=
  let now := c.now
  c.onSio (fun s => { s with
    conn := s.conn.map (fun x =>
      let lost := if idDir x.id = 0 then c.sep.copperFail else c.sep.ironFail
      if idKind x.id ≠ 5 || lost then x else
      { x with
        run := x.run + 1, st := if x.st = .timeout then .sync else if 3 ≤ x.run then .opened else x.st,
        stamp := some c.sep.periods, lastOk := now, cnt := vmod x.cnt 0 inc }) })

/-- The data of the report PDU of a channel for an arm (10 R320). -/
def reportData (a : Nat) (x : SepArm) (iron : Bool) : Bytes :=
  le 1 a ++ le 1 (if iron then x.qI else x.qC) ++ le 1 (if iron then x.hI else x.hC) ++ le 1 (b2n (x.fault ≠ 0 || mbit x.present 5))
    ++ le 2 (if iron then x.dI else x.dC) ++ zeros 12

/-- The reports that the channels have sent each other (10 R320). -/
def takeReports (c : Chip) : Chip :=
  let of := fun (iron : Bool) => Vector.ofFn (fun a : Fin 12 => if (c.sepCfg a).isSome then reportData a (c.sepA a) iron else [])
  c.onSep (fun s => { s with reports := #v[of false, of true] })

/-- The arm whose class a node carries (10 R324). -/
def nodeArm (c : Chip) (k : Nat) : Option Nat :=
  ((owners c).find? (fun o => (ownerNodes c o).contains k && (groupArm c o).isSome)).bind (groupArm c)

/-- PDU_MISMATCH (10 R322): Copper compares the safety die's class PDUs with its e. -/
def judgePdu (c : Chip) : Chip :=
  let obj := fun (k : Nat) => (nodeArm c k).getD 0xFF
  let w := c.sep.astray.bind (fun x => if x.2 = ((nodeArm c x.1).map (fun a => (c.sepA a).e)).getD (if c.sep.auxStop then 0 else 4) then none else some x)
  let c := match c.sep.wrong with | some (k, _) => haltGone c 0x0908 (obj k) | none => c
  let c := c.onSep (fun s => { s with wrong := w })
  match w with
  | some (k, _) => raiseFault (post c 5 0x0903 (obj k) 0xFF (le 1 8 ++ le 1 1)) 0x0908 true (obj k)
  | none => c

/-- At P + 250 µs the effective classes of the period hold (10 R296, R313, R324). -/
def effectiveOp (c : Chip) : Chip :=
  match c.sep.start with
  | none => c
  | some (p, n) =>
    let c := c.atTime (p + 250000)
    let t := p - 20000
    let (base, caps) := match c.sep.intake with
      | some (k, b, l) => if k = n then (b, l) else (stateCap c, (List.range 12).map (armCap c))
      | none => (stateCap c, (List.range 12).map (armCap c))
    let arms := sepArms c
    let occ := copperOcc c n t
    let cells := ironOcc c n t
    let near := clearances c n
    let c := arms.foldl bindArm c
    let c := arms.foldl (fun c a => match c.sepCfg a with
      | some g =>
        let mine := near.filter (fun x => x.1 = a || x.2.1 = a)
        let c := judgeArm c a n g (copperDist c a n occ) (ironDist c a n cells) (mine.any (·.2.2.1))
        onSepArm c a (fun s => { s with armMin := (mine.map (·.2.2.2)).foldl min 0xFFFF })
      | none => c) c
    let crossing := (arms.filter (fun a => mbit (c.sepA a).present 1)).length
    let major := arms.length < 2 * crossing
    let was := c.sep.major
    let c := c.onSep (fun s => { s with major := major })
    let c := if major && !was then raiseFault c 0x0901 true 0xFF else if was && !major then haltGone c 0x0901 0xFF else c
    let c := arms.foldl latchArm c
    let c := c.onPair (fun q => { q with pGov := vmapIdx q.pGov (fun a _ => (vget q.pClass a).map (·.1)), pClass := Vector.replicate 12 none })
    let forced := c.sep.copperFail || c.sep.ironFail || c.sys.dev = .faultHalt
    let c := arms.foldl (fun c a => match c.sepCfg a with | some g => classArm c a (caps.getD a 0) g forced | none => c) c
    let c := reportConns (sendClasses (takeReports c))
    let c := c.onSep (fun s => { s with
      start := none, auxStop := decide (base = 0) || decide (c.sys.dev = .faultHalt),
      occ := occ.map (fun v => v.1 + c.cfg.sep.nx * (v.2.1 + c.cfg.sep.ny * v.2.2)) })
    let c := judgePdu c
    if c.now = c.t0 then tickSnap c else c

def execClassEffective : State → Host.Outcome State Fault Refusal := run effectiveOp

/-! ### What is delivered (10 R305, R324) -/

/-- The class of a node's downlink PDU; none: no PDU is sent (10 R322, 13 R403). -/
def nodeClass (c : Chip) (k : Nat) : Option Nat :=
  if c.sep.ironFail then none
  else if c.sep.copperFail || c.sys.dev = .faultHalt then some 0
  else
    let cls := match nodeArm c k with
      | none => some (if c.sep.auxStop then 0 else 4)
      | some a =>
        let own := (c.sepA a).e
        if c.pair.st.isNone || !c.pair.heart || c.pair.partnerLost then some own
        else (vget c.pair.pGov a).map (min own)
    match c.sep.wrong, cls with
    | some (n, x), some e => if n = k then (if e < x then none else some x) else some e
    | _, r => r

/-- The data of a downlink safety PDU (10 R305). -/
def classData (c : Chip) (k cls : Nat) : Bytes :=
  let l := if cls = 4 then List.replicate 8 0xFFFF else if cls = 0 then List.replicate 8 0
    else vget (vget c.cfg.sep.limits k) (cls - 1)
  le 1 cls ++ zeros 1 ++ ((List.range 8).map (fun j => le 2 (l.getD j 0))).flatten

/-! ### Operator resets and commands -/

/-- Every node of an arm reports SOS_OK (10 R323). -/
def armSos (c : Chip) (a : Nat) : Bool :=
  (sepNodes c a).all (fun k => match (vget c.sep.node k).hist with
    | d :: _ => c.cyc ≤ d.cycle + 4 && mbit d.status 2
    | [] => false)

/-- An accepted reset serves an arm at a boundary (11 R344): the resume, and a SEP_CLEAR_FAULT validated before the press. -/
def sepReset (press : Nat) (c : Chip) (a : Nat) : Chip :=
  let c := onSepArm c a (fun s => { s with reset := decide (s.e = 0) })
  let x := c.sepA a
  match x.clearing with
  | none => c
  | some (ring, seq, t) =>
    if press < t then c else
    let c := onSepArm c a (fun s => { s with clearing := none })
    if x.fault ≠ 0 && !mbit x.present x.fault && armSos c a then
      complete (post (onSepArm c a (fun s => { s with fault := 0 })) 5 0x0904 a 0xFF (le 1 x.fault)) 0x0905 .ok ring seq
    else complete c 0x0905 .refusedState ring seq

/-- SEP_GET_STATUS (10 R329). -/
def bodySepStatus (_ : Req) (c : Chip) : Reply :=
  let cfgd := (List.range 8).filter (fun p => (c.scfg p).isSome)
  answer c .ok (((List.range 12).map (fun a => byte (if (c.sepCfg a).isSome then (c.sepA a).e else 0xFF)))
    ++ le 1 (cfgd.filter (fun p => !(vget c.sep.sensor p).timeout)).length
    ++ le 1 (cfgd.filter (fun p => (vget c.sep.sensor p).timeout)).length ++ zeros 2 ++ le 4 c.sep.periods ++ le 4 c.sep.xTotal
    ++ le 4 ((List.range 8).foldl (fun n p => incBy n (vget c.sep.sensor p).spBad) 0))

def execSepGetStatus (q : Req) : State → Host.Outcome State Fault Refusal := host 0x0901 32 layNone bodySepStatus q

/-- SEP_GET_ARM (10 R329). -/
def bodySepArm (q : Req) (c : Chip) : Reply :=
  let a := byteN q.payload 0
  match c.sepCfg a with
  | none => refuse c .badParam
  | some g =>
    let x := c.sepA a
    answer c .ok (le 1 x.e ++ le 1 x.b ++ le 1 x.qC ++ le 1 x.qI ++ le 1 x.cap ++ le 1 x.hostCap ++ le 1 x.fault
      ++ le 1 (bits [x.e = 0 && !g.autoResume && !x.resume, 0 < x.trans]) ++ le 2 x.dC ++ le 2 x.dI ++ le 2 x.armMin
      ++ le 2 (min x.hold 0xFFFF) ++ le 4 x.sc0 ++ le 4 x.xTotal)

def execSepGetArm (q : Req) : State → Host.Outcome State Fault Refusal :=
  host 0x0902 28 (lay 1 fun b => [isArm (byteN b 0)]) bodySepArm q

/-- SEP_GET_SENSOR (10 R329). -/
def bodySepSensor (q : Req) (c : Chip) : Reply :=
  let p := byteN q.payload 0
  if (c.scfg p).isNone then refuse c .badParam else
  let s := vget c.sep.sensor p
  let (n, r) := match s.scans with | x :: _ => (x.number, x.runs.length) | [] => (0, 0)
  answer c .ok (le 1 (if s.timeout then 2 else 1) ++ le 1 (s.status % 4) ++ le 2 r ++ le 4 n ++ le 4 s.age ++ le 4 s.accepted
    ++ le 4 s.discarded ++ le 4 s.spBad)

def execSepGetSensor (q : Req) : State → Host.Outcome State Fault Refusal :=
  host 0x0903 28 (lay 1 fun b => [bLe b 0 7]) bodySepSensor q

/-- SEP_SET_CAP (10 R329, R330): from the first period that starts after validation. -/
def bodySetCap (q : Req) (c : Chip) : Reply :=
  let m := ru q.payload 0 2
  if (List.range 16).any (fun a => mbit m a && (c.sepCfg a).isNone) then refuse c .badParam else
  let n := Config.sepCycles c.cfg.sys.period
  let first := (c.cyc + ahead c 0x0904 + n - 1) / n * n
  answer (deferB c 0x0904 q) .ok (le 4 ((first + n / 2) % 4294967296))

def applySetCap (b : Bytes) (c : Chip) : Chip :=
  (List.range 12).foldl (fun c a => if mbit (ru b 0 2) a then onSepArm c a (fun s => { s with hostNext := byteN b 2 }) else c) c

def execSepSetCap (q : Req) : State → Host.Outcome State Fault Refusal :=
  host 0x0904 8 (lay 4 fun b => [bLe b 2 4, rsv b 3 1]) bodySetCap q

/-- SEP_CLEAR_FAULT (10 R323, R330): it waits for an accepted reset. -/
def bodySepClear (q : Req) (c : Chip) : Reply :=
  let a := byteN q.payload 0
  let x := c.sepA a
  let bars := firstFail [
    ((c.sepCfg a).isNone, Status.badParam),
    (x.fault = 0 || mbit x.present x.fault, .refusedState),
    (x.clearing.isSome, .busy)]
  match bars with
  | some st => refuse c st
  | none => answer (onSepArm c a (fun s => { s with clearing := some (q.ring, q.seq, c.now) })) .queued (le 1 x.e)

def execSepClearFault (q : Req) : State → Host.Outcome State Fault Refusal :=
  host 0x0905 5 (lay 1 fun b => [isArm (byteN b 0)]) bodySepClear q

/-- The distance field byte of a voxel (10 R303). -/
def fieldByte (g : SepCfg) (occ : List Nat) (x y z : Nat) : Nat :=
  let gap := fun (a b : Nat) => max (a - b - 1) (b - a - 1)
  (occ.map (fun i =>
    let dx := gap x (i % g.nx)
    let dy := gap y (i / g.nx % g.ny)
    let dz := gap z (i / (g.nx * g.ny))
    Nat.sqrt (dx * dx + dy * dy + dz * dz))).foldl min 255

/-- SEP_READ_FIELD (10 R329, R330). -/
def bodyReadField (q : Req) (c : Chip) : Reply :=
  let g := c.cfg.sep
  let b := box6 (ru q.payload 0 6)
  let (nx, ny, nz) := (b.xh + 1 - b.xl, b.yh + 1 - b.yl, b.zh + 1 - b.zl)
  if b.xh < b.xl || b.yh < b.yl || b.zh < b.zl || g.nx ≤ b.xh || g.ny ≤ b.yh || g.nz ≤ b.zh || 4096 < nx * ny * nz then
    refuse c .badParam
  else
    answer c .ok (le 4 (nx * ny * nz) ++ (List.range (nx * ny * nz)).map (fun i =>
      byte (fieldByte g c.sep.occ (b.xl + i % nx) (b.yl + i / nx % ny) (b.zl + i / (nx * ny)))))

def execSepReadField (q : Req) : State → Host.Outcome State Fault Refusal :=
  host 0x0906 4104 (lay 8 fun b => [rsv b 6 2]) bodyReadField q

/-- SEP_CLEAR_COUNTERS (10 R329). -/
def bodySepClearCounters (_ : Req) (c : Chip) : Reply :=
  answer (c.onSep (fun s => { s with
    xTotal := 0, arm := vmapIdx s.arm (fun _ x => { x with sc0 := 0, xTotal := 0 }),
    sensor := vmapIdx s.sensor (fun _ x => { x with accepted := 0, discarded := 0, spBad := 0 }) })) .ok

def execSepClearCounters (q : Req) : State → Host.Outcome State Fault Refusal := host 0x0907 4 layNone bodySepClearCounters q

end Sys2Proof.Machine
end

