-- ==== Sys2Proof/Machine/Downlink.lean ====
section
/-!
DEFINITION. DOWNLINK_SEND (04 R105-R107, R126, R127): the downlink of one node at t_dn, with its axis blocks, trigger entries, safety
PDU (10 R305, R324) and acyclic blocks; and its digest for the pair (13 R404).
-/

namespace Sys2Proof.Machine

open Sys2Proof

/-- The axis of a node at a position. -/
def nodeAxis (c : Chip) (k i : Nat) : Option Nat :=
  (List.range 128).find? (fun a => match c.acfg a with | some g => g.node = k + 1 && g.pos = i | none => false)

/-- The axis block of a downlink (04 R106, 05 R159): the last committed one, or zeros. -/
def axisBlock (c : Chip) (k i : Nat) : Bytes :=
  match nodeAxis c k i with
  | some a => fit 8 ((c.axis a).out.getD [])
  | none => zeros 8

/-- The larger delay of the node's channels in use, 1/64 ns; d_max where it is not measured (04 R107). -/
def nodeDelay (c : Chip) (k : Nat) : Nat :=
  (((List.range 2).filter (chUsed c k)).map (fun h => let d := (c.ch k h).delay; if d = 0xFFFF then 64 * (c.port k).dMax else d)).foldl max 0

/-- A downlink of `len` bytes completes at the node at least 1 µs before a plant instant (04 R107); a byte takes 0.8 ns. -/
def inTime (c : Chip) (k len : Nat) (when' : Int) : Bool :=
  (c.t0 + c.ptOff + Config.tDn c.cfg.sys.period (k + 1) + 1000) * 320 + len * 256 + nodeDelay c k * 5 ≤ when' * 320

/-- Whether the next downlink carries a pending trigger (04 R107): an instant that the 32-bit offset cannot reach yet waits (log 69). -/
def carries (c : Chip) (k len : Nat) (t : NodeTrig) : Bool :=
  t.cancel || t.fired || (decide (t.when - (c.t0 + c.ptOff) < 2 ^ 31) && (inTime c k len t.when || (!t.sent && !t.late)))

/-- A trigger entry (04 R107). -/
def trigEntry (c : Chip) (t : NodeTrig) : Bytes :=
  le 1 (t.trig + 8 * b2n t.cancel) ++ leI 4 (satI 32 (t.when - (c.t0 + c.ptOff)))

/-- What a carried trigger becomes; a cancel and a fired one are done. -/
def carried (c : Chip) (k len : Nat) (t : NodeTrig) : Option NodeTrig :=
  if t.cancel || t.fired then none
  else if inTime c k len t.when then some { t with sent := true } else some { t with late := true }

/-- The blocks that the next downlink of a node carries (04 R127): of the oldest that its frame may have outstanding, those due. -/
def dueBlocks (c : Chip) (k : Nat) (t : Transfer) : List AcycBlk :=
  if holdsToken c then (t.blocks.take (c.port k).kDn).filter (·.due) else []

/-- The acyclic blocks of a downlink, the transfer after it, and how many of them are sent again (04 R127, R128). -/
def takeBlocks (c : Chip) (k : Nat) : List Bytes × Option Transfer × Nat :=
  match (c.node k).transfer with
  | none => ([], none, 0)
  | some t =>
    let go := dueBlocks c k t
    let again := fun (b : AcycBlk) => decide (0 < b.tries)
    (go.map (fun b => if again b then withRetry b.data else b.data),
      some { t with blocks := t.blocks.map (fun b => if go.contains b then { b with tries := b.tries + 1, at' := c.cyc, due := false } else b) },
      (go.filter again).length)

/-- CRC-32C over bytes 0-39 of the committed state halves of a node's axes (13 R401). -/
def stateCrc (c : Chip) (k : Nat) : Nat :=
  crc32c (((List.range (c.port k).a).map (fun i => match nodeAxis c k i with
    | some a => slice (c.axis a).state 0 40
    | none => [])).flatten)

/-- The unit sends downlinks (13 R397). -/
def sendsDownlinks (c : Chip) : Bool := c.pair.st.isNone || c.pair.downlinks

/-- The safety PDU of a downlink, with its connection and its class (10 R305, 13 R403). -/
def downPdu (c : Chip) (k : Nat) : Option (Nat × Nat × Bytes) :=
  if !(c.port k).pdu then none else
  match nodeConn c k, nodeClass c k with
  | some i, some x =>
    some (i, x, safePdu (idBack (c.conn i).id) (if c.pair.st.isSome then c.count else (c.conn i).txSeq) c.count (classData c k x))
  | _, _ => none

/-- Length of the downlink as it leaves now, and the trigger entries it carries. -/
def downLen (c : Chip) (k : Nat) : Nat :=
  36 + 8 * (c.port k).a + (if (downPdu c k).isSome then 32 else 0) + 64 * (takeBlocks c k).1.length
def downTrigs (c : Chip) (k : Nat) : List NodeTrig := ((c.node k).trigs.filter (carries c k (downLen c k))).take 2

/-- Bytes 22-31 and the axis blocks of a downlink (04 R105, R106). -/
def downBody (c : Chip) (k : Nat) : Bytes :=
  fit 10 ((downTrigs c k).map (trigEntry c)).flatten ++ ((List.range (c.port k).a).map (axisBlock c k)).flatten

/-- Digest of a downlink (13 R404): byte 16, byte 17, bytes 22-31 and the axis blocks. -/
def digest (c : Chip) (k : Nat) : Nat := crc32c (le 1 (c.node k).command ++ le 1 (c.port k).a ++ downBody c k)

/-- The downlink of node `k` leaves at t_dn (01 R14) on its channels in ADMITTING and ACTIVE. -/
def downlinkOp (k : Nat) (c : Chip) : Chip :=
  let p := c.port k
  if !c.star.run || p.a = 0 then c else
  let off := Config.tDn c.cfg.sys.period (k + 1)
  let c := c.atOff off
  let n := c.node k
  let (bl, tr, re) := takeBlocks c k
  let pdu := downPdu c k
  let len := downLen c k
  let pick := downTrigs c k
  let body := le 1 n.command ++ le 1 p.a ++ le 1 (bl.length + 16 * b2n pdu.isSome + 32 * pick.length) ++ zeros 1 ++ le 2 n.rxSeq
    ++ downBody c k ++ (match pdu with | some x => x.2.2 | none => []) ++ bl.flatten
  let f := closed (cellHeader 3 (k + 1) (n.slot.getD 0xFF) c.count c.count len (unitIdent c) ++ body)
  let chans := (List.range 2).filter (fun h => chSends c k h && ((c.ch k h).st = .admitting || (c.ch k h).st = .active))
  if !sendsDownlinks c || chans.isEmpty then c else
  let c := chans.foldl (fun c h => starSend c 3 k h off f) c
  let c := c.onPair (fun q => { q with downNow := mput q.downNow k true })
  let c := re.repeat (fun c => countNode c k 6) c
  let c := onNode c k (fun n => { n with
    transfer := tr, command := if n.command = 2 then 0 else n.command,
    trigs := n.trigs.filterMap (fun t => if pick.contains t then carried c k len t else some t) })
  match pdu with
  | some (i, x, _) => (onConn c i (fun y => { y with txSeq := (y.txSeq + 1) % 65536 })).onSep (fun s => { s with
      node := vmod s.node k (fun m => { m with sent := some x }) })
  | none => c

def execDownlinkSend (node : Fin 24) : State → Host.Outcome State Fault Refusal := run (downlinkOp node)

end Sys2Proof.Machine
end

