-- ==== Sys2Proof/Machine/Motion.lean ====
section
/-!
DEFINITION. Jerk-limited motion (09 R264, R267, R270, R272): phases of constant jerk, changes of velocity, stopping distances, and the
point move in seven phases that ends after a whole number of cycles. Counts and µs; durations lie on a grid of 2^-80 µs (log 76).
-/

namespace Sys2Proof.Machine

open Sys2Proof

/-- A phase: duration and jerk. -/
abbrev Phase := Rat × Rat

def sgnR (x : Rat) : Rat := if 0 < x then 1 else if x < 0 then -1 else 0
def absR (x : Rat) : Rat := if x < 0 then -x else x

/-- A value on the grid. -/
def grid (x : Rat) : Rat := mkRat (x * (2 ^ 80 : Nat)).floor (2 ^ 80)

/-- Position, velocity and acceleration after a time at a constant jerk (09 R267). -/
def advance (s : Rat × Rat × Rat) (j t : Rat) : Rat × Rat × Rat :=
  (s.1 + s.2.1 * t + s.2.2 * t * t / 2 + j * t * t * t / 6, s.2.1 + s.2.2 * t + j * t * t / 2, s.2.2 + j * t)

/-- The state at the end of some phases, and their duration. -/
def runPhases (l : List Phase) (s : Rat × Rat × Rat) : Rat × Rat × Rat := l.foldl (fun s q => advance s q.2 q.1) s
def total (l : List Phase) : Rat := (l.map (·.1)).foldl (· + ·) 0

/-- The state at a time after the start of some phases. -/
def stateAt : List Phase → Rat × Rat × Rat → Rat → Rat × Rat × Rat
  | [], s, t => advance s 0 t
  | (d, j) :: l, s, t => if t ≤ d then advance s j t else stateAt l (advance s j d) (t - d)

/-- The quickest rise of the velocity from `v`, at acceleration `a`, to `w` at acceleration 0: to at most the acceleration `A`. -/
def rise (v a w A J : Rat) : List Phase :=
  let top := sqrtR (J * (w - v) + a * a / 2)
  let ap := if A < top then A else top
  let t1 := grid (absR (ap - a) / J)
  let t3 := grid (ap / J)
  let left := w - v - (a + ap) / 2 * t1 - ap / 2 * t3
  [(t1, sgnR (ap - a) * J), (if ap ≤ 0 || left ≤ 0 then 0 else grid (left / ap), 0), (t3, -J)]

/-- The quickest change of velocity: `A` limits an acceleration upward, `D` downward. -/
def change (v a w A D J : Rat) : List Phase :=
  if v + a * absR a / (2 * J) ≤ w then rise v a w A J else (rise (-v) (-a) (-w) D J).map (fun q => (q.1, -q.2))

/-- The distance of a stop at a deceleration and a jerk (09 R264, R272). -/
def stopDistance (v a d j : Rat) : Rat := absR (runPhases (change v a 0 d d j) (0, v, a)).1

/-- The greatest value between two, halved `n` times, for which a condition holds that holds at the lower one. -/
def greatest : Nat → Rat → Rat → (Rat → Bool) → Rat
  | 0, lo, _, _ => lo
  | n + 1, lo, hi, ok => let m := (lo + hi) / 2; if ok m then greatest n m hi ok else greatest n lo m ok

/-- The velocity limit toward a position limit at a distance: lowered to what stops there where the stop from the present state would
cross it (09 R264). -/
def limitToward (v a d j vLim dist : Rat) : Rat :=
  let x := if dist < 0 then 0 else dist
  if v ≤ 0 || stopDistance v a d j ≤ x then vLim else greatest 64 0 vLim (fun w => stopDistance w 0 d j ≤ x)

/-- A motion over `X` ≥ 0 through a peak velocity `w`, with a cruise at it. -/
def through (v a w cruise A D J : Rat) : List Phase := change v a w A D J ++ [(cruise, 0)] ++ change w 0 0 A D J

/-- Whole cycles that a time takes. -/
def cyclesIn (t T : Rat) : Nat := (t / T).ceil.toNat

/-- The point move over `X` ≥ 0 from velocity `v` and acceleration `a` (09 R270): the highest peak velocity that the distance allows,
then lowered until the move takes a whole number of cycles; none: it does not arrive. -/
def forwardPlan (X v a V A D J T : Rat) : List Phase × Option Nat :=
  let dist := fun (w : Rat) => (runPhases (through v a w 0 A D J) (0, v, a)).1
  let cruise := fun (w : Rat) => if w ≤ 0 then 0 else grid ((X - dist w) / w)
  let time := fun (w : Rat) => total (through v a w (cruise w) A D J)
  let best := if dist V ≤ X then V else greatest 64 0 V (fun w => dist w ≤ X)
  if best ≤ 0 then (through v a 0 0 A D J, if X ≤ dist 0 + mkRat 1 65536 then some (cyclesIn (time 0) T) else none)
  else
    let n := cyclesIn (time best) T
    let w := greatest 64 0 best (fun w => w ≤ 0 || decide ((n : Rat) * T ≤ time w))
    (through v a w (cruise w) A D J, some n)

/-- The point move over `X` in either direction; where the axis cannot stop so soon it comes to rest, and returns. -/
def pointPlan (X v a V A D J T : Rat) : List Phase × Option Nat :=
  let s : Rat := if X < 0 then -1 else 1
  let turn := fun (l : List Phase) => l.map (fun q => (q.1, s * q.2))
  let past := (runPhases (change (s * v) (s * a) 0 A D J) (0, s * v, s * a)).1 - s * X
  if past ≤ mkRat 1 65536 then
    let f := forwardPlan (s * X) (s * v) (s * a) V A D J T
    (turn f.1, f.2)
  else
    let stop := change (s * v) (s * a) 0 A D J
    let n := cyclesIn (total stop) T
    let b := forwardPlan past 0 0 V A D J T
    (turn (stop ++ [((n : Rat) * T - total stop, 0)] ++ b.1.map (fun q => (q.1, -q.2))), b.2.map (· + n))

end Sys2Proof.Machine
end

