-- ==== Sys2Proof/Machine/Profiles.lean ====
section
/-!
DEFINITION. The profile unit (chapter 09): limits and lag, the limiter, point moves, tables and path rate, gearing, streams, homing,
registration, stepper currents, and its commands. Positions and rates are exact rationals; each output is rounded once (09 R261).
-/

namespace Sys2Proof.Machine

open Sys2Proof

/-! ### Limit records -/

def Limits.v (l : Limits) : Rat := dyadic l.vMax (-32)
def Limits.acc (l : Limits) : Rat := dyadic l.aMax (-48)
def Limits.dec (l : Limits) : Rat := dyadic l.dMax (-48)
def Limits.decStop (l : Limits) : Rat := dyadic l.dStop (-48)
def Limits.jerk (l : Limits) : Rat := dyadic l.jMax (-64)
def Limits.lo (l : Limits) : Rat := dyadic l.posMin (-16)
def Limits.hi (l : Limits) : Rat := dyadic l.posMax (-16)

/-- The class fraction of an axis (09 R276, R279): f1-f3 of its arm for SC1-SC3, 0 under SC0; 1 under SC4 and outside an arm. -/
def fraction (c : Chip) (a : Nat) : Rat :=
  match (axisOwner c a).bind (fun o => (groupArm c o)) with
  | none => 1
  | some k =>
    match c.ocfg k with
    | none => 1
    | some g => match (vget c.sep.arm k).e with
      | 0 => 0 | 1 => mkRat g.f1 65536 | 2 => mkRat g.f2 65536 | 3 => mkRat g.f3 65536 | _ => 1

/-- The event head of the profile unit: arm or 0xFF, axis (09 R292). -/
def postProf (c : Chip) (code a : Nat) (detail : Bytes) : Chip :=
  post c 3 code (match axisOwner c a with | some o => if o < 12 then o else 0xFF | none => 0xFF) a detail

/-- Device state and state of the owner let an axis be moved (09 R266, R269). -/
def motionBars (c : Chip) (xs : List Nat) : Bool :=
  xs.any (fun a =>
    (match axisOwner c a with
     | some o => (o < 12 && inAuto c) || !((c.seq o).st = .hold || (c.seq o).st = .running)
     | none => true) || (c.pax a).lagFault)

/-! ### The limiter (09 R267) -/

/-- One cycle of the law: output, demand and lag, velocity limits in both directions, the deceleration used; `T` in µs. -/
def limiter (T : Rat) (out : Rat × Rat × Rat) (e vd : Rat) (vLo vHi : Rat) (aMax dDec dMax jMax : Rat) : Rat × Rat × Rat :=
  let p := out.1; let v := out.2.1; let a := out.2.2
  let vr := vd + sgnR e * sqrtR (2 * dMax * absR e)
  let vr := if vr < -vLo then -vLo else if vHi < vr then vHi else vr
  let al := if v = 0 || sgnR (vr - v) = sgnR v then aMax else dDec
  let ar := clipR ((vr - v) / T) al
  let ar := clipR ar (sqrtR (2 * jMax * absR (vr - v)))
  let j := clipR ((ar - a) / T) jMax
  (p + v * T + a * T * T / 2 + j * T * T * T / 6, v + a * T + j * T * T / 2, a + j * T)

/-- An output held inside the position limits (09 R264). -/
def inside (l : Limits) (x : Prof) : Prof :=
  if x.p < l.lo then { x with p := l.lo, posLimit := true }
  else if l.hi < x.p then { x with p := l.hi, posLimit := true } else x

/-- The output follows a demand of this cycle (09 R263, R264, R267, R268). A demand that keeps within the limits of an axis without
lag is the output; otherwise the law runs on the lag of the last cycle, and within one cycle's jerk of the demand it is met (log 38).
Toward a position limit the law decelerates at d_stop. -/
def follow (T : Rat) (l : Limits) (f : Rat) (x : Prof) (pd vd : Rat) : Prof :=
  let pc := if pd < l.lo then l.lo else if l.hi < pd then l.hi else pd
  let held := pc ≠ pd
  let vd := if held then 0 else vd
  let vLim := l.v * f
  let ad := (vd - x.v) / T
  let aLim := if absR x.v ≤ absR vd then l.acc else l.dec
  if x.tracking && !held && absR vd ≤ vLim && absR ad ≤ aLim && absR (ad - x.a) ≤ l.jerk * T then
    { x with p := pd, v := vd, a := ad, lag := 0, dem := (pc, vd), posLimit := false }
  else
    let lo := limitToward (-x.v) (-x.a) l.decStop l.jerk vLim (x.p - l.lo)
    let hi := limitToward x.v x.a l.decStop l.jerk vLim (l.hi - x.p)
    let dec := if lo < vLim || hi < vLim then l.decStop else l.dec
    let y := limiter T (x.p, x.v, x.a) (x.dem.1 - x.p) x.dem.2 lo hi l.acc dec l.dec l.jerk
    let near := !held && absR (pd - y.1) < 1 / 2 && absR (vd - y.2.1) ≤ 2 * l.jerk * T * T && absR y.2.2 ≤ 2 * l.jerk * T
    if near then { x with p := pd, v := vd, a := 0, lag := 0, dem := (pc, vd), tracking := true, posLimit := false }
    else
      let z := inside l { x with p := y.1, v := y.2.1, a := y.2.2, dem := (pc, vd), tracking := false, posLimit := held }
      { z with lag := pd - z.p }

/-! ### Stops and HOLD (09 R266, R271, R278) -/

/-- PROF_MOVE_DONE (09 R270, R271). -/
def moveDone (c : Chip) (a tag st : Nat) : Chip := postProf c 0x0801 a (le 1 st ++ zeros 3 ++ le 4 tag)

/-- A queued or pending target is discarded (09 R271). -/
def dropNext (c : Chip) (a : Nat) : Chip :=
  match (c.pax a).next with
  | some (m, _) => moveDone (onAx c a (fun x => { x with next := none })) a m.tag 2
  | none => c

/-- PROF_GEAR_APPLIED: 0 blend started, 1 retired, 2 MASTER_LOST, 3 discarded (09 R292). -/
def gearEvent (c : Chip) (a what : Nat) (g : GearChange) : Chip :=
  postProf c 0x0804 a (le 1 g.kind ++ le 1 what ++ le 1 g.slot ++ zeros 1 ++ le 4 g.tag)

/-- Pending changes are discarded and their event slots freed (09 R281, R282, R291). -/
def dropChanges (c : Chip) (a what : Nat) : Chip :=
  let c := (c.pax a).changes.foldl (fun c g => freeSlot (gearEvent c a what g) g.ev) c
  onAx c a (fun x => { x with changes := [] })

/-- The axis leaves every order for a per-axis stop, at d_stop when `hard`, and then HOLD; `keep` keeps its next target. -/
def stopAxis (c : Chip) (a : Nat) (hard keep : Bool) : Chip :=
  let c := if keep then c else dropNext c a
  let c := dropChanges c a 3
  let moving := vOut c (c.pax a) ≠ 0 || aOut c (c.pax a) ≠ 0 || (c.pax a).stopping.isSome
  onAx c a (fun x => { x with
    mode := .hold, move := none, home := none, reg := none, master := none, lag := 0, tracking := true,
    stopping := if moving then some (hard || x.stopping = some true) else none,
    v := if moving then x.v else 0, a := if moving then x.a else 0 })

/-- The stream of an axis closes; its axes stop. -/
def closeStream (c : Chip) (s : Nat) (stop : Bool) : Chip :=
  match vget c.prof.stream s with
  | none => c
  | some t =>
    let c := c.onProf (fun p => { p with stream := vset p.stream s none })
    t.axes.foldl (fun c a => if stop then stopAxis c a false false else onAx c a (fun x => { x with mode := .hold, v := 0, a := 0, lag := 0 })) c

/-- The stream an axis is in. -/
def streamOf (c : Chip) (a : Nat) : Option Nat :=
  (List.range 8).find? (fun s => match vget c.prof.stream s with | some t => t.axes.contains a | none => false)

/-- Axes of an owner come to rest: along the path in TABLE mode, else by per-axis stops; then HOLD (09 R266, R278, R279). -/
def stopOwner (c : Chip) (o : Nat) (hard : Bool) : Chip :=
  let ch := c.chain o
  if ch.started then
    let c := (ownerAxes c o).foldl dropNext c
    onChain c o (fun ch => { ch with stopping := some (hard || ch.stopping = some true) })
  else
    let c := match ch.waitLine with | some w => freeSlot c w.2.2 | none => c
    let c := onChain c o (fun ch => { ch with queue := [], waitLine := none, table := none, planner := false })
    (ownerAxes c o).foldl (fun c a =>
      match streamOf c a with
      | some s => closeStream c s true
      | none => stopAxis c a hard false) c

/-- The chain of an owner is gone and its axes hold at the measured positions (09 R278, ARM_STOP after a fault; R266). -/
def dropOwner (c : Chip) (o : Nat) : Chip :=
  let c := match (c.chain o).waitLine with | some w => freeSlot c w.2.2 | none => c
  let c := onChain c o (fun _ => {})
  (ownerAxes c o).foldl (fun c a =>
    let c := match streamOf c a with | some s => closeStream c s false | none => c
    holdMeasured (dropChanges (dropNext c a) a 3) a) c

/-! ### Masters and gearing (09 R280-R282) -/

/-- Position and velocity (counts, counts/µs) of a line state at an instant, exact. -/
def exactAt (e : Est) (t : Int) : Rat × Rat :=
  (mkRat (e.num t) (2 ^ 48 * 2000000), mkRat (e.v * 65536000 + e.a * (t - e.t)) (65536000 * 2 ^ 32))

/-- The line snapshot S(j) for j = the cycle in progress plus `ahead` (02 R43). -/
def snapAt (c : Chip) (l ahead : Nat) : Rat × Rat :=
  let e := match c.lt.snaps[1 - ahead]? with | some s => vget s l | none => (c.line l).state
  exactAt e (c.t0 + c.ptOff + Config.tIn + ahead * c.period)

/-- Position and velocity of a master (09 R280). -/
def masterAt (c : Chip) (kind i : Nat) : Rat × Rat :=
  if kind = 0 then snapAt c i 1 else ((c.pax (96 + i)).p, (c.pax (96 + i)).v)

/-- The demand before the changes, and after each change that the master has passed (09 R281): the result, or the form that holds
further on (base, master position, ratio). -/
def gearStep (neg : Bool) (m : Rat) (acc : Option (Rat × Rat) × Rat × Rat × Rat) (g : GearChange) :
    Option (Rat × Rat) × Rat × Rat × Rat :=
  match acc with
  | (some r, s) => (some r, s)
  | (none, base, bm, r0) =>
    let d : Rat := if neg then -1 else 1
    let x := d * (m - g.mc)
    let pc := base + r0 * (g.mc - bm)
    let B : Rat := g.blend
    if x ≤ 0 then (some (base + r0 * (m - bm), r0), base, bm, r0)
    else if x < B then
      let s := x / B
      (some (pc + d * (r0 * x + (g.ratio - r0) * B * (s ^ 3 - s ^ 4 / 2)), r0 + (g.ratio - r0) * (3 * s ^ 2 - 2 * s ^ 3)), base, bm, r0)
    else (none, pc + d * (r0 * B + (g.ratio - r0) * B / 2), g.mc + d * B, g.ratio)

/-- The demand of a geared axis at a master position, and its slope (09 R280, R281). -/
def gearDemand (x : Prof) (m : Rat) : Rat × Rat :=
  match x.changes.foldl (gearStep x.gearNeg m) (none, x.base, x.baseM, x.ratio) with
  | (some r, _) => r
  | (none, base, bm, r) => (base + r * (m - bm), r)

/-- Crossings and retirements of changes at a master position (09 R282). -/
def gearMarks (c : Chip) (a : Nat) (m : Rat) : Chip :=
  (c.pax a).changes.foldl (fun c g =>
    let x := c.pax a
    let d : Rat := if x.gearNeg then -1 else 1
    let far := d * (m - g.mc)
    if !(x.changes.any (fun h => h.slot = g.slot)) then c else
    let c := if !g.started && 0 ≤ far then
        gearEvent (onAx c a (fun x => { x with changes := x.changes.map (fun h => if h.slot = g.slot then { h with started := true } else h) })) a 0 g
      else c
    let first := (c.pax a).changes.head?.map (·.slot) = some g.slot
    if first && 0 ≤ far && (g.blend : Rat) ≤ far then
      let f := gearStep x.gearNeg (g.mc + d * g.blend) (none, x.base, x.baseM, x.ratio) g
      let c := onAx c a (fun x => { x with
        changes := x.changes.drop 1, base := f.2.1, baseM := f.2.2.1, ratio := g.ratio, leaving := x.leaving || g.kind = 2 })
      freeSlot (gearEvent c a 1 g) g.ev
    else c) c

/-- A lag beyond its limit is a profile fault (09 R269): the axis stops; the joints of an arm, which share one mode, stop together. -/
def lagCheck (c : Chip) (a : Nat) : Chip :=
  let x := c.pax a
  if x.lim.lagLim < absR x.lag && 0 < x.lim.lagLim then
    let c := onAx (postProf c 0x0803 a (zeros 4 ++ leI 4 (satI 32 (nearest 0 x.lag)))) a (fun x => { x with lagFault := true })
    match axisOwner c a with
    | some o =>
      let c := if o < 12 && (c.chain o).planner then stopChain c o 8 true else c
      if o < 12 || (c.chain o).started then stopOwner c o false else stopAxis c a false false
    | none => c
  else c

/-- A geared axis in one cycle. -/
def gearedStep (c : Chip) (a : Nat) : Chip :=
  match (c.pax a).master with
  | none => c
  | some (kind, i) =>
    let rested := vOut c (c.pax a) = 0 && aOut c (c.pax a) = 0 && nearest 16 (c.pax a).lag = 0
    if (c.pax a).leaving && (c.pax a).changes.isEmpty && rested then
      onAx c a (fun x => { x with mode := .hold, master := none, reg := none, leaving := false, v := 0, a := 0, lag := 0 })
    else
      let m := masterAt c kind i
      let c := gearMarks c a m.1
      let x := c.pax a
      let d := gearDemand x m.1
      lagCheck (onAx c a (fun x => follow c.tUs x.lim (fraction c a) x (d.1 + x.regOff) (d.2 * m.2))) a

/-! ### Point moves, streams, homing (09 R270, R271, R283-R286) -/

/-- The phases of a point move in force and its length in cycles (09 R270): 0 selects the limit of the axis. -/
def movePhases (c : Chip) (a : Nat) (x : Prof) (m : Move) : List Phase × Option Nat :=
  let pick := fun (v : Nat) (lim : Rat) (k : Int) => if v = 0 then lim else if lim < dyadic v k then lim else dyadic v k
  pointPlan (dyadic m.target (-16) - x.plan.1) x.plan.2.1 x.plan.2.2.1 (pick m.v (x.lim.v * fraction c a) (-32)) (pick m.a x.lim.acc (-48))
    (pick m.d x.lim.dec (-48)) (pick m.j x.lim.jerk (-64)) c.tUs

/-- A move starts from the present state. -/
def startMove (c : Chip) (a : Nat) (m : Move) : Chip :=
  onAx c a (fun x => { x with mode := .point, move := some { m with n := 0 }, plan := (x.p, x.v, x.a, fraction c a) })

/-- A moving axis in one cycle of a point move: replanned when the class fraction has changed. -/
def pointStep (c : Chip) (a : Nat) : Chip :=
  let x := c.pax a
  match x.move with
  | none => c
  | some m =>
    let again := x.plan.2.2.2 ≠ fraction c a
    let x := if again then { x with plan := (x.p, x.v, x.a, fraction c a) } else x
    let k := if again then 1 else m.n + 1
    let g := movePhases c a x m
    if g.2.any (· ≤ k) then
      moveDone (onAx c a (fun x => { x with p := dyadic m.target (-16), v := 0, a := 0, mode := .hold, move := none })) a m.tag 0
    else
      let y := stateAt g.1 (x.plan.1, x.plan.2.1, x.plan.2.2.1) (k * c.tUs)
      onAx c a (fun _ => inside x.lim { x with p := y.1, v := y.2.1, a := y.2.2, move := some { m with n := k }, posLimit := false })

/-- The demand of a streamed axis for the next cycle, and whether the stream is missing then. -/
def streamStep (c : Chip) (s a : Nat) : Chip :=
  match vget c.prof.stream s with
  | none => c
  | some t =>
    if (c.pax a).mode ≠ .stream then c else
    let x := c.pax a
    let place := (t.axes.findIdx? (· = a)).getD 0
    let pt := t.pts.find? (fun q => q.1 = c.cyc + 1 && q.2.1 = place)
    let T := c.tUs
    let d : Rat × Rat := match pt with
      | some q => if t.missing = 0 && !t.ended || t.endAt = some (c.cyc + 1) then
          (dyadic q.2.2 (-16), (dyadic q.2.2 (-16) - x.dem.1) / T) else (x.dem.1 + x.dem.2 * T, x.dem.2)
      | none => if t.ended then (x.dem.1, 0) else (x.dem.1 + x.dem.2 * T, x.dem.2)
    lagCheck (onAx c a (fun x => follow T x.lim (fraction c a) x d.1 d.2)) a

/-- The stream's own step (09 R284): complete sets, gaps from the first position on (log 39), the end. -/
def streamTurn (c : Chip) (s : Nat) : Chip :=
  match vget c.prof.stream s with
  | none => c
  | some t =>
    let n := c.cyc + 1
    let whole := (List.range t.axes.length).all (fun i => t.pts.any (fun q => q.1 = n && q.2.1 = i))
    let begun := t.pts.any (fun q => q.1 ≤ n) || t.missing ≠ 0 || t.ended
    let ended := t.ended || (whole && t.endAt = some n)
    let c := c.onProf (fun p => { p with stream := vset p.stream s (some { t with
      missing := if whole || ended || !begun then 0 else t.missing + 1, ended := ended }) })
    let c := t.axes.foldl (fun c a => streamStep c s a) c
    let c := c.onProf (fun p => { p with stream := vmod p.stream s (fun o => o.map (fun t => { t with
      pts := t.pts.filter (fun q => n ≤ q.1) })) })
    let rested := t.axes.all (fun a => vOut c (c.pax a) = 0 && aOut c (c.pax a) = 0 && nearest 16 (c.pax a).lag = 0)
    if t.ended && rested then post (closeStream c s false) 3 0x0806 0xFF 0xFF (le 1 s ++ le 1 1) else c

/-- A stream missing beyond g cycles: its axes stop (09 R284). -/
def execStreamGapExpiry (stream : Fin 8) : State → Host.Outcome State Fault Refusal :=
  run fun c => match vget c.prof.stream stream with
    | some t => if t.gap < t.missing then post (closeStream c stream true) 3 0x0806 0xFF 0xFF (le 1 stream ++ le 1 0) else c
    | none => c

/-- PROF_HOMED (09 R292). -/
def homedEvent (c : Chip) (a st : Nat) (o : Int) : Chip := postProf c 0x0807 a (le 1 st ++ zeros 3 ++ leI 4 (o % 4294967296))

/-- A homing search in one cycle: no position limits (09 R286). -/
def homeStep (c : Chip) (a : Nat) (h : Homing) : Chip :=
  let x := c.pax a
  let v := dyadic h.v (-32)
  let vd := if h.negative then -v else v
  let y := limiter c.tUs (x.p, x.v, x.a) 0 vd x.lim.v x.lim.v x.lim.acc x.lim.dec x.lim.dec x.lim.jerk
  let x := { x with p := y.1, v := y.2.1, a := y.2.2 }
  let fast := h.fast || vOut c x = nearest 16 (vd * c.tUs)
  onAx c a (fun _ => { x with home := some { h with fast := fast } })

/-- The search distance is travelled (09 R286). -/
def homeTimeoutOp (n : Nat) (c : Chip) : Chip :=
  let a := 96 + n
  match (c.pax a).home with
  | some h =>
    if !h.found && (h.dist : Rat) ≤ absR ((c.pax a).p - h.start) then homedEvent (stopAxis c a false false) a 7 (c.pax a).o else c
  | none => c

def execHomeSearchTimeout (aux : Fin 32) : State → Host.Outcome State Fault Refusal := run (homeTimeoutOp aux)

/-- A per-axis stop in one cycle (09 R266, R267): it ends when the written velocity and acceleration are 0 (log 37). -/
def stopStep (c : Chip) (a : Nat) (hard : Bool) : Chip :=
  let x := c.pax a
  let dec := if hard then x.lim.decStop else x.lim.dec
  let y := limiter c.tUs (x.p, x.v, x.a) 0 0 x.lim.v x.lim.v x.lim.acc dec x.lim.dec x.lim.jerk
  let x := { x with p := y.1, v := y.2.1, a := y.2.2 }
  let x := if x.home.isSome then x else inside x.lim x
  if vOut c x ≠ 0 || aOut c x ≠ 0 then onAx c a (fun _ => x) else
  let c := onAx c a (fun _ => { x with v := 0, a := 0, stopping := none, dem := (x.p, 0), home := none })
  match x.home with
  | some h =>
    let c := homedEvent c a 0 x.o
    if h.moveHome then startMove c a { target := h.value, v := 0, a := 0, d := 0, j := 0, tag := 0 } else c
  | none => c

/-- One axis outside TABLE and STREAM mode in one cycle. -/
def axisStep (c : Chip) (a : Nat) : Chip :=
  let x := c.pax a
  let c := match x.stopping, x.home, x.mode with
    | some hard, _, _ => stopStep c a hard
    | none, some h, _ => homeStep c a h
    | none, none, .geared => gearedStep c a
    | none, none, .point => pointStep c a
    | _, _, _ => onAx c a (fun x => { x with v := 0, a := 0, lag := 0, posLimit := false })
  let y := c.pax a
  match y.next with
  | some (m, _) =>
    if y.stopping.isNone && y.move.isNone && y.mode = .hold && y.home.isNone then startMove (onAx c a (fun x => { x with next := none })) a m else c
  | none => c

/-! ### Tables (09 R273-R278, 08 R236) -/

/-- The advance of σ that the cycle offers at ρ = 1 (09 R275). -/
def offered (c : Chip) (s : Seg) : Rat := if s.lineSpan then (snapAt c s.line 1).1 - (snapAt c s.line 0).1 else c.tUs

/-- ρ after one cycle (09 R277). -/
def pathRate (T : Rat) (g : OwnerCfg) (hard : Bool) (rho rhoD cap : Rat) : Rat × Rat :=
  let step := mkRat (if hard then g.rhoStop else g.rhoMax) (65536 * 1000000) * T
  let step2 := mkRat g.rho2Max (65536 * 1000000000000) * T * T
  let d := clipR (cap - rho) step
  let d := rhoD + clipR (d - rhoD) step2
  let r := rho + d
  if r < 0 then (0, 0) else (r, d)

/-- The next record takes over what runs past the end of the first (09 R275): converted where the kinds of span differ. -/
def carry (c : Chip) (s next : Seg) (rem' : Rat) : Rat × List (Rat × Rat) :=
  let ends := s.axes.map (fun e => (dyadic e.1 (-16), dyadic e.2 (-32)))
  if s.lineSpan = next.lineSpan then (rem', ends) else
  let v := (snapAt c (if s.lineSpan then s.line else next.line) 1).2
  if v = 0 then (0, ends.map (fun e => (e.1, 0)))
  else if s.lineSpan then (rem' / v, ends.map (fun e => (e.1, e.2 * v)))
  else (rem' * v, ends.map (fun e => (e.1, e.2 / v)))

/-- The records of a host table again, their LINE spans moved on by the total LINE span (09 R274). -/
def nextRound (l : List Seg) : List Seg :=
  let total := (l.map (fun s => if s.lineSpan then s.span else 0)).foldl (· + ·) 0
  l.map (fun s => if s.lineSpan then { s with start := s.start + total } else s)

/-- PROF_TABLE_DONE (09 R292). -/
def tableDone (c : Chip) (o last repeats : Nat) : Chip :=
  post c 3 0x0805 (if o < 12 then o else 0xFF) (if o < 12 then 0xFF else 96 + (o - 12)) (le 4 last ++ le 2 (repeats % 65536))

/-- The last record of a chain has ended (09 R274, R278; 08 R246). -/
def chainEnd (c : Chip) (o : Nat) (s : Seg) (rest : Rat) : Chip :=
  let ch := c.chain o
  let rate := if ch.rho = 0 then 0 else ch.rho
  let c := ((ownerAxes c o).zip s.axes).foldl (fun c e =>
    let d := dyadic e.2.2 (-32)
    onAx c e.1 (fun x => if s.endRest then { x with p := dyadic e.2.1 (-16), v := 0, a := 0, mode := .hold, lag := 0, dem := (dyadic e.2.1 (-16), 0) }
      else { x with p := dyadic e.2.1 (-16) + d * rest, v := d * rate * (if s.lineSpan then (snapAt c s.line 1).2 else 1), mode := .hold,
                    stopping := some false, lag := 0 })) c
  let c := if ch.planner then (if s.endRest then c else chainStarved c o s.id)
    else match ch.table with
      | some (_, _, done) => tableDone c o s.id (done + 1)
      | none => c
  onChain c o (fun _ => {})

/-- Records end as σ runs past them. -/
def turnOver (o : Nat) : Nat → Chip → Chip
  | 0, c => c
  | n + 1, c =>
    let ch := c.chain o
    match ch.queue with
    | [] => c
    | s :: rest =>
      let S := spanOf s
      let beyond := if 0 ≤ S then S ≤ ch.sigma else ch.sigma ≤ S
      if !beyond then c else
      let c := if ch.planner then endSeg c s.id else c
      match rest, ch.table with
      | t :: _, _ =>
        let k := carry c s t (ch.sigma - S)
        turnOver o n (onChain c o (fun ch => { ch with queue := rest, sigma := k.1, from0 := k.2 }))
      | [], some (recs, r, done) =>
        if r = 0 || done + 1 < r then
          let recs := nextRound recs
          (match recs with
           | t :: _ =>
             let k := carry c s t (ch.sigma - S)
             turnOver o n (onChain c o (fun ch => { ch with
               queue := recs, sigma := k.1, from0 := k.2, table := some (recs, r, done + 1) }))
           | [] => c)
        else chainEnd c o s (ch.sigma - S)
      | [], none => chainEnd c o s (ch.sigma - S)

/-- The first record of a waiting chain begins when its line is there (09 R274, R291). -/
def chainBegins (c : Chip) (o : Nat) : Chip :=
  let ch := c.chain o
  match ch.queue with
  | [] => c
  | s :: _ =>
    let wait : Option (Nat × Int) := match ch.waitLine with
      | some w => some (w.1, w.2.1)
      | none => if s.lineSpan then some (s.line, s.start) else none
    let there := match wait with
      | none => true
      | some (l, x) => if s.lineSpan && s.span < 0 then (snapAt c l 1).1 ≤ (x : Rat) else (x : Rat) ≤ (snapAt c l 1).1
    if !there then c else
    let c := match ch.waitLine with | some w => freeSlot c w.2.2 | none => c
    let c := (ownerAxes c o).foldl (fun c a => onAx c a (fun x => { x with mode := .table })) c
    onChain c o (fun ch => { ch with
      started := true, waitLine := none, rho := 1, rhoD := 0, stopping := none,
      sigma := if s.lineSpan then (let x := (snapAt c s.line 0).1 - s.start; if 0 < x * s.span then 0 else x) else 0,
      from0 := (ownerAxes c o).map (fun a => ((c.pax a).p, 0)) })

/-- An owner in TABLE mode in one cycle (09 R275-R278). -/
def chainStep (c : Chip) (o : Nat) : Chip :=
  let c := if (c.chain o).started then c else chainBegins c o
  let ch := c.chain o
  if !ch.started then c else
  match ch.queue, c.ocfg o with
  | s :: _, some g =>
    let T := c.tUs
    let kind := s.lineSpan
    let dn := offered c s
    let up : Rat := if 0 ≤ spanOf s then 1 else -1
    let zero := fun (x : Rat) => if up * x < 0 then 0 else x
    let lagBefore := if s.lineSpan then up * ((snapAt c s.line 0).1 - s.start - ch.sigma) else 0
    let slopes := ((ch.from0.zip s.axes).map (fun e => absR ((curveAt s (zero ch.sigma) e.1 e.2).2.1 * dn)))
    let limits := ((ownerAxes c o).zip slopes).filterMap (fun e =>
      if e.2 = 0 then none else some (fraction c e.1 * (c.pax e.1).lim.v * T / e.2))
    let top : Rat := if s.lineSpan && 0 < lagBefore then 1 + mkRat g.catchUp 65536 else 1
    let cap := limits.foldl (fun m x => if x < m then x else m) top
    let cap := if ch.stopping.isSome then 0 else cap
    let r := pathRate T g (ch.stopping = some true) ch.rho ch.rhoD cap
    let adv := r.1 * dn
    let aim := lagBefore + up * dn
    let adv := if s.lineSpan && ch.stopping.isNone && 0 ≤ aim && aim < up * adv then up * aim else adv
    let sig := zero (ch.sigma + adv)
    let c := onChain c o (fun ch => { ch with sigma := sig, rho := r.1, rhoD := r.2,
                                              lag := if s.lineSpan then (snapAt c s.line 1).1 - s.start - sig else 0 })
    let c := turnOver o 24 c
    let ch := c.chain o
    match ch.queue with
    | [] => c
    | s :: _ =>
      let dn' := offered c s
      let rate := if s.lineSpan = kind then adv / T else r.1 * dn' / T
      let c := ((ownerAxes c o).zip (ch.from0.zip s.axes)).foldl (fun c e =>
        let k := curveAt s ch.sigma e.2.1 e.2.2
        let c := onAx c e.1 (fun x =>
          let y := inside x.lim { x with
            mode := .table, p := k.1, v := k.2.1 * rate, a := k.2.2 * rate * rate + k.2.1 * (r.2 * dn') / (T * T), posLimit := false,
            dem := (k.1, 0) }
          { y with lag := k.1 - y.p })
        if ch.stopping.isSome then c else lagCheck c e.1) c
      if ch.stopping.isSome && ch.rho = 0 then
        onChain ((ownerAxes c o).foldl (fun c a => onAx c a (fun x => { x with mode := .hold, v := 0, a := 0 })) c) o (fun _ => {})
      else if o < 12 && s.lineSpan && (c.chain o).stopping.isNone && word lenF g.pathLag / countLen < absR ch.lag then
        let c := post c 3 0x0803 o 0xFF (le 1 1 ++ zeros 3 ++ leI 4 (satI 32 (nearest 0 ch.lag)))
        let c := (ownerAxes c o).foldl (fun c a => onAx c a (fun x => { x with lagFault := true })) c
        let c := if ch.planner then stopChain c o 8 true else c
        onChain c o (fun ch => { ch with stopping := some false })
      else c
  | _, _ => c

/-! ### Latch edges, registration, commutation (09 R285, R287, R288) -/

/-- The raw position of an axis at an edge, between its last two samples (09 R285). -/
def rawAt (c : Chip) (a : Nat) (t : Int) : Option Rat :=
  match c.acfg a with
  | none => none
  | some g =>
    let n := c.node (g.node - 1)
    if n.sample ≠ (n.samplePrev + 1) % 65536 || n.tin ≤ n.tinPrev || t < n.tinPrev || n.tin < t then none else
    let x : Rat := (n.axesPrev.getD g.pos {}).pos
    let y : Rat := (n.axes.getD g.pos {}).pos
    some (x + (y - x) * mkRat (t - n.tinPrev) (n.tin - n.tinPrev).natAbs)

/-- An edge is of the configured kind: 1 rising, 2 falling. -/
def edgeIs (kind : Nat) (rising : Bool) : Bool := (kind = 1 && rising) || (kind = 2 && !rising)

/-- One edge for one auxiliary axis (09 R286, R287). -/
def edgeFor (c : Chip) (e : Nat × Bool × Int) (a : Nat) : Chip :=
  let x := c.pax a
  match rawAt c a e.2.2 with
  | none => c
  | some raw =>
    let c := match x.home with
      | some h =>
        if h.latch = e.1 && edgeIs h.edge e.2.1 && h.fast && !h.found then
          onAx c a (fun x => { x with
            home := some { h with found := true }, homeO := some (h.value - nearest 16 raw), stopping := some false })
        else c
      | none => c
    match x.reg with
    | some r =>
      if r.latch ≠ e.1 || !edgeIs r.edge e.2.1 || r.left = some 0 then c else
      let pe := raw + dyadic x.o (-16)
      let x0 := dyadic r.x0 (-16)
      let pitch := dyadic r.pitch (-16)
      let n : Rat := if pitch = 0 then 0 else nearest 0 ((pe - x0) / pitch)
      let err := x0 + n * pitch - pe
      if absR err ≤ r.w then
        let k := clipR err r.cMax
        let c := onAx c a (fun x => { x with regNew := x.regNew + k, reg := some { r with left := r.left.map (· - 1) } })
        postProf c 0x0808 a (leI 4 (satI 32 (nearest 0 k)))
      else onAx c a (fun x => { x with regOutside := inc x.regOutside, reg := some { r with left := r.left.map (· - 1) } })
    | none => c

/-- At a boundary: edges whose two uplinks have come take their effect; older ones are not used. -/
def edgesTurn (c : Chip) : Chip :=
  let now : Int := c.t0 + c.ptOff
  let c := c.prof.edges.foldl (fun c e => (List.range 32).foldl (fun c n => edgeFor c e (96 + n)) c) c
  c.onProf (fun p => { p with edges := p.edges.filter (fun e => now - (c.period : Int) + Config.tIn ≤ e.2.2) })

/-- An edge of a latch input reaches the profile unit (09 R285-R287). -/
def profEdge (c : Chip) (latch : Nat) (rising : Bool) (t : Int) : Chip :=
  if (List.range 32).any (fun n =>
      let x := c.pax (96 + n)
      (match x.home with | some h => h.latch = latch && h.fast && !h.found | none => false)
        || (match x.reg with | some r => r.latch = latch | none => false))
  then c.onProf (fun p => { p with edges := p.edges ++ [(latch, rising, t)] }) else c

/-- The factory commutation table is T[i] = round(32 767 cos(π i / 512)) (09 R288), entries 0-255. -/
def factoryTable : List Nat := [
  32767, 32766, 32765, 32761, 32757, 32752, 32745, 32737, 32728, 32717, 32705, 32692, 32678, 32663, 32646, 32628, 32609, 32589,
  32567, 32545, 32521, 32495, 32469, 32441, 32412, 32382, 32351, 32318, 32285, 32250, 32213, 32176, 32137, 32098, 32057, 32014,
  31971, 31926, 31880, 31833, 31785, 31736, 31685, 31633, 31580, 31526, 31470, 31414, 31356, 31297, 31237, 31176, 31113, 31050,
  30985, 30919, 30852, 30783, 30714, 30643, 30571, 30498, 30424, 30349, 30273, 30195, 30117, 30037, 29956, 29874, 29791, 29706,
  29621, 29534, 29447, 29358, 29268, 29177, 29085, 28992, 28898, 28803, 28706, 28609, 28510, 28411, 28310, 28208, 28105, 28001,
  27896, 27790, 27683, 27575, 27466, 27356, 27245, 27133, 27019, 26905, 26790, 26674, 26556, 26438, 26319, 26198, 26077, 25955,
  25832, 25708, 25582, 25456, 25329, 25201, 25072, 24942, 24811, 24680, 24547, 24413, 24279, 24143, 24007, 23870, 23731, 23592,
  23452, 23311] ++ [
  23170, 23027, 22884, 22739, 22594, 22448, 22301, 22154, 22005, 21856, 21705, 21554, 21403, 21250, 21096, 20942, 20787, 20631,
  20475, 20317, 20159, 20000, 19841, 19680, 19519, 19357, 19195, 19032, 18868, 18703, 18537, 18371, 18204, 18037, 17869, 17700,
  17530, 17360, 17189, 17018, 16846, 16673, 16499, 16325, 16151, 15976, 15800, 15623, 15446, 15269, 15090, 14912, 14732, 14553,
  14372, 14191, 14010, 13828, 13645, 13462, 13279, 13094, 12910, 12725, 12539, 12353, 12167, 11980, 11793, 11605, 11417, 11228,
  11039, 10849, 10659, 10469, 10278, 10087, 9896, 9704, 9512, 9319, 9126, 8933, 8739, 8545, 8351, 8157, 7962, 7767, 7571, 7375,
  7179, 6983, 6786, 6590, 6393, 6195, 5998, 5800, 5602, 5404, 5205, 5007, 4808, 4609, 4410, 4210, 4011, 3811, 3612, 3412, 3212,
  3012, 2811, 2611, 2410, 2210, 2009, 1809, 1608, 1407, 1206, 1005, 804, 603, 402, 201]

/-- The phase currents of a stepper for a set-point in whole microsteps (09 R288). -/
def phases (t : List Nat) (p i : Int) : Int × Int :=
  let e := (p % 1024).toNat
  let k := e % 256
  let a : Int := t.getD k 0
  let b : Int := if k = 0 then 0 else t.getD (256 - k) 0
  let xy := match e / 256 with | 0 => (a, b) | 1 => (-b, a) | 2 => (-a, -b) | _ => (b, -a)
  (xy.1 * i / 32768, xy.2 * i / 32768)

/-- AT_REST has held for t_hd (09 R288). -/
def holdDelayOp (a : Nat) (c : Chip) : Chip :=
  match c.acfg a, (c.pax a).restSince with
  | some g, some t => if g.phase && t + g.holdMs * 1000000 ≤ c.now then onAx c a (fun x => { x with holdCur := true }) else c
  | _, _ => c

def execHoldCurrentDelay (axis : Fin 128) : State → Host.Outcome State Fault Refusal := run (holdDelayOp axis)

/-! ### The unit in a cycle (09 R261, R291) -/

/-- Whether an axis follows its measured position (09 R266, 06 R184, R187): its owner is DISABLED, FAULTED or stopping after a fault. -/
def followsMeasured (s : ArmSeq) : Bool := s.st = .disabled || s.st = .faulted || (s.st = .stopping && s.stop = .fault)

/-- The set-point fields of an axis for the next cycle (09 R261; 06 R170). -/
def writeSetPoint (c : Chip) (a : Nat) : Chip :=
  match c.acfg a with
  | none => c
  | some g =>
    let rest := atRest c a
    let c := onAx c a (fun x => { x with
      restSince := if rest then x.restSince.orElse (fun _ => some c.now) else none, holdCur := rest && x.holdCur })
    let x := c.pax a
    let p := nearest 16 x.p - x.o
    let ph := if g.phase then phases (vget c.prof.tab g.table) (p / 65536) (if x.holdCur then g.iHold else g.iRun) else (0, 0)
    onAxis c a (fun k => { k with
      spNext := { k.spNext with
        pSp := p, vSp := satI 32 (vOut c x), aSp := satI 32 (aOut c x), spFlags := b2n rest, phA := ph.1, phB := ph.2 } })

/-- Gear depth of an axis: masters are evaluated before their slaves (09 R280). -/
def gearDepth (c : Chip) : Nat → Nat → Nat
  | 0, _ => 0
  | n + 1, a => match (c.pax a).master with
    | some (1, i) => if (c.pax a).mode = .geared then gearDepth c n (96 + i) + 1 else 0
    | _ => 0

/-- What falls due at rest: deferred limits, home offsets, corrections, table copies (09 R272, R286, R287, R289). -/
def profDue (c : Chip) (a : Nat) : Chip :=
  let c := match (c.pax a).deferred with
    | some l => if atRest c a then postProf (onAx c a (fun x => { x with lim := l, deferred := none })) 0x0802 a (le 1 0) else c
    | none => c
  onAx c a (fun x => { x with
    p := match x.homeO with | some o => x.p + dyadic (o - x.o) (-16) | none => x.p,
    o := x.homeO.getD x.o, homeO := none, regOff := x.regOff + x.regNew, regNew := 0 })

/-- Classes and masters: SC0 brings a group to rest, a lost master line stops its slave (09 R279, R282). -/
def profReactions (c : Chip) : Chip :=
  let c := (owners c).foldl (fun c o =>
    if ownerClass c o = some 0 && (enabledSt (c.seq o).st) then
      let c := if o < 12 && (armSegs c o).any (fun s => s.st = .committed) then stopChain c o 4 true else c
      if (c.chain o).started then onChain c o (fun ch => { ch with stopping := some true })
      else (ownerAxes c o).foldl (fun c a =>
        let x := c.pax a
        if x.mode ≠ .hold || x.stopping = some false || x.next.isSome || x.home.isSome then
          (match streamOf c a with | some s => closeStream c s true | none => stopAxis c a true false) else c) c
    else c) c
  (List.range 32).foldl (fun c n =>
    let a := 96 + n
    match (c.pax a).mode, (c.pax a).master with
    | .geared, some (0, l) =>
      if (c.line l).usable then c else
      let c := (c.pax a).changes.foldl (fun c g => freeSlot c g.ev) c
      let c := onAx c a (fun x => { x with changes := [] })
      stopAxis (postProf c 0x0804 a (le 1 1 ++ le 1 2 ++ le 1 0xFF)) a false false
    | _, _ => c) c

/-- The set-points of cycle k + 1, after the effects of the boundary of cycle k (09 R261, R291). -/
def profTurn (c : Chip) : Chip :=
  let all := (List.range 128).filter (fun a => (c.acfg a).isSome)
  let c := c.onProf (fun p => { p with
    tab := vmapIdx p.tab (fun i t => if vget p.tabDue i then vget p.tabNext i else t),
    tabNext := vmapIdx p.tabNext (fun i t => if vget p.tabDue i then vget p.tab i else t),
    tabDue := Vector.replicate 4 false })
  let c := edgesTurn c
  let c := all.foldl profDue c
  let c := (owners c).foldl (fun c o => if followsMeasured (c.seq o) then dropOwner c o else c) c
  let c := profReactions c
  let c := (owners c).foldl (fun c o => if (c.chain o).queue.isEmpty then c else chainStep c o) c
  let c := (List.range 8).foldl streamTurn c
  let free := fun (c : Chip) (a : Nat) => (c.pax a).mode ≠ .table && (c.pax a).mode ≠ .stream
  let c := (List.range 5).foldl (fun c d => (all.filter (fun a => gearDepth c 4 a = d && free c a)).foldl axisStep c) c
  all.foldl writeSetPoint c

/-! ### Commands (09 R293, R294) -/

/-- An axis with an owner. -/
def axisKnown (c : Chip) (a : Nat) : Bool := (c.acfg a).isSome && (axisOwner c a).isSome

/-- The mode an axis reports: the joints of an arm share one (09 R266). -/
def modeOf (c : Chip) (a : Nat) : Mode :=
  match axisOwner c a with
  | some o => if o < 12 then (((ownerAxes c o).map (fun b => (c.pax b).mode)).find? (· ≠ .hold)).getD .hold else (c.pax a).mode
  | none => (c.pax a).mode

/-- PROF_GET. -/
def bodyProfGet (q : Req) (c : Chip) : Reply :=
  let a := byteN q.payload 0
  if !axisKnown c a then refuse c .badParam else
  let x := c.pax a
  let gap := match (streamOf c a).bind (vget c.prof.stream) with | some t => t.missing ≠ 0 | none => false
  let rho := match axisOwner c a with | some o => (c.chain o).rho | none => 1
  answer c .ok (le 1 (modeOf c a).code
    ++ le 1 (bits [atRest c a, x.posLimit, x.deferred.isSome, x.lagFault, gap, x.next.isSome]) ++ le 1 x.changes.length ++ zeros 1
    ++ leI 8 (nearest 16 x.p) ++ leI 8 (nearest 16 x.lag) ++ le 4 (satU 32 (nearest 16 rho)) ++ le 4 x.streamLate ++ le 4 x.regOutside
    ++ leI 8 x.o)

def execProfGet (q : Req) : State → Host.Outcome State Fault Refusal :=
  host 0x0801 44 (lay 1 fun b => [bLe b 0 127]) bodyProfGet q

/-- A limit record (09 R262). -/
def parseLimits (b : Bytes) (off : Nat) : Limits :=
  { vMax := ru b off 8, aMax := ru b (off + 8) 8, dMax := ru b (off + 16) 8, dStop := ru b (off + 24) 8, jMax := ru b (off + 32) 8,
    posMin := ri b (off + 40) 8, posMax := ri b (off + 48) 8, lagLim := ru b (off + 56) 4 }

/-- Its constraints (09 R262). -/
def limitsOk (l : Limits) : Bool :=
  0 < l.vMax && 0 < l.aMax && 0 < l.dMax && l.dMax ≤ l.dStop && 0 < l.jMax && l.posMin < l.posMax && 0 < l.lagLim

/-- The new record is deferred (09 R272): the axis decelerates toward its target or toward a limit, and would pass it. -/
def defersLimits (x : Prof) (l : Limits) : Bool :=
  let lower := l.dMax < x.lim.dMax || l.aMax < x.lim.aMax || l.jMax < x.lim.jMax
  let goal := match x.move with
    | some m => dyadic m.target (-16)
    | none => if 0 < x.v then x.lim.hi else x.lim.lo
  lower && x.a * x.v < 0 && absR (goal - x.p) < stopDistance x.v x.a l.dec l.jerk

/-- PROF_SET_LIMITS; whether it is deferred travels with the effect. -/
def bodySetLimits (q : Req) (c : Chip) : Reply :=
  let a := byteN q.payload 0
  let l := parseLimits q.payload 8
  let p := nearest 16 (c.pax a).p
  if !axisKnown c a || p < l.posMin || l.posMax < p then refuse c .badParam else
  let d := defersLimits (c.pax a) l
  answer (deferB c 0x0802 { q with payload := q.payload ++ le 1 (b2n d) }) (if d then .queued else .ok) (le 1 (b2n d))

def execProfSetLimits (q : Req) : State → Host.Outcome State Fault Refusal :=
  host 0x0802 5 (lay 72 fun b => [bLe b 0 127, rsv b 1 7, rsv b 68 4, limitsOk (parseLimits b 8)]) bodySetLimits q

def applySetLimits (b : Bytes) (c : Chip) : Chip :=
  let a := byteN b 0
  let l := parseLimits b 8
  let c := if (c.pax a).deferred.isSome then
      postProf (onAx c a (fun x => { x with deferred := none })) 0x0802 a (le 1 Status.refusedState.code) else c
  if byteN b 72 = 1 then onAx c a (fun x => { x with deferred := some l })
  else onAx c a (fun x => { x with
    lim := l, plan := if x.move.isSome then (x.p, x.v, x.a, x.plan.2.2.2) else x.plan, move := x.move.map (fun m => { m with n := 0 }) })

/-- A move in progress, a stop, or any motion of the axis. -/
def axisMoving (c : Chip) (a : Nat) : Bool := !atRest c a

/-- An axis whose owner runs something a point move cannot join (09 R266). -/
def otherMode (c : Chip) (a : Nat) : Bool :=
  let m := modeOf c a
  m = .table || m = .geared || m = .stream || (c.pax a).home.isSome
    || (match axisOwner c a with | some o => !(c.chain o).queue.isEmpty | none => false)

def parseMove (b : Bytes) : Move :=
  { target := ri b 8 8, v := ru b 16 8, a := ru b 24 8, d := ru b 32 8, j := ru b 40 8, tag := ru b 4 4 }

/-- PROF_MOVE (09 R270, R271). -/
def bodyMove (q : Req) (c : Chip) : Reply :=
  let a := byteN q.payload 0
  let m := parseMove q.payload
  let l := (c.pax a).lim
  let f := byteN q.payload 1
  let breach := m.target < l.posMin || l.posMax < m.target || l.vMax < m.v || l.aMax < m.a || l.dMax < m.d || l.jMax < m.j
  let bars := firstFail [
    (!axisKnown c a || breach, Status.badParam), (motionBars c [a], .refusedState),
    (otherMode c a || (axisMoving c a && f = 0), .busy)]
  match bars with
  | some st => refuse c st
  | none => answer (deferB c 0x0803 q) (if axisMoving c a && f = 1 then .queued else .ok)

def execProfMove (q : Req) : State → Host.Outcome State Fault Refusal :=
  host 0x0803 4 (lay 48 fun b => [bLe b 0 127, bLe b 1 2, rsv b 2 2]) bodyMove q

/-- Its effect (09 R271, R291). -/
def applyMove (b : Bytes) (c : Chip) : Chip :=
  let a := byteN b 0
  let m := parseMove b
  let f := byteN b 1
  if motionBars c [a] || otherMode c a || (axisMoving c a && f = 0) then moveDone c a m.tag Status.refusedState.code
  else if !axisMoving c a then startMove c a m
  else
    let c := onAx (dropNext c a) a (fun x => { x with next := some (m, f = 1) })
    if f = 2 && (c.pax a).stopping.isNone then stopAxis c a false true else c

/-- PROF_HOLD (09 R266). -/
def bodyHold (q : Req) (c : Chip) : Reply :=
  match targetOwner (byteN q.payload 0) with
  | none => refuse c .badParam
  | some o =>
    if (c.ocfg o).isNone then refuse c .badParam
    else if (o < 12 && inAuto c) || !((c.seq o).st = .hold || (c.seq o).st = .running) then refuse c .refusedState
    else answer (deferB c 0x0804 q) .ok

def execProfHold (q : Req) : State → Host.Outcome State Fault Refusal :=
  host 0x0804 4 (lay 1 fun b => [(targetOwner (byteN b 0)).isSome]) bodyHold q

def applyHold (b : Bytes) (c : Chip) : Chip :=
  match targetOwner (byteN b 0) with | some o => stopOwner c o false | none => c

/-- A record of a host table (09 R273, 08 R235). -/
def parseSeg (b : Bytes) : Seg :=
  { id := ru b 0 4, pred := if ru b 4 4 = 0xFFFFFFFF then none else some (ru b 4 4), owner := (targetOwner (byteN b 8)).getD 44,
    lineSpan := byteN b 10 = 1, line := byteN b 11, endRest := mbit (byteN b 12) 0, checkpoint := mbit (byteN b 12) 1,
    cls := byteN b 14, start := ri b 16 8, span := ri b 24 8, tag := ru b 32 4,
    axes := (List.range (byteN b 9)).map (fun i => (ri b (40 + 16 * i) 8, ri b (48 + 16 * i) 8)) }

/-- Its layout (08 R235). -/
def laySeg (b : Bytes) : Bool :=
  40 ≤ b.length && b.length = 40 + 16 * byteN b 9 && [
    0x80000000 ≤ ru b 0 4 && ru b 0 4 ≠ 0xFFFFFFFF, (targetOwner (byteN b 8)).isSome, 1 ≤ byteN b 9 && byteN b 9 ≤ 12, bLe b 10 1,
    (if byteN b 10 = 1 then bLe b 11 3 else byteN b 11 = 0xFF && rsv b 16 8), ru b 12 2 < 4, byteN b 14 = 0xFF, rsv b 15 1,
    (if byteN b 10 = 1 then ri b 24 8 ≠ 0 else 31250 ≤ ri b 24 8 && ri b 24 8 ≤ 10000000000),
    !mbit (byteN b 12) 0 || (List.range (byteN b 9)).all (fun i => ri b (48 + 16 * i) 8 = 0)].all id

/-- PROF_TABLE_LOAD. -/
def bodyTableLoad (q : Req) (c : Chip) : Reply :=
  let b := q.payload
  let s := parseSeg b
  let st := c.prof.store
  let bytes := (st.map (fun (x : Seg) => 40 + 16 * x.axes.length)).foldl (· + ·) 0
  let badPred := match s.pred with
    | some p => !st.any (fun x => x.id = p) || st.any (fun x => x.pred = some p)
    | none => false
  let bars := firstFail [
    (ru b 36 4 ≠ crc32c (b.take 36 ++ b.drop 40), Status.checkFail),
    ((c.ocfg s.owner).isNone || s.axes.length ≠ (ownerAxes c s.owner).length || badPred || st.any (fun x => x.id = s.id)
      || (s.lineSpan && !lineEnabled c s.line), .badParam),
    (512 ≤ st.length || 65536 < bytes + b.length, .noResource)]
  match bars with
  | some e => refuse c e
  | none => answer (c.onProf (fun p => { p with store := p.store ++ [s] })) .ok

def execProfTableLoad (q : Req) : State → Host.Outcome State Fault Refusal := host 0x0805 4 laySeg bodyTableLoad q

/-- The chain that starts at a record. -/
def tableChain (st : List Seg) : Nat → Seg → List Seg
  | 0, s => [s]
  | n + 1, s => match st.find? (fun x => x.pred = some s.id) with
    | some t => s :: tableChain st n t
    | none => [s]

/-- A free slot of the profile unit's reserve (02, Events; 09 R281). -/
def freeReserve (c : Chip) : Option Nat :=
  ((List.range 1024).drop (reserveBase c)).find? (fun k => (findSlot c k).isNone)

/-- A profile-unit event at a line position (02 R55 PROFILE_TRIGGER); an auxiliary master has no line. -/
def takeSlot (c : Chip) (k line : Nat) (target : Int) (neg : Bool) : Chip :=
  let v : EvRec := { line := line, dirPos := !neg, dirNeg := neg, action := 7, target := target, fireIfPast := true }
  let s := if line < 4 then { newSlot c k v with aim := target, since := c.cyc } else { slot := k, ev := v }
  c.onLt (fun t => { t with events := putSlot s t.events })

/-- Axes of an owner in HOLD at rest (09 R266). -/
def holdAtRest (c : Chip) (xs : List Nat) : Bool :=
  xs.all (fun a => atRest c a && (c.pax a).mode = .hold && (streamOf c a).isNone)

/-- PROF_TABLE_START (09 R274). -/
def bodyTableStart (q : Req) (c : Chip) : Reply :=
  let b := q.payload
  let atLine := mbit (byteN b 1) 0
  match targetOwner (byteN b 0) with
  | none => refuse c .badParam
  | some o =>
    let first := c.prof.store.find? (fun s => s.id = ru b 4 4 && s.owner = o && s.pred.isNone)
    let slot := freeReserve c
    let bars := firstFail [
      ((c.ocfg o).isNone || first.isNone || (atLine && !lineEnabled c (byteN b 2)), Status.badParam),
      (motionBars c (ownerAxes c o), .refusedState),
      (!holdAtRest c (ownerAxes c o), .busy),
      (atLine && slot.isNone, .noResource)]
    match bars with
    | some e => refuse c e
    | none =>
      let k := if atLine then slot.getD 0 else 0
      let c := if atLine then takeSlot c k (byteN b 2) (ri b 8 8) (lineVel c (byteN b 2) < 0) else c
      answer (deferB c 0x0806 { q with payload := b ++ le 2 k }) .ok

def execProfTableStart (q : Req) : State → Host.Outcome State Fault Refusal :=
  host 0x0806 4 (lay 18 fun b => [(targetOwner (byteN b 0)).isSome, bLe b 1 1, bLe b 2 3, rsv b 3 1]) bodyTableStart q

def applyTableStart (b : Bytes) (c : Chip) : Chip :=
  match targetOwner (byteN b 0) with
  | none => c
  | some o =>
    let atLine := mbit (byteN b 1) 0
    match c.prof.store.find? (fun s => s.id = ru b 4 4 && s.owner = o && s.pred.isNone) with
    | none => if atLine then freeSlot c (ru b 18 2) else c
    | some s =>
      if motionBars c (ownerAxes c o) || !holdAtRest c (ownerAxes c o) then (if atLine then freeSlot c (ru b 18 2) else c) else
      let recs := tableChain c.prof.store 512 s
      onChain c o (fun _ => {
        queue := recs, table := some (recs, ru b 16 2, 0), waitLine := if atLine then some (byteN b 2, ri b 8 8, ru b 18 2) else none })

/-- PROF_TABLE_CLEAR (09 R273). -/
def bodyTableClear (q : Req) (c : Chip) : Reply :=
  match targetOwner (byteN q.payload 0) with
  | none => refuse c .badParam
  | some o =>
    if (c.ocfg o).isNone then refuse c .badParam
    else if (c.chain o).table.isSome then refuse c .busy
    else
      let n := (c.prof.store.filter (fun s => s.owner = o)).length
      answer (c.onProf (fun p => { p with store := p.store.filter (fun s => s.owner ≠ o) })) .ok (le 2 n)

def execProfTableClear (q : Req) : State → Host.Outcome State Fault Refusal :=
  host 0x0810 6 (lay 1 fun b => [(targetOwner (byteN b 0)).isSome]) bodyTableClear q

/-- Masters above an auxiliary axis, ending at a line or an axis not geared. -/
def masters (c : Chip) : Nat → Nat → List Nat
  | 0, _ => []
  | n + 1, i => i :: (match (c.pax (96 + i)).master with
      | some (1, k) => if (c.pax (96 + i)).mode = .geared then masters c n k else []
      | _ => [])

/-- How deep the chain of slaves of an auxiliary axis is (09 R280). -/
def gearBelow (c : Chip) : Nat → Nat → Nat
  | 0, _ => 0
  | k + 1, n => ((List.range 32).filter (fun i => (c.pax (96 + i)).mode = .geared && (c.pax (96 + i)).master = some (1, n))).foldl
      (fun m i => max m (gearBelow c k i + 1)) 0

/-- m_c unwrapped: on a modulo line its next occurrence in the master's direction (09 R281). -/
def unwrapMc (c : Chip) (kind i : Nat) (mc : Int) (m : Rat) (neg : Bool) : Int :=
  if kind = 0 && lineMod c i ≠ 0 then nextAngle (lineMod c i) mc m.floor (!neg) else mc

/-- Master position at the boundary (09 R281 AT_ONCE): of the line at t0, or of the auxiliary axis. -/
def masterNow (c : Chip) (kind i : Nat) : Rat × Rat :=
  if kind = 0 then exactAt (c.line i).state c.plant else ((c.pax (96 + i)).p, (c.pax (96 + i)).v)

/-- A change's blend as an interval of master positions. -/
def blendOf (neg : Bool) (mc : Int) (b : Nat) : Int × Int := if neg then (mc - b, mc) else (mc, mc + b)

/-- PROF_GEAR (09 R280-R282, R293). -/
def bodyGear (q : Req) (c : Chip) : Reply :=
  let b := q.payload
  let n := byteN b 0
  let a := 96 + n
  let x := c.pax a
  let op := byteN b 1
  let mst := if op = 0 then (byteN b 2, byteN b 3) else x.master.getD (byteN b 2, byteN b 3)
  let m := masterNow c mst.1 mst.2
  let neg := if op = 0 then decide (m.2 < 0) else x.gearNeg
  let once := mbit (byteN b 4) 0
  let mc := if once then m.1.floor else unwrapMc c mst.1 mst.2 (ri b 16 8) m.1 neg
  let iv := blendOf neg mc (ru b 24 8)
  let hits := x.changes.any (fun g => let k := blendOf neg g.mc g.blend; k.1 < iv.2 && iv.1 < k.2)
  let chainBad := mst.1 = 1 && (!axisKnown c (96 + mst.2) || (masters c 33 mst.2).contains n
    || 4 < ((masters c 33 mst.2).filter (fun i => (c.pax (96 + i)).mode = .geared)).length + 1 + gearBelow c 5 n)
  let lineBad := mst.1 = 0 && (!lineEnabled c mst.2
    || (!once && lineMod c mst.2 ≠ 0 && !(0 ≤ ri b 16 8 && ri b 16 8 < lineMod c mst.2)))
  let slot := freeReserve c
  let bars := firstFail [
    (!axisKnown c a || chainBad || lineBad || hits, Status.badParam), (motionBars c [a], .refusedState),
    (op ≠ 0 && x.mode ≠ .geared, .refusedState), (op = 0 && !holdAtRest c [a], .busy),
    (8 ≤ x.changes.length || slot.isNone, .noResource)]
  match bars with
  | some e => refuse c e
  | none =>
    let ev := slot.getD 0
    let ix := ((List.range 8).find? (fun k => !x.changes.any (fun g => g.slot = k))).getD 0
    let c := takeSlot c ev (if mst.1 = 0 then mst.2 else 255) mc neg
    let due : Option Int := if once then some (c.t0 + c.ptOff + c.period)
      else if mst.1 = 0 then (if 0 ≤ m.2 then reach (c.line mst.2).state mc true c.plant else reach (c.line mst.2).state mc false c.plant)
      else if m.2 = 0 || (mc - m.1) * m.2 < 0 then none else some (c.plant + nearest 0 ((mc - m.1) / m.2 * 1000))
    answer (deferB c 0x0807 { q with payload := b ++ le 2 ev ++ le 1 ix ++ le 1 (b2n neg) }) .ok (le 1 ix ++ zeros 3 ++ wideOpt due)

def execProfGear (q : Req) : State → Host.Outcome State Fault Refusal :=
  host 0x0807 18 (lay 36 fun b => [bLe b 0 31, bLe b 1 2, bLe b 2 1, if byteN b 2 = 0 then bLe b 3 3 else bLe b 3 31, bLe b 4 1, rsv b 5 3,
    byteN b 1 = 2 || 1 ≤ ru b 12 4]) bodyGear q

/-- Its effect (09 R281, R291): engage starts from ratio 0 at the present output; a disengage discards what is pending. -/
def applyGear (b : Bytes) (c : Chip) : Chip :=
  let a := 96 + byteN b 0
  let op := byteN b 1
  let ev := ru b 36 2
  let ix := byteN b 38
  let neg := byteN b 39 = 1
  let x := c.pax a
  let mst := if op = 0 then (byteN b 2, byteN b 3) else x.master.getD (byteN b 2, byteN b 3)
  let g0 : GearChange := { slot := ix, kind := op, ratio := 0, mc := 0, blend := ru b 24 8, tag := ru b 32 4, ev := ev }
  if motionBars c [a] || (op = 0 && !holdAtRest c [a]) || (op ≠ 0 && x.mode ≠ .geared) then freeSlot (gearEvent c a 3 g0) ev else
  let m := masterNow c mst.1 mst.2
  let once := mbit (byteN b 4) 0
  let g := { g0 with
    ratio := if op = 2 then 0 else mkRat (ri b 8 4) (ru b 12 4),
    mc := if once then m.1.floor else unwrapMc c mst.1 mst.2 (ri b 16 8) m.1 neg }
  let c := if op = 0 then
      onAx c a (fun x => { x with
        mode := .geared, master := some mst, ratio := 0, base := x.p, baseM := m.1, regOff := 0, regNew := 0, gearNeg := neg,
        leaving := false, changes := [], dem := (x.p, 0), tracking := true })
    else if op = 2 then
      let later := x.changes.filter (fun h => !h.started)
      let c := later.foldl (fun c h => freeSlot (gearEvent c a 3 h) h.ev) c
      onAx c a (fun x => { x with changes := x.changes.filter (·.started) })
    else c
  onAx c a (fun x => { x with
    changes := (x.changes ++ [g]).insertionSort (fun h k => if neg then k.mc ≤ h.mc else h.mc ≤ k.mc) })

/-- PROF_STREAM_OPEN (09 R283, R294). -/
def bodyStreamOpen (q : Req) (c : Chip) : Reply :=
  let b := q.payload
  let xs := (List.range (byteN b 1)).map (fun i => byteN b (4 + i))
  let own := (xs.map (axisOwner c)).dedup
  let joints := own.length = 1 && own.all (fun o => match o with | some k => k < 12 | none => false)
  let auxes := own.all (fun o => match o with | some k => 12 ≤ k | none => false)
  let bars := firstFail [
    (!xs.all (axisKnown c) || xs.dedup.length ≠ xs.length || !(joints || auxes), Status.badParam),
    (motionBars c xs, .refusedState),
    ((vget c.prof.stream (byteN b 0)).isSome || xs.any (fun a => (streamOf c a).isSome) || !holdAtRest c xs
      || (joints && !own.all (fun o => holdAtRest c (ownerAxes c (o.getD 44)))), .busy)]
  match bars with
  | some e => refuse c e
  | none => answer (deferB c 0x0808 q) .ok

def execProfStreamOpen (q : Req) : State → Host.Outcome State Fault Refusal :=
  host 0x0808 4 (lay 16 fun b => [bLe b 0 7, 1 ≤ byteN b 1 && byteN b 1 ≤ 12, bLe b 2 4, rsv b 3 1]) bodyStreamOpen q

def applyStreamOpen (b : Bytes) (c : Chip) : Chip :=
  let xs := (List.range (byteN b 1)).map (fun i => byteN b (4 + i))
  if (vget c.prof.stream (byteN b 0)).isSome || motionBars c xs || !holdAtRest c xs then c else
  let c := c.onProf (fun p => { p with stream := vset p.stream (byteN b 0) (some { axes := xs, gap := byteN b 2 }) })
  xs.foldl (fun c a => onAx c a (fun x => { x with mode := .stream, dem := (x.p, 0), tracking := true })) c

/-- The full cycle number of a 32-bit cycle count near the present (01 R13). -/
def fullCycle (c : Chip) (n : Nat) : Int :=
  let d := ((n : Int) - c.count) % 4294967296
  if d < 2147483648 then c.cyc + d else c.cyc + d - 4294967296

/-- PROF_STREAM_DATA on ring 24 or 25 (09 R283, R284): no response. -/
def streamDataOp (b : Bytes) (c : Chip) : Chip :=
  let i := byteN b 1
  let n := byteN b 2
  match vget c.prof.stream (byteN b 0) with
  | none => c
  | some t =>
    let ok := b.length = 52 && bLe b 0 7 && 1 ≤ n && n ≤ 5 && i + n ≤ t.axes.length && bLe b 3 1 && rsv b 8 4 && rsv b (12 + 8 * n) (40 - 8 * n)
    if !ok then t.axes.foldl (fun c a => onAx c a (fun x => { x with streamLate := inc x.streamLate })) c else
    let k := fullCycle c (ru b 4 4)
    let late := !(decide ((c.cyc : Int) < k - 1) && decide (k - 65 ≤ (c.cyc : Int)))
    let axes := (List.range n).map (fun j => t.axes.getD (i + j) 128)
    if late then axes.foldl (fun c a => onAx c a (fun x => { x with streamLate := inc x.streamLate })) c
    else
      let pts := (List.range n).map (fun j => (k.toNat, i + j, ri b (12 + 8 * j) 8))
      c.onProf (fun p => { p with stream := vset p.stream (byteN b 0) (some { t with
        pts := t.pts.filter (fun q => !(q.1 = k.toNat && i ≤ q.2.1 && q.2.1 < i + n)) ++ pts,
        endAt := if mbit (byteN b 3) 0 then some k.toNat else t.endAt }) })

/-- On any other ring the opcode is refused (15 R433, 16 R448). -/
def streamOp (q : Req) (c : Chip) : Chip :=
  if q.ring = 24 || q.ring = 25 then
    if serves c q.ring && holdsToken c then
      let c := streamDataOp q.payload c
      if mirrors c then queueItem c 0x0101 (c.count + 2) (le 2 0x0809 ++ q.payload) else c
    else c
  else serve 0x0809 4 (fun _ => true) (fun _ c => refuse c .notPermitted) q c

def execProfStreamData (q : Req) : State → Host.Outcome State Fault Refusal := run (streamOp q)

/-- PROF_HOME (09 R286). -/
def bodyHome (q : Req) (c : Chip) : Reply :=
  let b := q.payload
  let a := 96 + byteN b 0
  let bars := firstFail [
    (!axisKnown c a || ru b 4 8 = 0 || (c.pax a).lim.vMax < ru b 4 8, Status.badParam), (motionBars c [a], .refusedState),
    (!holdAtRest c [a], .busy)]
  match bars with
  | some e => refuse c e
  | none => answer (deferB c 0x080A q) .ok

def execProfHome (q : Req) : State → Host.Outcome State Fault Refusal :=
  host 0x080A 4 (lay 28 fun b => [bLe b 0 31, bLe b 1 15, 1 ≤ byteN b 2 && byteN b 2 ≤ 2, bLe b 3 3]) bodyHome q

def applyHome (b : Bytes) (c : Chip) : Chip :=
  let a := 96 + byteN b 0
  if motionBars c [a] || !holdAtRest c [a] then homedEvent c a Status.refusedState.code (c.pax a).o else
  onAx c a (fun x => { x with home := some {
    latch := byteN b 1, edge := byteN b 2, negative := mbit (byteN b 3) 0, moveHome := mbit (byteN b 3) 1, v := ru b 4 8,
    dist := ru b 12 8, value := ri b 20 8, start := x.p } })

/-- PROF_REGISTER (09 R287). -/
def bodyRegister (q : Req) (c : Chip) : Reply :=
  let b := q.payload
  let a := 96 + byteN b 0
  let bars := firstFail [
    (!axisKnown c a || ri b 12 8 ≤ 0, Status.badParam), (motionBars c [a] || (c.pax a).mode ≠ .geared, .refusedState)]
  match bars with
  | some e => refuse c e
  | none => answer (deferB c 0x080B q) .ok

def execProfRegister (q : Req) : State → Host.Outcome State Fault Refusal :=
  host 0x080B 4 (lay 32 fun b => [bLe b 0 31, bLe b 1 15, 1 ≤ byteN b 2 && byteN b 2 ≤ 2, rsv b 3 1]) bodyRegister q

def applyRegister (b : Bytes) (c : Chip) : Chip :=
  let a := 96 + byteN b 0
  if (c.pax a).mode ≠ .geared then c else
  onAx c a (fun x => { x with reg := some {
    latch := byteN b 1, edge := byteN b 2, x0 := ri b 4 8, pitch := ri b 12 8, w := ru b 20 4, cMax := ru b 24 4,
    left := if ru b 28 4 = 0 then none else some (ru b 28 4) } })

/-- PROF_STEP_TABLE_WRITE (09 R289). -/
def bodyStepTable (q : Req) (c : Chip) : Reply :=
  let b := q.payload
  let t := (List.range 256).map (fun i => ru b (4 + 2 * i) 2)
  if ru b 516 4 ≠ crc32c (slice b 4 512) then refuse c .checkFail
  else if t.any (fun x => 32767 < x) then refuse c .badParam
  else answer (c.onProf (fun p => { p with
    tabNext := vset p.tabNext (byteN b 0) t, tabDue := vset p.tabDue (byteN b 0) true })) .ok

def execProfStepTableWrite (q : Req) : State → Host.Outcome State Fault Refusal :=
  host 0x080C 4 (lay 520 fun b => [bLe b 0 3, rsv b 1 3]) bodyStepTable q

end Sys2Proof.Machine
end

