-- ==== Sys2Proof/Machine/Joints.lean ====
section
/-!
DEFINITION. Coefficient banks, program switches, joint supervision, and the sequences of arms and auxiliary axes (chapter 06 from R174
on; 09 R290), with their commands. Owner 0-11 is an arm, 12 + n is AUXn.
-/

namespace Sys2Proof.Machine

open Sys2Proof

/-! ### Program switches (06 R176, R177) -/

def Chip.sup (c : Chip) (a : Nat) : Superv := vget c.joints.sup a
def onSup (c : Chip) (a : Nat) (f : Superv → Superv) : Chip := c.onJoints (fun j => { j with sup := vmod j.sup a f })

/-- The steady histories of the stages of a library program for an input u_pre (06 R176). -/
def steadyStages (ks : List (Rat × Rat × Rat × Rat × Rat)) (u : Rat) : Bytes :=
  (ks.foldl (fun (acc : Rat × Bytes) k =>
    let d := 1 + k.2.2.2.1 + k.2.2.2.2
    let y := if d = 0 then 0 else acc.1 * (k.1 + k.2.1 + k.2.2.1) / d
    let w := fun (v : Rat) => leI 4 (satI 32 (fixed 15 v))
    (y, acc.2 ++ w acc.1 ++ w acc.1 ++ w y ++ w y)) (u, [])).2

/-- The state half as the new program finds it (06 R176): the library programs share one format of bytes 0-39, and a custom program
keeps bytes 0-31 in it (R171), i_last among them; what its bytes 32-39 hold is its own (log 72). -/
def switched (old new : Program) (coef st : Bytes) : Bytes :=
  let pre := if old.custom || new.custom then
      fit 32 st ++ fit 8 ((fit 40 (Config.convertState old.identity new.identity (fit 40 st))).drop 32)
    else fit 40 st
  let pre := if new.observer then patch pre 32 (zeros 4) else pre
  let u := dyadic (ri pre 36 4) (-15)
  let tail := if new.custom then Config.steadyHistory new.identity pre
    else steadyStages (if new.q15 then (coefsQ15 new coef).stages else (coefsBf new coef).stages) u
  patch (patch st 0 pre) 64 tail

/-- An axis takes its Q15 or its normal program at a boundary (06 R176); a KX24 program is both. -/
def switchTo (c : Chip) (a : Nat) (want : Bool) : Chip :=
  let x := c.axis a
  match c.acfg a with
  | none => c
  | some g =>
    if x.q15 = want then c
    else if g.normal = g.q15 then onAxis c a (fun x => { x with q15 := want })
    else match findProgram c (if want then g.normal else g.q15), findProgram c (if want then g.q15 else g.normal) with
      | some p, some n => onAxis c a (fun x => { x with q15 := want, state := switched p n (fit 4096 x.coef) x.state })
      | _, _ => onAxis c a (fun x => { x with q15 := want })

/-- Steps of the enable sequence (06 R187). -/
def enableStep (t : SeqStep) : Bool := t = .power || t = .ramp || t = .release || t = .settle

/-- Whether an axis runs its Q15 program (06 R177, R191). -/
def needsQ15 (c : Chip) (o a : Nat) : Bool :=
  let s := c.seq o
  s.st = .enabling || s.test.isSome || s.testEnded || s.recovery.isSome || (s.tool.axes.contains a && enableStep s.tool.step)

/-! ### Sequences (06 R186-R191) -/

/-- Minimum off-time of an owner, ns (01 R31). -/
def offTime (c : Chip) (o : Nat) : Nat := (if o < 12 then c.cfg.sys.offArm else c.cfg.sys.offAux) * 1000000

/-- The axes the sequence of an owner commands: tool axes only while they are included (06 R191). -/
def seqAxes (c : Chip) (o : Nat) : List Nat := (ownerAxes c o).filter (fun a => !isTool c a || (c.seq o).tools.contains a)

/-- Tool axes present. -/
def toolAxes (c : Chip) (o : Nat) : List Nat := (ownerAxes c o).filter (fun a => isTool c a && toolPresent c a)

/-- Tool axes that joined later: present, and not yet included (06 R191). -/
def newTools (c : Chip) (o : Nat) : List Nat := (toolAxes c o).filter (fun a => !(c.seq o).tools.contains a)

/-- The tool axes' own disable sequence runs (06 R191). -/
def toolStops (s : ArmSeq) : Bool := s.tool.step = .brake || s.tool.step = .off

/-- The shut-down sequence or the minimum off-time after it runs (01 R28). -/
def shutsDown (c : Chip) (s : ArmSeq) : Bool :=
  (s.st = .stopping && s.stop = .disable)
    || (s.st = .disabled && (match s.offEnd with | some e => decide (c.now < e) | none => false))

/-- The conditions of R186 after the latching ones, all answered REFUSED_STATE. -/
def enableBars (c : Chip) (o : Nat) (tool : Bool) : Bool :=
  let s := c.seq o
  let d := c.sys.dev
  !(d = .commissioning || d = .ready || d = .automatic || d = .degraded) || s.st ≠ .disabled || s.fault.isSome
    || (ownerNodes c o).any (fun k => !(c.port k).claim && chCount c k .active = 0) || ownerClass c o = some 0
    || (ownerAxes c o).any (fun a => (!isTool c a || toolPresent c a) && stoSet c a) || (tool && s.tool.step ≠ .idle)

/-- Tool axes that joined later may be enabled in HOLD (06 R191). -/
def toolBars (c : Chip) (o : Nat) : Bool :=
  let s := c.seq o
  let d := c.sys.dev
  !(d = .commissioning || d = .ready || d = .automatic || d = .degraded) || s.st ≠ .hold || s.tool.step ≠ .idle || s.fault.isSome
    || (newTools c o).isEmpty || ownerClass c o = some 0
    || (ownerAxes c o).any (fun a => (!isTool c a || toolPresent c a) && stoSet c a)

/-- A latched enable ends with a status (01 R29, R30). -/
def endLatched (c : Chip) (o : Nat) (st : Status) : Chip :=
  match (c.seq o).latched with
  | some (op, ring, seq) => complete (onSeq c o (fun s => { s with latched := none })) op st ring seq
  | none => c

/-- An axis enters its enable sequence: set-point at the measured position, nothing committed yet, its timers at rest (06 R187; 05 R159). -/
def freshAxis (c : Chip) (a : Nat) : Chip :=
  onSup (onAxis (holdMeasured c a) a (fun x => { x with out := none })) a (fun s => { s with
    overFor := 0, missing := 0, frozenSince := none, resSince := none, satRun := 0, enabled := false })

/-- R187 step 1 at the entry boundary. -/
def startEnable (c : Chip) (o : Nat) (tool : Bool) : Chip :=
  let c := toSt (onSeq c o (fun s => { s with
    step := .power, since := c.now, ramp := 0, settle := 0, enable := true, release := false,
    tools := if tool then toolAxes c o else [], tool := {}, brakeStuck := false })) o .enabling
  (seqAxes c o).foldl freshAxis c

/-- R191: the enable sequence of the tool axes that joined later. -/
def startTools (c : Chip) (o : Nat) : Chip :=
  let xs := newTools c o
  xs.foldl freshAxis (onSeq c o (fun s => { s with tool := { step := .power, axes := xs, since := c.now, enable := true } }))

/-- The tool axes' own sequence as a stop of the arm leaves it: one that enables is abandoned and goes on from R188 step 2 with its ramp
held; one that disables runs to completion (01 R28, 06 R189). -/
def stopTools (now : Nat) (t : ToolSeq) : ToolSeq :=
  if enableStep t.step then { t with step := .brake, since := now, release := false, stuck := false } else t

/-- R188: the disable sequence begins: to rest first. -/
def startDisable (c : Chip) (o : Nat) : Chip :=
  let c := toSt (onSeq c o (fun s => { s with
    stop := .disable, step := .rest, since := c.now, brakeStuck := false, tool := stopTools c.now s.tool })) o .stopping
  let c := stopOwner c o false
  if o < 12 then stopChain c o 8 true else c

/-- R188 step 3 of the tool axes: power off. -/
def toolOff (now : Nat) (t : ToolSeq) : ToolSeq := { t with enable := false, step := .off, since := now, stuck := false }

/-- R188 step 3: power off. -/
def powerOff (s : ArmSeq) (now : Nat) : ArmSeq := { s with enable := false, step := .off, since := now, brakeStuck := false }

/-- An owner is FAULTED: its off-time begins (06 R189). -/
def toFaulted (c : Chip) (o : Nat) : Chip :=
  toSt (onSeq c o (fun s => { s with
    enable := false, release := false, ramp := 0, step := .idle, tools := [], tool := {}, overdue := false,
    offEnd := some (c.now + offTime c o) })) o .faulted

/-- The device enters FAULT_HALT (06 R189, 09 R279). -/
def jointsHalt (c : Chip) : Chip :=
  (owners c).foldl (fun c o =>
    let s := c.seq o
    match s.st with
    | .hold | .running =>
      let c := toSt (onSeq c o (fun s => { s with stop := .halt, step := .rest, since := c.now, tool := stopTools c.now s.tool })) o .stopping
      let c := if o < 12 then stopChain c o 8 true else c
      stopOwner c o true
    | .enabling => toSt (onSeq c o (fun s => { s with stop := .disable, step := .brake, since := c.now, release := false, brakeStuck := false })) o .stopping
    | _ => c) c

/-- One boundary of the enable steps of the whole owner (06 R187). -/
def enableTurn (c : Chip) (o : Nat) (g : OwnerCfg) : Chip :=
  let xs := seqAxes c o
  let now := c.now
  let c := if (c.seq o).step = .power && xs.all (powerOn c) then onSeq c o (fun s => { s with step := .ramp, since := now }) else c
  let c := if (c.seq o).step = .ramp then
      let pre := if o < 12 then g.tPre * 1000000 else 0
      let r := if pre = 0 then 0x8000 else min 0x8000 ((now - (c.seq o).since) * 0x8000 / pre)
      onSeq c o (fun s => if r = 0x8000 then { s with ramp := r, release := true, step := .release, since := now } else { s with ramp := r })
    else c
  let c := if (c.seq o).step = .release && xs.all (fun a => noBrake c a || brakeOpen c a) then
      onSeq c o (fun s => { s with step := .settle, since := now, settle := 0 }) else c
  if (c.seq o).step = .settle && 32 ≤ (c.seq o).settle then toSt (onSeq c o (fun s => { s with step := .idle })) o .hold else c

/-- One boundary of the disable steps (06 R188). -/
def disableTurn (c : Chip) (o : Nat) : Chip :=
  let xs := seqAxes c o
  let now := c.now
  let c := if (c.seq o).step = .rest && ownerAtRest c o then
      onSeq c o (fun s => if xs.all (noBrake c) then powerOff { s with release := false } now else { s with release := false, step := .brake, since := now })
    else c
  let c := if (c.seq o).step = .brake && (c.seq o).brakeStuck && !xs.any (fun a => !noBrake c a && brakeOpen c a) then
      onSeq c o (fun s => powerOff s now) else c
  if (c.seq o).step = .off && !xs.any (powerOn c) && (c.seq o).tool.step = .idle then
    toSt (onSeq c o (fun s => { s with step := .idle, ramp := 0, tools := [], offEnd := some (now + offTime c o) })) o .disabled
  else c

/-- One boundary of the tool axes' own sequence (06 R191). -/
def toolTurn (c : Chip) (o : Nat) (g : OwnerCfg) : Chip :=
  let now := c.now
  let on := fun (c : Chip) (f : ToolSeq → ToolSeq) => onSeq c o (fun s => { s with tool := f s.tool })
  let t := (c.seq o).tool
  let xs := t.axes
  match t.step with
  | .power => if xs.all (powerOn c) then on c (fun t => { t with step := .ramp, since := now }) else c
  | .ramp =>
    let r := if g.tPre = 0 then 0x8000 else min 0x8000 ((now - t.since) * 0x8000 / (g.tPre * 1000000))
    on c (fun t => if r = 0x8000 then { t with ramp := r, release := true, step := .release, since := now } else { t with ramp := r })
  | .release => if xs.all (fun a => noBrake c a || brakeOpen c a) then on c (fun t => { t with step := .settle, since := now, settle := 0 }) else c
  | .settle => if 32 ≤ t.settle then onSeq c o (fun s => { s with tools := s.tools ++ xs, tool := {} }) else c
  | .brake =>
    if (t.stuck && !xs.any (fun a => !noBrake c a && brakeOpen c a)) || xs.all (noBrake c) then on c (toolOff now) else c
  | .off => if !xs.any (powerOn c) then on c (fun _ => {}) else c
  | _ => c

/-- Nodes of a group that have not reported STOPPED (06 R189). -/
def notStopped (c : Chip) (o : Nat) : List Nat := (groupNodes c o).filter (fun k => (c.node k).state ≠ 3)

/-- The sequence of an owner at a boundary, after its commands (06 R187-R189). -/
def seqTurn (c : Chip) (o : Nat) : Chip :=
  match c.ocfg o with
  | none => c
  | some g =>
    let c := if (c.seq o).st = .stopping && (c.seq o).stop = .fault then c else toolTurn c o g
    let c := match (c.seq o).st with
      | .enabling => enableTurn c o g
      | .hold => if ownerAtRest c o then c else toSt c o .running
      | .running => if ownerAtRest c o then toSt c o .hold else c
      | .stopping =>
        (match (c.seq o).stop with
         | .disable => disableTurn c o
         | .fault => if (notStopped c o).isEmpty || (c.seq o).overdue then toFaulted c o else c
         | .halt =>
           if !ownerAtRest c o then c
           else if (seqAxes c o).all (powerOn c) then toSt (onSeq c o (fun s => { s with step := .idle })) o .hold else toFaulted c o)
      | _ => c
    if c.sys.haltCauses.any (fun h => h = (0x0503, ownerTarget o)) && (notStopped c o).isEmpty then haltGone c 0x0503 (ownerTarget o) else c

/-- A latched enable is evaluated at the first boundary after shut-down and off-time (01 R29). -/
def latchedTurn (c : Chip) (o : Nat) : Chip :=
  let s := c.seq o
  if s.latched.isNone || shutsDown c s || (s.latchedTool && toolStops s) then c
  else if s.st = .hold && s.latchedTool then
    if toolBars c o then endLatched c o .refusedState else endLatched (startTools c o) o .ok
  else if enableBars c o s.latchedTool then endLatched c o .refusedState
  else endLatched (startEnable c o s.latchedTool) o .ok

/-- Numeric recovery (06 R178). -/
def recoveryTurn (c : Chip) (o : Nat) : Chip :=
  let s := c.seq o
  let xs := seqAxes c o
  let ev := fun (c : Chip) (n : Nat) => post c 3 0x0514 (if o < 12 then o else 0xFF) (if o < 12 then 0xFF else 96 + (o - 12)) (le 1 n)
  match s.recovery, c.ocfg o with
  | none, some g =>
    if o < 12 && g.recoveryQ15 && (s.st = .hold || s.st = .running) && xs.any (fun a => 8 ≤ (c.sup a).satRun) then
      ev (onSeq c o (fun s => { s with recovery := some 0 })) 1
    else c
  | some n, _ => if 256 ≤ n then ev (onSeq c o (fun s => { s with recovery := none })) 0 else c
  | none, none => c

/-- Programs and control words of an owner's axes at a boundary (06 R170, R176, R177). -/
def writeControl (c : Chip) (o : Nat) : Chip :=
  (ownerAxes c o).foldl (fun c a =>
    let w := controlOf c o a
    let put := fun (b : SpBlock) => { b with control := w.1, ramp := w.2 }
    onAxis (switchTo c a (needsQ15 c o a)) a (fun x => { x with sp := put x.sp, spNext := put x.spNext })) c

/-- The joints at a boundary: sequences, latched enables, recovery, programs, control words. -/
def jointsTurn (c : Chip) : Chip :=
  let os := owners c
  let c := os.foldl (fun c o => onSeq c o (fun s => { s with testEnded := false })) c
  let c := os.foldl seqTurn c
  let c := os.foldl latchedTurn c
  let c := os.foldl recoveryTurn c
  os.foldl writeControl c

/-! ### Faults (06 R179-R185) -/

/-- States in which a fault has its reaction (06 R189): enabled, or STOPPING for a disable or a halt. -/
def faultable (s : ArmSeq) : Bool := enabledSt s.st || (s.st = .stopping && s.stop ≠ .fault)

/-- One owner takes the reaction to a fault (06 R184, R189). -/
def stopForFault (cause a : Nat) (val : Int) (c : Chip) (m : Nat) : Chip :=
  let s := c.seq m
  if !faultable s then c else
  let c := if s.fault.isSome then c else
    post (onSeq c m (fun s => { s with fault := some (cause, a, c.count) })) 3 0x0511 (if m < 12 then m else 0xFF) a
      (le 1 cause ++ zeros 3 ++ leI 4 (satI 32 val))
  if s.st = .stopping && s.stop = .halt then c else
  let c := endLatched c m .refusedState
  let c := toSt (onSeq c m (fun s => { s with stop := .fault, step := .idle, stopSent := some c.now, overdue := false, brakeStuck := false })) m .stopping
  let c := if m < 12 then stopChain c m 8 false else c
  dropOwner c m

/-- A fault of an axis: its stop group stops, STOP goes out, and the arms coupled through a zone stop too (06 R184, R185). -/
def raiseJoint (c : Chip) (o cause a : Nat) (val : Int) : Chip :=
  let s := c.seq o
  let c := onSup c a (fun s => { s with faults := inc s.faults })
  if !faultable s then c else
  let holds := fun (k z : Nat) => c.planner.resv.any (fun r => r.zone = z && r.arm = k && (r.granted || r.st ≠ .proposed))
  let zones := match groupArm c o with
    | some k => (c.cfg.zones.filter (fun (z : ZoneCfg) => z.coupled && holds k z.id)).map (fun (z : ZoneCfg) => z.id)
    | none => []
  let coupled := (List.range 12).filter (fun k => !(stopGroup c o).contains k && zones.any (holds k))
  let stopNodes := fun (c : Chip) (k : Nat) => (groupNodes c k).foldl (fun c n => onNode c n (fun x => { x with command := 1 })) c
  let halting := s.st = .stopping && s.stop = .halt
  let c := (stopGroup c o).foldl (stopForFault cause a val) c
  let c := if halting then c else stopNodes c o
  coupled.foldl (fun c k =>
    if !faultable (c.seq k) then c else
    stopNodes ((stopGroup c k).foldl (stopForFault 10 ((ownerAxes c k).headD 0xFF) 0) c) k) c

/-- Following error and residual of the committed state half (06 R171). -/
def errOf (c : Chip) (a : Nat) : Int := ri (c.axis a).state 0 4
def resOf (c : Chip) (a : Nat) : Int := ri (c.axis a).state 8 4

/-- The timers of one axis at t_dl (06 R181-R183); `bf` tells that an observer runs. -/
def superviseAxis (c : Chip) (o a : Nat) : Chip :=
  match c.acfg a with
  | none => c
  | some g =>
    let n := c.node (g.node - 1)
    let x := c.axis a
    let s := c.sup a
    let miss := sampleMissing n x
    let e := errOf c a
    let p := ri x.inp 0 6
    let observes := match findProgram c (programId g x) with | some q => q.observer && !x.q15 | none => false
    let still := !miss && p = s.pLast && (s.frozenThr : Int) ≤ x.sp.vSp.natAbs && decide (s.frozenThr ≠ 0)
    let resHigh := observes && decide (s.resLimit ≤ (resOf c a).natAbs)
    let warnNow := decide ((s.warn : Int) < e.natAbs)
    let c := onSup c a (fun s => { s with
      overFor := if decide ((s.limit : Int) < e.natAbs) then s.overFor + 1 else 0,
      missing := if miss then s.missing + 1 else 0, bridged := if miss then inc s.bridged else s.bridged,
      frozenSince := if still then s.frozenSince.orElse (fun _ => some c.now) else none,
      resSince := if resHigh then s.resSince.orElse (fun _ => some c.now) else none,
      pLast := if miss then s.pLast else p, peak := if s.peak.natAbs < e.natAbs then e else s.peak,
      satRun := if x.committed && x.sat then s.satRun + 1 else 0,
      warned := if warnNow then true else if e.natAbs < s.warn then false else s.warned,
      enabled := x.committed && mbit x.sp.control 0 })
    if warnNow && !s.warned then
      post c 3 0x0512 (if o < 12 then o else 0xFF) a (zeros 4 ++ leI 4 (satI 32 e)) else c

/-- The causes an axis shows, ascending (06 R180). -/
def causesOf (c : Chip) (o a : Nat) : List Nat :=
  match c.acfg a with
  | none => []
  | some g =>
    let s := c.sup a
    let q := c.seq o
    let aged := fun (t : Option Nat) (ms : Nat) => match t with | some t => decide (t + ms * 1000000 ≤ c.now) | none => false
    let powered := if q.tool.axes.contains a then enableStep q.tool.step && q.tool.step ≠ .power
      else q.st = .hold || q.st = .running || (q.st = .enabling && q.step ≠ .power)
    let stopped := (groupNodes c o).any (fun k => let n := c.node k; n.command = 0 && (n.state = 2 || n.state = 3 || n.fault ≠ 0))
    [(1, !g.openLoop && s.timer < s.overFor), (2, !g.openLoop && s.bridge < s.missing), (3, !g.openLoop && aged s.frozenSince s.frozenMs),
     (4, aged s.resSince s.resMs), (5, fbFault c a), (6, powered && s.enabled && !powerOn c a), (7, (c.axis a).faultedDl),
     (9, stopped)].filterMap (fun (k : Nat × Bool) => if k.2 then some k.1 else none)

/-- The axes of an owner that are judged: all the sequence commands. -/
def judged (c : Chip) (o : Nat) : List Nat := if enabledSt (c.seq o).st || (c.seq o).st = .stopping then liveAxes c o else []

/-- Supervision at t_dl (06 R179-R185): timers, settle counts, then the first fault of each owner. -/
def superviseAll (c : Chip) : Chip :=
  let c := (owners c).foldl (fun c o => (ownerAxes c o).foldl (fun c a => superviseAxis c o a) c) c
  let c := (owners c).foldl (fun c o =>
    let fits := fun (xs : List Nat) => xs.all (fun a => decide ((errOf c a).natAbs ≤ (c.sup a).warn))
    let sat := (seqAxes c o).any (fun a => (c.axis a).committed && (c.axis a).sat)
    onSeq c o (fun s => { s with
      settle := if s.step = .settle then (if fits (seqAxes c o) then s.settle + 1 else 0) else s.settle,
      tool := if s.tool.step = .settle then { s.tool with settle := if fits s.tool.axes then s.tool.settle + 1 else 0 } else s.tool,
      recovery := s.recovery.map (fun n => if sat then 0 else n + 1) })) c
  let found := (owners c).filterMap (fun o =>
    match ((judged c o).insertionSort (· ≤ ·)).filterMap (fun a => (causesOf c o a).head?.map (fun k => (a, k))) with
    | [] => none
    | h :: t => some (o, h, t))
  found.foldl (fun c f =>
    let a := f.2.1.1
    let k := f.2.1.2
    let val := if k = 1 then errOf c a else if k = 4 then resOf c a else 0
    let c := raiseJoint c f.1 k a val
    f.2.2.foldl (fun c r => onSup c r.1 (fun s => { s with faults := inc s.faults })) c) c

/-! ### Timers of the sequences (06 R188-R190) -/

/-- The lowest axis of a list that satisfies `p`, else the first axis. -/
def worstAxis (xs : List Nat) (p : Nat → Bool) : Nat := (xs.find? p).getD (xs.headD 0xFF)

/-- A limit of the enable steps is exceeded (06 R189, R190). -/
def enableTimeoutOp (o : Nat) (c : Chip) : Chip :=
  match c.ocfg o with
  | none => c
  | some g =>
    let s := c.seq o
    let tool := s.st ≠ .enabling && enableStep s.tool.step
    let step := if tool then s.tool.step else s.step
    let since := if tool then s.tool.since else s.since
    let xs := if tool then s.tool.axes else seqAxes c o
    let lim := match step with | .power => some g.tPon | .release => some g.tBrel | .settle => some g.tSettle | _ => none
    match lim with
    | none => c
    | some ms =>
      if !(s.st = .enabling || tool) then c else
      let c := c.atTime (since + ms * 1000000)
      raiseJoint c o 8 (worstAxis xs (fun a => if step = .power then !powerOn c a else if step = .release then !brakeOpen c a else true)) 0

def execEnableTimeout (owner : Fin 44) : State → Host.Outcome State Fault Refusal := run (enableTimeoutOp owner)

/-- t_beng ends (06 R188): power is removed, or BRAKE_NOT_ENGAGED is posted. -/
def brakeExpiryOp (o : Nat) (c : Chip) : Chip :=
  match c.ocfg o with
  | none => c
  | some g =>
    let s := c.seq o
    let main := s.st = .stopping && s.stop = .disable && s.step = .brake && !s.brakeStuck
    let tool := s.tool.step = .brake && !s.tool.stuck && !(main && s.since < s.tool.since)
    if !(tool || main) then c else
    let c := c.atTime ((if tool then s.tool.since else s.since) + g.tBeng * 1000000)
    let xs := if tool then s.tool.axes else seqAxes c o
    if xs.any (fun a => !noBrake c a && brakeOpen c a) then
      let m := maskOf 12 (fun i => match (ownerAxes c o)[i]? with | some a => xs.contains a && brakeOpen c a | none => false)
      let c := onSeq c o (fun s => if tool then { s with tool := { s.tool with stuck := true } } else { s with brakeStuck := true })
      post c 3 0x0515 (if o < 12 then o else 0xFF) 0xFF (le 2 m)
    else if tool then onSeq c o (fun s => { s with tool := toolOff c.now s.tool })
    else onSeq c o (fun s => powerOff s c.now)

def execBrakeEngageExpiry (owner : Fin 44) : State → Host.Outcome State Fault Refusal := run (brakeExpiryOp owner)

/-- t_poff is exceeded: POWER_LOST (06 R190). -/
def powerTimeoutOp (o : Nat) (c : Chip) : Chip :=
  match c.ocfg o with
  | none => c
  | some g =>
    let s := c.seq o
    let main := s.st = .stopping && s.stop = .disable && s.step = .off
    let tool := s.tool.step = .off && !(main && s.since < s.tool.since)
    if !(main || tool) then c else
    let c := c.atTime ((if tool then s.tool.since else s.since) + g.tPoff * 1000000)
    let xs := if tool then s.tool.axes else seqAxes c o
    if xs.any (powerOn c) then raiseJoint c o 6 (worstAxis xs (powerOn c)) 0 else c

def execPowerOffTimeout (owner : Fin 44) : State → Host.Outcome State Fault Refusal := run (powerTimeoutOp owner)

/-- t_ss1 is exceeded (06 R189): ARM_STOP_OVERDUE and a halting fault; FAULTED follows at the boundary (01 R19). -/
def overdueOp (o : Nat) (c : Chip) : Chip :=
  match c.ocfg o, (c.seq o).stopSent with
  | some g, some t =>
    if !((c.seq o).st = .stopping && (c.seq o).stop = .fault) || (c.seq o).overdue || (notStopped c o).isEmpty then c else
    let c := c.atTime (t + g.tSs1 * 1000000)
    let m := maskOf 24 (fun k => (notStopped c o).contains k)
    let c := post c 3 0x0516 (if o < 12 then o else 0xFF) 0xFF (le 4 m)
    onSeq (raiseFault c 0x0503 true (ownerTarget o)) o (fun s => { s with overdue := true })
  | _, _ => c

def execStopOverdue (owner : Fin 44) : State → Host.Outcome State Fault Refusal := run (overdueOp owner)

/-- A minimum off-time elapses (01 R29, R31): a latched enable is evaluated at the next boundary. -/
def execOffTimeElapsed (owner : Fin 44) : State → Host.Outcome State Fault Refusal :=
  run fun c => match (c.seq owner).offEnd with
    | some e => onSeq (c.atTime e) owner (fun s => { s with offEnd := none })
    | none => c

/-! ### Tests (06 R193, R194) -/

/-- The samples of a test go out in a JOINT_TEST record (15 R441). -/
def testRecord (c : Chip) (t : JTest) : Chip :=
  if t.recs.isEmpty then c else
  let time := if c.pt.wide2 then wide (c.t0 + c.ptOff) else le 4 (short (c.t0 + c.ptOff)) ++ zeros 6
  let body := le 4 t.from0 ++ le 1 (b2n c.pt.wide2) ++ zeros 3 ++ time ++ zeros 2 ++ le 1 t.axis ++ le 1 t.recs.length
    ++ zeros 2 ++ (t.recs.map (fun r => leI 2 r.1 ++ leI 2 r.2.1 ++ leI 4 r.2.2.1 ++ leI 4 r.2.2.2)).flatten
  enqueue c { ring := 27, opcode := 0x0581, cls := 5, len := 24 + 12 * t.recs.length, payload := body }

/-- The sample of a cycle with excitation, at t_dl; a record goes out every 16 cycles. -/
def testSample (c : Chip) (o : Nat) : Chip :=
  match (c.seq o).test with
  | none => c
  | some t =>
    let x := c.axis t.axis
    let r := (Config.excitation t.shape t.amp t.f0 t.f1 t.n, ri x.outb 2 2, errOf c t.axis, ri x.state 4 4)
    let t := { t with n := t.n + 1, recs := t.recs ++ [r], from0 := if t.recs.isEmpty then c.count else t.from0 }
    if 16 ≤ t.recs.length then onSeq (testRecord c t) o (fun s => { s with test := some { t with recs := [] } })
    else onSeq c o (fun s => { s with test := some t })

/-- A test ends at its duration or early (06 R194). -/
def testEndOp (a : Nat) (c : Chip) : Chip :=
  let s := c.seq a
  match s.test with
  | none => c
  | some t =>
    if !(t.endsAt ≤ c.now || c.sys.dev ≠ .commissioning || s.st ≠ .hold || s.fault.isSome) then c else
    let c := onSeq (testRecord c t) a (fun s => { s with test := none, testEnded := true })
    postSeq c a s.st s.st

def execJointTestEnd (arm : Fin 12) : State → Host.Outcome State Fault Refusal := run (testEndOp arm)

/-! ### Enable, disable, clear (06 R193, R195; 09 R290) -/

/-- The present state as the response carries it. -/
def seqReply (c : Chip) (o : Nat) (st : Status) : Reply := answer c st (le 1 (c.seq o).st.code)

/-- ARM_ENABLE and AUX_ENABLE (06 R186, R191; 01 R28; 09 R290). Latching comes before the other conditions (log 22). -/
def enableBody (op o : Nat) (tool : Bool) (q : Req) (c : Chip) : Reply :=
  let s := c.seq o
  if (c.ocfg o).isNone then refuse c .badParam
  else if (shutsDown c s || (tool && toolStops s)) && s.fault.isNone then
    seqReply (onSeq (endLatched c o .refusedState) o (fun s => { s with latched := some (op, q.ring, q.seq), latchedTool := tool })) o .queued
  else if (if s.st = .hold && tool then toolBars c o else enableBars c o tool) then refuse c .refusedState
  else seqReply (deferB (endLatched c o .refusedState) op q) o .ok

/-- Its effect at the boundary; `stopped` owners were disabled at the same boundary (01 R30). -/
def applyEnable (o : Nat) (tool : Bool) (stopped : List Nat) (c : Chip) : Chip :=
  if stopped.contains o then c
  else if (c.seq o).st = .hold && tool then
    if toolBars c o then c else startTools c o
  else if enableBars c o tool || shutsDown c (c.seq o) then c
  else startEnable c o tool

/-- ARM_DISABLE and AUX_DISABLE (06 R188, R191, R195; 01 R30). -/
def disableBody (op o : Nat) (force tool : Bool) (q : Req) (c : Chip) : Reply :=
  let s := c.seq o
  if (c.ocfg o).isNone then refuse c .badParam
  else if (force && !(s.brakeStuck || s.tool.stuck)) || (tool && s.st ≠ .hold) || s.st = .faulted || (s.st = .stopping && s.stop ≠ .disable) then
    refuse c .refusedState
  else seqReply (deferB (endLatched c o .refusedState) op q) o .ok

def applyDisable (o : Nat) (force tool : Bool) (c : Chip) : Chip :=
  let s := c.seq o
  let c := endLatched c o .refusedState
  if force then
    let c := if s.tool.stuck then onSeq c o (fun s => { s with tool := toolOff c.now s.tool }) else c
    if s.brakeStuck then onSeq c o (fun s => powerOff s c.now) else c
  else if tool then
    if s.st ≠ .hold || s.tools.isEmpty || s.tool.step ≠ .idle then c else
    let skip := s.tools.all (noBrake c)
    onSeq c o (fun s => { s with
      tools := [],
      tool := { step := if skip then .off else .brake, axes := s.tools, since := c.now, ramp := 0x8000, enable := !skip } })
  else if enabledSt s.st then startDisable c o
  else c

def execArmEnable (q : Req) : State → Host.Outcome State Fault Refusal :=
  host 0x0510 5 (lay 2 fun b => [isArm (byteN b 0), bLe b 1 1])
    (fun q c => enableBody 0x0510 (byteN q.payload 0) (mbit (byteN q.payload 1) 0) q c) q

def execArmDisable (q : Req) : State → Host.Outcome State Fault Refusal :=
  host 0x0511 5 (lay 2 fun b => [isArm (byteN b 0), bLe b 1 3])
    (fun q c => disableBody 0x0511 (byteN q.payload 0) (mbit (byteN q.payload 1) 0) (mbit (byteN q.payload 1) 1) q c) q

def execAuxEnable (q : Req) : State → Host.Outcome State Fault Refusal :=
  host 0x080D 5 (lay 1 fun b => [bLe b 0 31]) (fun q c => enableBody 0x080D (12 + byteN q.payload 0) false q c) q

def execAuxDisable (q : Req) : State → Host.Outcome State Fault Refusal :=
  host 0x080E 5 (lay 2 fun b => [bLe b 0 31, bLe b 1 1])
    (fun q c => disableBody 0x080E (12 + byteN q.payload 0) (mbit (byteN q.payload 1) 0) false q c) q

/-- ARM_GET_STATE. -/
def bodyArmState (q : Req) (c : Chip) : Reply :=
  let a := byteN q.payload 0
  match c.ocfg a with
  | none => refuse c .badParam
  | some _ =>
    let s := c.seq a
    let xs := ownerAxes c a
    let local' := fun (p : Nat → Bool) => maskOf 12 (fun i => match xs[i]? with | some x => p x | none => false)
    let f := s.fault.getD (0, 0, 0)
    let bank := match xs with | x :: _ => (c.axis x).bank | [] => 0
    answer c .ok (le 1 s.st.code
      ++ le 1 (bits [s.fault.isSome, s.latched.isSome, xs.any (fun x => (c.axis x).q15), s.recovery.isSome, !(toolAxes c a).isEmpty, s.brakeStuck || s.tool.stuck])
      ++ le 1 bank ++ le 1 (b2n s.swap.isSome) ++ le 1 f.1 ++ le 1 f.2.1 ++ zeros 2 ++ le 4 f.2.2
      ++ le 2 (local' (fun x => mbit (byteN (c.axis x).state 13) 0)) ++ le 2 (local' (fun x => (c.sup x).warned)) ++ le 4 (msLeft c.now s.offEnd))

def execArmGetState (q : Req) : State → Host.Outcome State Fault Refusal :=
  host 0x0512 24 (lay 1 fun b => [isArm (byteN b 0)]) bodyArmState q

/-- A fault's causes persist (06 R189, R195): a feedback fault, a node fault code, a missing sample, no channel ACTIVE. -/
def causesPersist (c : Chip) (o : Nat) : Bool :=
  (seqAxes c o).any (fun a => fbFault c a || (c.sup a).bridge < (c.sup a).missing)
    || (groupNodes c o).any (fun k => (c.node k).fault ≠ 0 || (!(c.port k).claim && chCount c k .active = 0))

/-- A FAULTED owner may be cleared; a fault recorded in a halt may be cleared in HOLD or DISABLED (06 R189). -/
def clearBars (c : Chip) (o : Nat) : Bool :=
  let s := c.seq o
  c.sys.dev = .faultHalt || !(s.st = .faulted || (s.fault.isSome && (s.st = .hold || s.st = .disabled))) || causesPersist c o

def bodyArmClear (q : Req) (c : Chip) : Reply :=
  let a := byteN q.payload 0
  if (c.ocfg a).isNone then refuse c .badParam
  else if clearBars c a then refuse c .refusedState
  else seqReply (deferB c 0x0519 q) a .ok

def execArmClearFault (q : Req) : State → Host.Outcome State Fault Refusal :=
  host 0x0519 5 (lay 1 fun b => [isArm (byteN b 0)]) bodyArmClear q

/-- RESET_FAULT goes to the group's nodes, the record is cleared, a FAULTED owner is DISABLED (06 R189). -/
def applyClear (o : Nat) (c : Chip) : Chip :=
  if clearBars c o then c else
  let was := (c.seq o).st
  let c := onSeq c o (fun s => { s with fault := none, stopSent := none })
  let c := (ownerAxes c o).foldl (fun c a => onSup (onAxis c a (fun x => { x with faultedDl := false })) a (fun s => { s with
    overFor := 0, missing := 0, frozenSince := none, resSince := none })) c
  if was = .faulted then
    toSt ((groupNodes c o).foldl (fun c k => onNode c k (fun n => { n with command := 2 })) c) o .disabled
  else c

/-- PROF_CLEAR_FAULT (09 R269, R290, R294). -/
def bodyProfClear (q : Req) (c : Chip) : Reply :=
  match targetOwner (byteN q.payload 0) with
  | none => refuse c .badParam
  | some o =>
    if (c.ocfg o).isNone then refuse c .badParam
    else if !ownerAtRest c o || (12 ≤ o && (c.seq o).st = .faulted && clearBars c o) then refuse c .refusedState
    else answer (deferB c 0x080F q) .ok

def execProfClearFault (q : Req) : State → Host.Outcome State Fault Refusal :=
  host 0x080F 4 (lay 1 fun b => [(targetOwner (byteN b 0)).isSome]) bodyProfClear q

def applyProfClear (b : Bytes) (c : Chip) : Chip :=
  match targetOwner (byteN b 0) with
  | none => c
  | some o =>
    let c := (ownerAxes c o).foldl (fun c a => onAx c a (fun x => { x with lagFault := false })) c
    if 12 ≤ o then applyClear o c else c

/-! ### Coefficients (06 R174, R175, R193) -/

/-- The inactive block of an axis. -/
def LoopAxis.other (x : LoopAxis) : Bytes := fit 4096 (if x.bank = 0 then x.bankB else x.bankA)

/-- A swap of an axis is pending. -/
def swapPending (c : Chip) (a : Nat) : Bool := match axisOwner c a with | some o => (c.seq o).swap.isSome | none => false

/-- Layout of the offset and length of a block access. -/
def layBlock (b : Bytes) : Bool :=
  ru b 2 2 ≤ 4092 && ru b 2 2 % 4 = 0 && 4 ≤ ru b 4 2 && ru b 4 2 % 4 = 0 && ru b 2 2 + ru b 4 2 ≤ 4096

/-- JOINT_COEF_WRITE: the inactive bank only. -/
def bodyCoefWrite (q : Req) (c : Chip) : Reply :=
  let b := q.payload
  let a := byteN b 0
  if (c.acfg a).isNone then refuse c .badParam
  else if swapPending c a then refuse c .busy
  else
    let x := c.axis a
    let base := if mbit (byteN b 1) 0 then fit 4096 x.coef else x.other
    let n := patch base (ru b 2 2) (b.drop 8)
    answer (onAxis c a (fun x => if x.bank = 0 then { x with bankB := n } else { x with bankA := n })) .ok

def execJointCoefWrite (q : Req) : State → Host.Outcome State Fault Refusal :=
  host 0x0513 4 (fun b => 8 ≤ b.length && layBlock b && b.length = 8 + ru b 4 2 && bLe b 0 127 && bLe b 1 1 && rsv b 6 2) bodyCoefWrite q

/-- JOINT_COEF_READ. -/
def bodyCoefRead (q : Req) (c : Chip) : Reply :=
  let b := q.payload
  let a := byteN b 0
  if (c.acfg a).isNone then refuse c .badParam else
  let x := c.axis a
  let k := if byteN b 1 = 0 then x.bankA else x.bankB
  answer c .ok (le 2 (ru b 4 2) ++ zeros 2 ++ slice k (ru b 2 2) (ru b 4 2))

def execJointCoefRead (q : Req) : State → Host.Outcome State Fault Refusal :=
  host 0x0514 4104 (fun b => b.length = 6 && layBlock b && bLe b 0 127 && bLe b 1 1) bodyCoefRead q

/-- Reserved bytes of the two sections are zero (06 R172, R173, R175). -/
def reservedZero (n q : Program) (k : Bytes) : Bool :=
  (n.custom || (byteN k 12 < 16 && rsv k 13 3 && rsv k (20 + n.stages) (4 - n.stages) && rsv k (60 + 20 * n.stages) (1984 - 20 * n.stages)
    && (n.identity ≠ 0x00010030 || (rsv k 40 4 && rsv k 48 8))))
  && (q.custom || (byteN k 2060 < 4 && rsv k 2061 3 && rsv k 2068 4 && rsv k 2124 1968))

/-- Every biquad stage is stable (06 R175). -/
def stable (n q : Program) (k : Bytes) : Bool :=
  let ok := fun (s : Rat × Rat × Rat × Rat × Rat) => absR s.2.2.2.2 < 1 && absR s.2.2.2.1 < 1 + s.2.2.2.2
  (n.custom || ((if n.q15 then coefsQ15 n k else coefsBf n k).stages.all ok)) && (q.custom || (coefsQ15 q k).stages.all ok)

/-- The checks of R175 on the inactive blocks of some axes, in its order. -/
def swapChecks (c : Chip) (xs : List Nat) (gen : Nat) : Option Status :=
  let each := fun (p : Bytes → Program → Program → Bool) => xs.all (fun a =>
    match c.acfg a with
    | some g => (match findProgram c g.normal, findProgram c g.q15 with | some n, some q => p (c.axis a).other n q | _, _ => false)
    | none => false)
  firstFail [
    (!each (fun k _ _ => ru k 2044 4 = crc32c (k.take 2044) && ru k 4092 4 = crc32c (slice k 2048 2044)), .checkFail),
    (!each (fun k n q => ru k 0 4 = n.identity && ru k 4 4 = n.version && ru k 2048 4 = q.identity && ru k 2052 4 = q.version), .badParam),
    (!each (fun k n q => reservedZero n q k), .badParam), (!each (fun k n q => stable n q k), .badParam),
    (!each (fun k _ _ => ru k 8 4 = gen), .refusedState)]

/-- The owner and axes that JOINT_BANK_SWAP names. -/
def swapTarget (c : Chip) (b : Bytes) : Option Nat :=
  if byteN b 0 < 12 then some (byteN b 0)
  else match axisOwner c (byteN b 1) with | some o => if 12 ≤ o then some o else none | none => none

/-- JOINT_BANK_SWAP: at the boundary of cycle c + 2. -/
def bodySwap (q : Req) (c : Chip) : Reply :=
  let gen := ru q.payload 4 4
  match swapTarget c q.payload with
  | none => refuse c .badParam
  | some o =>
    if (c.ocfg o).isNone then refuse c .badParam else
    match swapChecks c (ownerAxes c o) gen with
    | some st => refuse c st
    | none =>
      if (c.seq o).swap.isSome then refuse c .busy else
      let due := c.cyc + ahead c 0x0515 + 1
      let bank := match ownerAxes c o with | a :: _ => (c.axis a).bank | [] => 0
      answer (onSeq (deferB c 0x0515 q 1) o (fun s => { s with swap := some (due, gen) })) .ok
        (le 1 bank ++ zeros 3 ++ le 4 (due % 4294967296))

def execJointBankSwap (q : Req) : State → Host.Outcome State Fault Refusal :=
  host 0x0515 12 (lay 8 fun b => [byteN b 0 < 12 && byteN b 1 = 0 || byteN b 0 = 0xFF && bLe b 1 127, rsv b 2 2]) bodySwap q

def applySwap (b : Bytes) (c : Chip) : Chip :=
  match swapTarget c b with
  | none => c
  | some o =>
    match (c.seq o).swap with
    | none => c
    | some (_, gen) =>
      let xs := ownerAxes c o
      let c := xs.foldl (fun c a => onAxis c a (fun x => { x with bank := 1 - x.bank })) (onSeq c o (fun s => { s with swap := none }))
      let bank := match xs with | a :: _ => (c.axis a).bank | [] => 0
      post c 3 0x0513 (if o < 12 then o else 0xFF) (if o < 12 then 0xFF else 96 + (o - 12)) (le 1 bank ++ zeros 3 ++ le 4 gen)

/-! ### Supervision figures, reading, tests -/

/-- JOINT_SET_SUPERVISION. -/
def bodySetSup (q : Req) (c : Chip) : Reply :=
  let a := byteN q.payload 0
  match axisOwner c a with
  | none => refuse c .badParam
  | some o =>
    let st := (c.seq o).st
    if c.sys.dev = .automatic || !(st = .disabled || st = .hold) then refuse c .refusedState else answer (deferB c 0x0516 q) .ok

def execJointSetSupervision (q : Req) : State → Host.Outcome State Fault Refusal :=
  host 0x0516 4 (lay 24 fun b => [bLe b 0 127, bLe b 1 4, ru b 2 2 ≤ 3200, 1 ≤ ru b 4 4 && ru b 4 4 ≤ 2147483647, ru b 8 4 ≤ ru b 4 4,
    66 ≤ ru b 12 4 && ru b 12 4 ≤ 6553600, 1 ≤ ru b 16 2 && ru b 16 2 ≤ 100, ru b 18 2 < 0x8000, 1 ≤ ru b 20 2 && ru b 20 2 ≤ 100, rsv b 22 2])
    bodySetSup q

def applySetSup (b : Bytes) (c : Chip) : Chip :=
  onSup c (byteN b 0) (fun s => { s with
    bridge := byteN b 1, timer := ru b 2 2, limit := ru b 4 4, warn := ru b 8 4, frozenThr := ru b 12 4, frozenMs := ru b 16 2,
    resLimit := ru b 18 2, resMs := ru b 20 2 })

/-- JOINT_GET. -/
def bodyJointGet (q : Req) (c : Chip) : Reply :=
  let a := byteN q.payload 0
  if (axisOwner c a).isNone then refuse c .badParam else
  let x := c.axis a
  let s := c.sup a
  answer c .ok (le 1 (b2n x.q15) ++ slice x.state 13 1 ++ slice x.state 12 1 ++ zeros 1 ++ slice x.state 0 4 ++ leI 4 (satI 32 s.peak)
    ++ slice x.state 8 4 ++ slice x.state 24 4 ++ le 4 s.bridged ++ le 4 s.faults)

def execJointGet (q : Req) : State → Host.Outcome State Fault Refusal :=
  host 0x0517 32 (lay 1 fun b => [bLe b 0 127]) bodyJointGet q

/-- JOINT_TEST. -/
def bodyTest (q : Req) (c : Chip) : Reply :=
  match axisOwner c (byteN q.payload 0) with
  | none => refuse c .badParam
  | some o =>
    if 12 ≤ o then refuse c .badParam
    else if c.sys.dev ≠ .commissioning || (c.seq o).st ≠ .hold || (c.seq o).test.isSome then refuse c .refusedState
    else answer (deferB c 0x0518 q) .ok

def execJointTest (q : Req) : State → Host.Outcome State Fault Refusal :=
  host 0x0518 4 (lay 16 fun b => [bLe b 0 127, 1 ≤ byteN b 1 && byteN b 1 ≤ 3, 10 ≤ ru b 12 4 && ru b 12 4 ≤ 60000]) bodyTest q

/-- The test begins at the boundary; one whose arm has left HOLD by then does not begin. -/
def applyTest (b : Bytes) (c : Chip) : Chip :=
  match axisOwner c (byteN b 0) with
  | none => c
  | some o =>
    if c.sys.dev ≠ .commissioning || (c.seq o).st ≠ .hold || (c.seq o).test.isSome then c else
    onSeq c o (fun s => { s with test := some {
      axis := byteN b 0, shape := byteN b 1, amp := ru b 2 2, f0 := ru b 4 4, f1 := ru b 8 4, endsAt := c.now + ru b 12 4 * 1000000 } })

end Sys2Proof.Machine
end

