-- ==== Sys2Proof/Machine/Metro.lean ====
section
/-!
DEFINITION. The metrology partition (chapter 12): what the metrology die does with line-event messages, samples, self-checks, its
seal and its service port; what Brass keeps of its stream; and the host metrology commands.
-/

namespace Sys2Proof.Machine

open Sys2Proof

/-! ### The link to the die -/

/-- A line-event message (12 R369). -/
def metroMessage (kind ch flags seq item : Nat) (at' : Bytes) : Bytes :=
  let b := le 1 kind ++ le 1 ch ++ le 1 flags ++ zeros 1 ++ le 2 seq ++ zeros 2 ++ le 4 item ++ fit 10 at' ++ zeros 6
  b ++ le 4 (crc32c b)

/-- The control die sends a message; its sequence rises by one per message (12 R369). -/
def metroSend (c : Chip) (kind ch flags item : Nat) (at' : Bytes) : Chip :=
  c.onMlink (fun m => { m with
    link := m.link ++ [metroMessage kind ch flags m.txSeq item at'], txSeq := (m.txSeq + 1) % 65536 })

/-! ### State of the die -/

def Chip.weigh (c : Chip) (k : Nat) : WChan := vget c.metro.chan k
def onW (c : Chip) (k : Nat) (f : WChan → WChan) : Chip := c.onMetro (fun m => { m with chan := vmod m.chan k f })
def onAllW (c : Chip) (f : WChan → WChan) : Chip := c.onMetro (fun m => { m with chan := vmapIdx m.chan (fun _ w => f w) })

/-- Plant time as the die counts it from the last TICK (12 R367); 0 before the first. -/
def metroPlant (c : Chip) : Int := match c.metro.tick with | some (p, t) => p + (c.now - t : Nat) | none => 0

/-- Local time of a plant instant by the same count. -/
def metroLocal (c : Chip) (t : Int) : Nat := match c.metro.tick with | some (p, l) => (l + (t - p)).toNat | none => c.now

/-- The die sends status when something in it changed: Brass's copy is taken from it (12 R388). -/
def metroStatus (c : Chip) : Chip :=
  if c.metro.power && (c.mlink.stream.getLast?.map (·.1)) ≠ some 3 then c.onMlink (fun m => { m with stream := m.stream ++ [(3, [])] })
  else c

/-- A metrology event on the stream (12 R389). -/
def metroEvent (c : Chip) (code ch : Nat) (detail : Bytes) : Chip :=
  c.onMlink (fun m => { m with stream := m.stream ++ [(2, evBytes c code ch 0xFF detail)] })

/-- METRO_STATE (12 R389). -/
def metroState (c : Chip) (st : MetroSt) : Chip :=
  let old := c.metro.st
  metroEvent (c.onMetro (fun m => { m with st := st })) 0x0B01 0xFF (le 1 st.code ++ le 1 old.code ++ zeros 2 ++ le 4 c.metro.events)

/-- The die runs its firmware. -/
def metroRuns (c : Chip) : Bool := c.metro.power && (c.metro.st = .run || c.metro.st = .adjust)

/-! ### Records (12 R377-R379) -/

/-- The first chain value of a boot (12 R378). -/
def firstChain (boots : Nat) : Bytes := fit 8 (shake256 ([0x43, 0x53, 0x54, 0x4E] ++ le 4 boots ++ fit 32 Config.unitId) 8)

/-- A batch closes (12 R379): header and signature go out on ring 29. -/
def closeBatch (c : Chip) : Chip :=
  match c.metro.batch with
  | none => c
  | some (n, first, before', _) =>
    let head := le 2 1 ++ le 2 n ++ zeros 4 ++ le 8 first ++ le 8 (first + n - 1) ++ fit 8 before' ++ fit 8 c.metro.chain
      ++ wide (metroPlant c) ++ le 4 c.metro.events ++ le 2 1280 ++ zeros 8
    let sig := fit 1280 (Config.falconSign 1 (shake256 (head.take 56) 64))
    let c := c.onMetro (fun m => { m with batch := none })
    c.onMlink (fun m => { m with stream := m.stream ++ [(1, head ++ sig)] })

/-- A record joins the chain, the stream and the batch (12 R377-R379). -/
def putRecord (c : Chip) (ch kind flags item : Nat) (mg me tEnd : Int) (samples : Nat) : Chip :=
  let m := c.metro
  let number := m.boots * 4294967296 + m.nextRec
  let body := le 8 number ++ le 1 ch ++ le 1 kind ++ le 2 flags ++ le 4 item ++ leI 4 (satI 32 mg) ++ leI 4 (satI 32 me)
    ++ wide tEnd ++ le 2 (min samples 65535) ++ le 4 m.events
  let chain := fit 8 (shake256 (m.chain ++ body) 8)
  let batch := match m.batch with
    | some (n, first, b, t) => (n + 1, first, b, t)
    | none => (1, number, m.chain, c.now)
  let c := c.onMetro (fun m => { m with
    nextRec := (m.nextRec + 1) % 4294967296, chain := chain, batch := some batch,
    chan := vmod m.chan ch (fun w => { w with lastRec := number }) })
  let c := c.onMlink (fun m => { m with stream := m.stream ++ [(0, body ++ chain)] })
  if 64 ≤ batch.1 then closeBatch c else c

/-- `v` rounded to the nearest multiple of e, ties to even (12 R368). -/
def toScale (v : Int) (e : Nat) : Int :=
  if e = 0 then v else
  let q := v / (e : Int)
  let r := v % (e : Int)
  (if 2 * r < e then q else if 2 * r > e then q + 1 else if q % 2 = 0 then q else q + 1) * e

/-- The samples of an interval. -/
def interval (w : WChan) (t0 t1 : Int) : List Int := (w.samples.filter (fun s => t0 ≤ s.1 && s.1 ≤ t1)).map (·.2)

def sumOf (l : List Int) : Int := l.foldl (· + ·) 0
def spanRange (l : List Int) : Int := match l with | [] => 0 | x :: r => r.foldl max x - r.foldl min x

/-- The distance of a mean from a count. -/
def absDiff (a : Rat) (b : Int) : Rat := if a < b then b - a else a - b

/-- The channel can produce records (12 R386). -/
def weighs (p : WParams) : Bool := p.enable = 1 && p.max ≠ 0 && p.e ≠ 0 && p.kSpan % 2 ^ 63 ≠ 0

/-- 10 ms have passed without a TICK (12 R370). -/
def untimed (c : Chip) : Bool := match c.metro.tick with | some (_, t) => decide (t + 10000000 ≤ c.now) | none => true

/-- A window ends at `tEnd` with further flags (12 R371-R374): the record, and the zero taken from a zero window. -/
def endWindow (c : Chip) (k : Nat) (tEnd : Int) (more : Nat) : Chip :=
  let w := c.weigh k
  match w.win with
  | none => c
  | some x =>
    let c := onW c k (fun w => { w with win := none })
    let p := w.par
    if !weighs p then c else
    let from' := x.tOpen + p.tSettle * 1000000
    let l := interval w from' tEnd
    let sum := sumOf l
    let mg := weighMass sum l.length w.zero p.kSpan p.kLin
    let me := toScale mg p.e
    let zero := x.item = 0
    let spread := spreadMg (spanRange l) p.kSpan
    let mean := meanOf sum l.length
    let f0 := x.flags ||| more ||| (if untimed c then 0x1000 else 0) ||| (if decide (((p.stab * p.e : Nat) : Rat) < spread) then 2 else 0)
      ||| (if me < p.min then 4 else 0) ||| (if (p.max + 9 * p.e : Nat) < me then 8 else 0)
      ||| (if w.zeroOverdue then 0x100 else 0) ||| (if w.chkOverdue then 0x200 else 0)
      ||| (if c.metro.st = .adjust then 0x400 else 0) ||| (if w.chkFailed then 0x800 else 0)
      ||| (if l.length < p.nMin || tEnd < from' then 0x4000 else 0)
    -- UNSTABLE, OVERLAP, TIMEOUT, SIGNAL_FAULT, MSG_GAP, SHORT bar a zero
    let clean := f0 &&& 0x5832 = 0
    let near := match mean with
      | some m => decide (spreadMg (absDiff m p.zAdj) p.kSpan * 10000 ≤ (p.zeroRange * p.max : Nat))
      | none => false
    let f1 := if zero && clean && !near then f0 ||| 0x2000 else f0
    let flags := if !zero && f1 &&& 0x7F7E = 0 then f1 ||| 1 else f1
    let c := if zero && clean && near then onW c k (fun w => { w with zero := mean.getD w.zero, zeroAt := some c.now, zeroOverdue := false }) else c
    putRecord c k (if zero then 2 else 1) flags x.item mg me tEnd l.length

/-! ### Messages into the die (12 R370-R372) -/

/-- A message gap marks every open window (12 R370). -/
def gapAll (c : Chip) : Chip := onAllW c (fun w => { w with win := w.win.map (fun x => { x with flags := x.flags ||| 0x1000 }) })

/-- The message is well formed and next in sequence (12 R369, R370). -/
def messageOk (m : Metro) (b : Bytes) : Bool :=
  let kind := byteN b 0
  b.length = 32 && ru b 28 4 = crc32c (b.take 28) && 1 ≤ kind && kind ≤ 4
    && (if kind = 1 then byteN b 1 = 0xFF else byteN b 1 ≤ 7) && bLe b 2 3 && rsv b 3 1 && rsv b 6 2 && rsv b 22 6
    && (kind = 2 || ru b 8 4 = 0)
    && (match m.rxSeq with | some s => ru b 4 2 = (s + 1) % 65536 | none => true)

/-- Record flags that a message's LATE and HOLDOVER give (12 R372, R377). -/
def messageFlags (b : Bytes) : Nat := (if mbit (byteN b 2) 0 then 0x80 else 0) + (if mbit (byteN b 2) 1 then 0x40 else 0)

/-- OPEN (12 R371, R372): a window that is open ends with OVERLAP; a self-check is abandoned. -/
def openWindow (c : Chip) (k : Nat) (t : Int) (item flags : Nat) : Chip :=
  let w := c.weigh k
  let c := if w.checking.isSome then
    (onW c k (fun w => { w with checking := none })).onMetro (fun m => { m with abandon := inc m.abandon }) else c
  let lap := w.win.isSome
  let c := if lap then endWindow c k t 0x10 else c
  onW c k (fun w => { w with win := some {
    item := item, tOpen := t,
    flags := flags ||| (if lap then 0x10 else 0) ||| (if w.sigFault then 0x800 else 0) ||| (if untimed c then 0x1000 else 0) } })

def messageOp (b : Bytes) (c : Chip) : Chip :=
  let c := c.onMlink (fun m => { m with link := m.link.drop 1 })
  if !metroRuns c then c
  else if !messageOk c.metro b then metroStatus (gapAll c)
  else
    let c := c.onMetro (fun m => { m with rxSeq := some (ru b 4 2) })
    let k := byteN b 1
    let t := ofWide b 12
    metroStatus (match byteN b 0 with
      | 1 => c.onMetro (fun m => { m with tick := some (t + 400, c.now) })
      | 2 => openWindow c k t (ru b 8 4) (messageFlags b)
      | 3 => if (c.weigh k).win.isSome then endWindow c k t (messageFlags b)
             else c.onMetro (fun m => { m with orphan := inc m.orphan })
      | _ => onW c k (fun w => { w with nextOpen := some t }))

def execMetroMessageReceived (msg : Bytes) : State → Host.Outcome State Fault Refusal := runMetro (messageOp msg)

/-- No CLOSE by t_o + t_wmax (12 R372). -/
def windowTimeoutOp (k : Nat) (c : Chip) : Chip :=
  match (c.weigh k).win with
  | none => c
  | some x =>
    let t := x.tOpen + (c.weigh k).par.tWmax * 1000000
    metroStatus (endWindow (c.atTime (metroLocal c t)) k t 0x20)

def execWeighWindowTimeout (ch : Fin 8) : State → Host.Outcome State Fault Refusal := runMetro (windowTimeoutOp ch)

/-- 10 ms without a TICK (12 R370). -/
def execMessageGap : State → Host.Outcome State Fault Refusal :=
  runMetro fun c => match c.metro.tick with
    | some (_, t) => metroStatus (gapAll (c.atTime (t + 10000000)))
    | none => gapAll c

/-! ### Samples and self-checks -/

/-- A converter result (12 R367, R375). While a self-check runs the input is switched away from the bridge (R376). -/
def sampleOp (k : Nat) (raw : Int) (senseOk excOk : Bool) (c : Chip) : Chip :=
  if !metroRuns c then c else
  let c := c.onMetro (fun m => { m with excOk := excOk })
  let w := c.weigh k
  if w.checking.isSome then c else
  let y := Config.weighFilter w.par.fc w.filt raw
  let t := metroPlant c
  let bad := !senseOk || !excOk || decide (8388607 ≤ raw) || decide (raw ≤ -8388608)
  let keep := match w.win with | some x => min (t - 1000000000) x.tOpen | none => t - 1000000000
  let c := onW c k (fun w => { w with
    filt := y.1, samples := (t, y.2) :: w.samples.filter (fun s => keep ≤ s.1), sigFault := bad,
    win := if bad then w.win.map (fun x => { x with flags := x.flags ||| 0x800 }) else w.win })
  metroStatus c

def execLoadCellSample (ch : Fin 8) (raw : Int) (senseOk excOk : Bool) : State → Host.Outcome State Fault Refusal :=
  runMetro (sampleOp ch raw senseOk excOk)

/-- A self-check starts where its conditions hold (12 R376). -/
def checkStartOp (k : Nat) (c : Chip) : Chip :=
  let w := c.weigh k
  let ahead' := match w.nextOpen with | some t => decide (metroPlant c + 14000000 ≤ t) | none => false
  let due := match w.chkAt with | some t => decide (t + w.par.chkPeriod * 1000000000 ≤ c.now) | none => true
  if metroRuns c && w.win.isNone && w.checking.isNone && ahead' && due then onW c k (fun w => { w with checking := some c.now }) else c

def execSelfCheckStart (ch : Fin 8) : State → Host.Outcome State Fault Refusal := runMetro (checkStartOp ch)

/-- Its end after 12 ms (12 R376); which part failed is not an operand, so it is a free value. -/
def checkDoneOp (k : Nat) (ok : Bool) (c : Chip) : Chip :=
  match (c.weigh k).checking with
  | none => c
  | some t =>
    let c := c.atTime (t + 12000000)
    let part := 1 + Config.freeNat c.free k % 3
    let c := onW c k (fun w => { w with
      checking := none, chkFailed := !ok, chkAt := if ok then some c.now else w.chkAt, chkOverdue := w.chkOverdue && !ok })
    metroStatus (metroEvent (if ok then c else takeFree c) 0x0B02 k (le 1 (b2n ok) ++ le 1 (if ok then 0 else part)))

def execSelfCheckDone (ch : Fin 8) (ok : Bool) : State → Host.Outcome State Fault Refusal := runMetro (checkDoneOp ch ok)

/-- No zero accepted within t_zmax (12 R373, R374). -/
def execZeroOverdue (ch : Fin 8) : State → Host.Outcome State Fault Refusal :=
  runMetro fun c => match (c.weigh ch).zeroAt with
    | some t => metroStatus (onW (c.atTime (t + (c.weigh ch).par.tZmax * 1000000000)) ch (fun w => { w with zeroOverdue := true }))
    | none => onW c ch (fun w => { w with zeroOverdue := true })

/-- No self-check passed within t_chkmax (12 R373). -/
def execCheckOverdue (ch : Fin 8) : State → Host.Outcome State Fault Refusal :=
  runMetro fun c => match (c.weigh ch).chkAt with
    | some t => metroStatus (onW (c.atTime (t + (c.weigh ch).par.tChkmax * 1000000000)) ch (fun w => { w with chkOverdue := true }))
    | none => onW c ch (fun w => { w with chkOverdue := true })

/-- 1 s after the first record of a batch (12 R379). -/
def execBatchClose : State → Host.Outcome State Fault Refusal :=
  runMetro fun c => match c.metro.batch with
    | some b => metroStatus (closeBatch (c.atTime (b.2.2.2 + 1000000000)))
    | none => c

/-! ### Seal, power, commit -/

/-- The parameters by identity (12 R386). -/
def WParams.value (p : WParams) : Nat → Int
  | 1 => p.enable | 2 => p.max | 3 => p.min | 4 => p.e | 5 => p.kSpan | 6 => p.kLin | 7 => p.zAdj | 8 => p.zeroRange
  | 9 => p.fc | 10 => p.tSettle | 11 => p.nMin | 12 => p.stab | 13 => p.tWmax | 14 => p.tZmax | 15 => p.tChkmax
  | _ => p.chkPeriod

/-- A parameter replaced. -/
def WParams.put (p : WParams) (id : Nat) (v : Int) : WParams :=
  let n := v.toNat
  match id with
  | 1 => { p with enable := n } | 2 => { p with max := n } | 3 => { p with min := n } | 4 => { p with e := n }
  | 5 => { p with kSpan := n } | 6 => { p with kLin := n } | 7 => { p with zAdj := v } | 8 => { p with zeroRange := n }
  | 9 => { p with fc := n } | 10 => { p with tSettle := n } | 11 => { p with nMin := n } | 12 => { p with stab := n }
  | 13 => { p with tWmax := n } | 14 => { p with tZmax := n } | 15 => { p with tChkmax := n }
  | _ => { p with chkPeriod := n }

/-- e is 1, 2 or 5 × 10^n mg (12 R386). -/
def scaleOk : Nat → Nat → Bool
  | 0, _ => false
  | f + 1, e => e = 1 || e = 2 || e = 5 || (e % 10 = 0 && e ≠ 0 && scaleOk f (e / 10))

/-- A value within the table of R386, for the parameters it would join. -/
def paramOk (p : WParams) (id : Nat) (v : Int) : Bool :=
  let within := fun (lo hi : Int) => decide (lo ≤ v) && decide (v ≤ hi)
  match id with
  | 1 => within 0 1
  | 2 => within 0 4294967295
  | 3 => within (20 * p.e) 4294967295
  | 4 => within 1 4294967295 && scaleOk 11 v.toNat && decide (20 * v ≤ p.min)
  | 5 | 6 => true
  | 7 => within (-2147483648) 2147483647
  | 8 => within 0 200 | 9 => within 2 200 | 10 => within 2 500 | 11 => within 16 9600 | 12 => within 1 100
  | 13 => within 10 5000 | 14 => within 60 3600 | 15 => within 60 3600 | 16 => within 1 600
  | _ => false

/-- An audit entry (12 R384). -/
def auditEntry (c : Chip) (events kind ch id : Nat) (old new : Bytes) : Bytes :=
  let s := match c.metro.tick with | some _ => (metroPlant c / 1000000000 % 4294967296).toNat | none => 0
  let b := le 4 events ++ le 4 s ++ le 1 kind ++ le 1 ch ++ le 1 id ++ zeros 1 ++ fit 8 old ++ fit 8 new
  b ++ le 4 (crc32c b)

/-- The audit entries that a commit writes: one per changed parameter, one for firmware (12 R383). -/
def commitEntries (c : Chip) (events : Nat) : List Bytes :=
  let ofChan := fun (k : Nat) =>
    let w := c.weigh k
    match w.staged with
    | none => []
    | some p => ((List.range 16).map (· + 1)).filterMap (fun id =>
        if p.value id = w.par.value id then none else
        let kind := if id = 7 && w.adjZero then 3 else if id = 5 && w.adjSpan then 4 else 1
        some (auditEntry c events kind k id (leI 8 (w.par.value id)) (leI 8 (p.value id))))
  (List.range 8).flatMap ofChan
    ++ (match c.metro.fwStaged with | some (_, _, d) => [auditEntry c events 2 0xFF 0 c.metro.fwDigest d] | none => [])

def noStaged (c : Chip) : Chip :=
  (onAllW c (fun w => { w with staged := none, adjZero := false, adjSpan := false })).onMetro (fun m => { m with fwStaged := none })

def hasStaged (c : Chip) : Bool := c.metro.fwStaged.isSome || (List.range 8).any (fun k => (c.weigh k).staged.isSome)

/-- The commit of R383. -/
def commitStaged (c : Chip) : Chip :=
  let events := c.metro.events + 1
  let log := commitEntries c events
  let c := c.onMetro (fun m =>
    let m := match m.fwStaged with
      | some (a, b, d) => { m with fwMajor := a, fwMinor := b, fwDigest := d }
      | none => m
    { m with events := events, audit := m.audit ++ log })
  noStaged (onAllW c (fun w => { w with par := w.staged.getD w.par }))

/-- The audit trail has no room for the commit, or the event counter is at its end (12 R381, R384). -/
def auditFull (c : Chip) : Bool :=
  c.metro.events = Config.cMax || decide (8192 < c.metro.audit.length + (commitEntries c 0).length) || c.metro.audit.length = 8192

/-- SEAL_N has held a new level for 100 ms (12 R381). -/
def sealOp (low : Bool) (c : Chip) : Chip :=
  let c := c.onMetro (fun m => { m with sealLow := low })
  if !c.metro.power then c else
  metroStatus (match c.metro.st, low with
    | .run, true => metroState (onAllW c (fun w => { w with win := w.win.map (fun x => { x with flags := x.flags ||| 0x400 }) })) .adjust
    | .adjust, false =>
      if !hasStaged c then metroState c .run
      else if auditFull c then
        metroEvent ((noStaged c).onMetro (fun m => { m with st := .run })) 0x0B03 0xFF (zeros 4 ++ le 4 c.metro.events)
      else (commitStaged c).onMetro (fun m => { m with st := .run })
    | _, _ => c)

def execSealNChange (low : Bool) : State → Host.Outcome State Fault Refusal := runMetro (sealOp low)

/-- The volatile part of a channel at power-up (12 R374, R381). -/
def freshChan (w : WChan) : WChan := { par := w.par, zero := w.par.zAdj }

/-- Power-up of the die (12 R378, R381). -/
def powerUpOp (fwOk : Bool) (c : Chip) : Chip :=
  if c.metro.power then c else
  let c := onAllW c freshChan
  metroStatus (c.onMetro (fun m =>
    let boots := (m.boots + 1) % 4294967296
    { m with
      power := true, st := if !fwOk then .fwInvalid else if m.sealLow then .adjust else .run, rxSeq := none, tick := none,
      excOk := false, boots := boots, nextRec := 0, chain := firstChain boots, batch := none, fwStaged := none, orphan := 0, abandon := 0 }))

def execMetroPowerUp (fwOk : Bool) : State → Host.Outcome State Fault Refusal := runMetro (powerUpOp fwOk)

/-- VMETA or VMETC is lost (12 R381): what is staged, open or unsigned is gone. -/
def execMetroSupplyLoss : State → Host.Outcome State Fault Refusal :=
  runMetro fun c => (noStaged (onAllW c freshChan)).onMetro (fun m => { m with
    power := false, st := .noContact, batch := none, rxSeq := none, tick := none, excOk := false })

/-! ### Service port (12 R382, R386) -/

/-- The service port answers with a status and, where it is OK, the fields of the layout. -/
def svcAnswer (c : Chip) (st : Status) (data : Bytes := []) : Chip :=
  metroStatus (c.onMetro (fun m => { m with svcOut := (le 1 st.code ++ zeros 3 ++ data) :: m.svcOut }))

/-- The service port before a command's own checks (12 R386): nothing answers without power; SEALED in RUN; in FW_INVALID only
METRO_SVC_FW_LOAD is accepted, and only while SEAL_N is low (the status of what it does not accept: log 40). -/
def svc (fwLoad : Bool) (layout : Bytes → Bool) (f : Bytes → Chip → Chip) (b : Bytes) (c : Chip) : Chip :=
  if !c.metro.power then c
  else if c.metro.st = .run then svcAnswer c .sealed
  else if c.metro.st = .fwInvalid && !c.metro.sealLow then svcAnswer c .sealed
  else if c.metro.st = .fwInvalid && !fwLoad then svcAnswer c .refusedState
  else if !layout b then svcAnswer c .badParam
  else f b c

/-- The parameters as staged, or those in force. -/
def WChan.next (w : WChan) : WParams := w.staged.getD w.par

def paramLay (n : Nat) (b : Bytes) : Bool := b.length = n && bLe b 0 7 && 1 ≤ byteN b 1 && byteN b 1 ≤ 16

def svcRead (b : Bytes) (c : Chip) : Chip :=
  let w := c.weigh (byteN b 0)
  svcAnswer c .ok (leI 8 (w.par.value (byteN b 1)) ++ leI 8 (w.next.value (byteN b 1)))

def execMetroSvcReadParam (req : Bytes) : State → Host.Outcome State Fault Refusal := runMetro (svc false (paramLay 2) svcRead req)

def svcWrite (b : Bytes) (c : Chip) : Chip :=
  let k := byteN b 0
  let id := byteN b 1
  let p := (c.weigh k).next
  let v : Int := if id = 7 then ri b 8 8 else ru b 8 8
  if !paramOk p id v then svcAnswer c .badParam
  else svcAnswer (onW c k (fun w => { w with
    staged := some (p.put id v), adjZero := w.adjZero && id ≠ 7, adjSpan := w.adjSpan && id ≠ 5 })) .ok

def execMetroSvcWriteParam (req : Bytes) : State → Host.Outcome State Fault Refusal :=
  runMetro (svc false (fun b => paramLay 16 b && rsv b 2 6) svcWrite req)

/-- The filtered samples of the last 1 s. -/
def lastSecond (c : Chip) (k : Nat) : List Int := interval (c.weigh k) (metroPlant c - 1000000000) (metroPlant c)

/-- Their spread exceeds the stability limit (12 R382). -/
def restless (p : WParams) (l : List Int) : Bool := decide (((p.stab * p.e : Nat) : Rat) < spreadMg (spanRange l) p.kSpan)

def svcZero (b : Bytes) (c : Chip) : Chip :=
  let k := byteN b 0
  let p := (c.weigh k).next
  let l := lastSecond c k
  if restless p l then svcAnswer c .busy else
  let z := satI 32 (meanCount (sumOf l) l.length)
  svcAnswer (onW c k (fun w => { w with staged := some { p with zAdj := z }, adjZero := true })) .ok (leI 4 z)

def execMetroSvcAdjZero (req : Bytes) : State → Host.Outcome State Fault Refusal :=
  runMetro (svc false (lay 1 fun b => [bLe b 0 7]) svcZero req)

def svcSpan (b : Bytes) (c : Chip) : Chip :=
  let k := byteN b 0
  let p := (c.weigh k).next
  let l := lastSecond c k
  if restless p l then svcAnswer c .busy else
  let s := Config.spanFor (ri b 4 4) (sumOf l) l.length p.zAdj p.kLin % 2 ^ 64
  svcAnswer (onW c k (fun w => { w with staged := some { p with kSpan := s }, adjSpan := true })) .ok (le 8 s)

def execMetroSvcAdjSpan (req : Bytes) : State → Host.Outcome State Fault Refusal :=
  runMetro (svc false (lay 8 fun b => [bLe b 0 7, rsv b 1 3]) svcSpan req)

/-- A static weighing over the last 1 s with the staged parameters. -/
def svcWeigh (b : Bytes) (c : Chip) : Chip :=
  let w := c.weigh (byteN b 0)
  let p := w.next
  let l := lastSecond c (byteN b 0)
  let z : Rat := if w.adjZero then p.zAdj else w.zero
  let mg := weighMass (sumOf l) l.length z p.kSpan p.kLin
  svcAnswer c .ok (leI 4 (satI 32 mg) ++ leI 4 (satI 32 (toScale mg p.e)) ++ leI 4 (satI 32 (spreadWhole (spanRange l) p.kSpan)))

def execMetroSvcWeigh (req : Bytes) : State → Host.Outcome State Fault Refusal :=
  runMetro (svc false (lay 1 fun b => [bLe b 0 7]) svcWeigh req)

/-- METRO_SVC_FW_LOAD: the signature, then the version (12 R386). -/
def svcFw (sigOk : Bool) (b : Bytes) (c : Chip) : Chip :=
  let v := Config.metroFwVersion b
  let older := v.1 < c.metro.fwMajor || (v.1 = c.metro.fwMajor && v.2 < c.metro.fwMinor)
  if !sigOk then svcAnswer c .checkFail
  else if older then svcAnswer c .notPermitted
  else svcAnswer (c.onMetro (fun m => { m with fwStaged := some (v.1, v.2, fit 8 (shake256 b 64)) })) .ok
    (le 2 v.1 ++ le 2 v.2)

def execMetroSvcFwLoad (req : Bytes) (sigOk : Bool) : State → Host.Outcome State Fault Refusal :=
  runMetro (svc true (fun _ => true) (svcFw sigOk) req)

def execMetroSvcDiscard (req : Bytes) : State → Host.Outcome State Fault Refusal :=
  runMetro (svc false layNone (fun _ c => svcAnswer (noStaged c) .ok) req)

/-! ### Brass and the stream (12 R380, R389) -/

/-- A record or batch record is held; beyond 4 096 records the oldest goes, counted where it is undelivered (12 R380). -/
def hold (c : Chip) (ring op number : Nat) (b : Bytes) : Chip :=
  c.onMlink (fun m =>
    let held := m.held ++ [(ring, op, number, b, false)]
    let recs := held.filter (fun h => h.1 = 28)
    if recs.length ≤ 4096 then { m with held := held } else
    match recs with
    | [] => { m with held := held }
    | o :: rest =>
      -- its batch record goes with the last of its records
      let low := (rest.head?.map (·.2.2.1)).getD 0
      { m with
        held := held.filter (fun h => if h.1 = 28 then h.2.2.1 ≠ o.2.2.1 else low ≤ h.2.2.1),
        recLost := if o.2.2.2.2 then m.recLost else inc m.recLost })

/-- The channels enabled in the metrology parameters as Brass's copy has them. -/
def enabledMask (c : Chip) : Nat := maskOf 8 (fun k => (vget c.mlink.copy.chan k).par.enable = 1)

/-- Duhorn reads the enabled channels: at image activation and at each METRO_STATE (12 R387). -/
def readEnabled (c : Chip) : Chip := c.onMlink (fun m => { m with enabled := enabledMask c })

/-- What the die sent arrives at Brass (12 R365, R380, R388); while the control die is held in reset it is lost. -/
def streamOpM (c : Chip) : Chip :=
  match c.mlink.stream with
  | [] => c
  | (kind, b) :: rest =>
    if c.sys.dev = .reset || c.sys.dev = .off then c.onMlink (fun m => { m with stream := rest }) else
    let c := c.onMlink (fun m => { m with stream := rest, heard := c.now, copy := c.metro })
    let c := if kind = 2 && ru b 0 2 = 0x0B01 then readEnabled c else c
    match kind with
    | 0 => hold c 28 0x0B10 (ru b 0 8) b
    | 1 => hold c 29 0x0B11 (ru b 16 8) b
    | 2 => enqueue c { ring := 29, opcode := ru b 0 2, cls := 3, payload := b, len := 16 }
    | _ => c

def execMetroStreamReceived : State → Host.Outcome State Fault Refusal := run streamOpM

/-- Nothing from the die for 100 ms: its state reads no contact (12 R389). -/
def execMetroSilent : State → Host.Outcome State Fault Refusal :=
  run fun c => (c.atTime (c.mlink.heard + 100000000)).onMlink (fun m => { m with copy := { m.copy with st := .noContact } })

/-- The die is silent (12 R389). -/
def metroGone (c : Chip) : Bool := c.mlink.copy.st = .noContact || decide (c.mlink.heard + 100000000 ≤ c.now)

/-! ### Host commands (12 R388, R389) -/

def bodyMetroStatus (_ : Req) (c : Chip) : Reply :=
  let m := c.mlink.copy
  let gone := metroGone c
  let full := m.audit.length = 8192
  let b := le 1 (if gone then 3 else m.st.code) ++ le 1 (enabledMask c) ++ le 1 c.cfg.weigh
    ++ le 1 (bits [m.sealLow, full]) ++ le 4 m.events ++ le 4 m.boots ++ le 4 m.nextRec ++ le 4 c.mlink.recLost ++ le 4 m.orphan
    ++ le 4 m.abandon
  if gone then { (answer c .timeout b) with named := true } else answer c .ok b

def execMetroGetStatus (q : Req) : State → Host.Outcome State Fault Refusal := host 0x0B01 32 layNone bodyMetroStatus q

/-- Age of an instant in seconds; of one that has not been, a free value (log 41). -/
def ageOf (c : Chip) (i : Nat) : Option Nat → Nat
  | some t => (c.now - t) / 1000000000
  | none => Config.freeNat c.free i % 4294967296

def bodyMetroChannel (q : Req) (c : Chip) : Reply :=
  let w := vget c.mlink.copy.chan (byteN q.payload 0)
  if metroGone c then refuse c .timeout else
  let free := w.zeroAt.isNone || w.chkAt.isNone
  let st := if w.par.enable ≠ 1 then 0 else if w.sigFault || w.chkFailed then 2 else 1
  answer (if free then takeFree c else c) .ok (le 1 st ++ le 1 (b2n w.win.isSome) ++ zeros 2 ++ le 4 w.par.max ++ le 4 w.par.min
    ++ le 4 w.par.e ++ le 4 (ageOf c 0 w.zeroAt) ++ le 4 (ageOf c 1 w.chkAt) ++ le 8 w.lastRec)

def execMetroGetChannel (q : Req) : State → Host.Outcome State Fault Refusal :=
  host 0x0B02 36 (lay 1 fun b => [bLe b 0 7]) bodyMetroChannel q

def bodyMetroIdent (_ : Req) (c : Chip) : Reply :=
  let m := c.mlink.copy
  if metroGone c then refuse c .timeout else
  answer c .ok ([0x43, 0x53, 0x54, 0x4E] ++ le 1 m.fwMajor ++ le 1 m.fwMinor ++ zeros 2 ++ fit 4 m.fwDigest ++ le 4 m.events)

def execMetroGetIdent (q : Req) : State → Host.Outcome State Fault Refusal := host 0x0B03 20 layNone bodyMetroIdent q

def bodyMetroAudit (q : Req) (c : Chip) : Reply :=
  match c.mlink.copy.audit[ru q.payload 0 2]? with
  | none => refuse c .badParam
  | some b => if metroGone c then refuse c .timeout else answer c .ok (fit 32 b)

def execMetroReadAudit (q : Req) : State → Host.Outcome State Fault Refusal :=
  host 0x0B04 36 (lay 2 fun b => [ru b 0 2 ≤ 8191]) bodyMetroAudit q

def bodyMetroPubkey (_ : Req) (c : Chip) : Reply :=
  if metroGone c then refuse c .timeout else answer c .ok (le 2 1793 ++ zeros 2 ++ fit 1793 Config.metroPubKey)

def execMetroGetPubkey (q : Req) : State → Host.Outcome State Fault Refusal := host 0x0B05 1801 layNone bodyMetroPubkey q

/-- METRO_RESEND: the records from the first named on, with their batch records, are delivered again. -/
def bodyMetroResend (q : Req) (c : Chip) : Reply :=
  let first := ru q.payload 0 8
  let held := c.mlink.held
  if metroGone c then refuse c .timeout
  else if !held.any (fun h => h.1 = 28 && h.2.2.1 = first) then refuse c .noResource
  else
    let n := (held.filter (fun h => h.1 = 28 && first ≤ h.2.2.1)).length
    answer (c.onMlink (fun m => { m with
      held := m.held.map (fun h => if first ≤ h.2.2.1 then (h.1, h.2.1, h.2.2.1, h.2.2.2.1, false) else h) })) .ok (le 4 n)

def execMetroResend (q : Req) : State → Host.Outcome State Fault Refusal :=
  host 0x0B06 8 (fun b => b.length = 8) bodyMetroResend q

end Sys2Proof.Machine
end

