-- ==== Sys2Proof/Machine/Events.lean ====
section
/-!
DEFINITION. The event scheduler at t_pr and at its comparators (02 R49-R63), time triggers firing (03 R89-R91), latch edges (02
R64-R66), and the writing of a record to its ring.
-/

namespace Sys2Proof.Machine

open Sys2Proof

/-! ### Writing a record to its ring -/

/-- A message that has room goes to its ring: sequences, LOST_BEFORE on the first entry (15 R435, R436, R440). -/
def ringWrite (c : Chip) (m : OutMsg) : Chip :=
  let g := vget c.mb.rings m.ring
  let es := entries m.opcode m.cls m.len m.payload g.lost (fun k => g.nextSeq + k)
  putEntries (onRing c m.ring (fun g => { g with nextSeq := (g.nextSeq + es.length) % 65536, lost := false })) m.ring es

/-! ### Node triggers (02 R56, 04 R107) -/

/-- A prediction of a node trigger: it replaces the pending one of its number; one from the same event keeps what was carried. -/
def aimTrigger (c : Chip) (param src : Nat) (when' : Int) (fired : Bool) : Chip :=
  onNode c (param % 256 - 1) (fun n =>
    let old := n.trigs.find? (fun t => t.src = src && !t.cancel)
    let t : NodeTrig := {
      trig := param / 256 % 8, when := when', src := src, fired := fired,
      sent := old.any (·.sent), late := old.any (·.late) }
    { n with trigs := (n.trigs.filter (fun x => x.trig ≠ t.trig && x.src ≠ src) ++ [t]).insertionSort (fun a b => a.when ≤ b.when) })

/-- A pending node trigger of an event that is freed: cancelled at the node where a downlink has carried it, else forgotten. -/
def dropTrigger (c : Chip) (src : Nat) : Chip :=
  c.onStar (fun s => { s with node := vmapIdx s.node (fun _ n => { n with
    trigs := n.trigs.filterMap (fun t => if t.src ≠ src || t.fired then some t else if t.sent || t.late then some { t with cancel := true, sent := false, late := false } else none) }) })

/-- The node trigger fires (02 R56): on time where a downlink that completed at least 1 µs before has carried it; otherwise LATE, and
the next downlink carries it if none has. -/
def fireTrigger (c : Chip) (param src : Nat) (when' : Int) : Chip × Bool :=
  let k := param % 256 - 1
  match (c.node k).trigs.find? (fun t => t.src = src && !t.cancel) with
  | some t =>
    if t.sent || t.late then (onNode c k (fun n => { n with trigs := n.trigs.filter (fun x => x.src ≠ src) }), !t.sent)
    else (aimTrigger c param src t.when true, true)
  | none => (aimTrigger c param src when' true, true)

/-! ### An event fires -/

/-- A free event slot, with what it had pending. -/
def endSlot (c : Chip) (k : Nat) : Chip := freeSlot (dropTrigger c k) k

/-- The band of an event in counts (02 R53). -/
def bandOf (c : Chip) (v : EvRec) : Int := if v.band = 0 then (c.lcfg v.line).syncTol else v.band

/-- The occurrence of a target nearest to a position (02 R40). -/
def nearOccurrence (m : Nat) (x p : Int) : Int :=
  if m = 0 then x else
  let r := (p - x) % (m : Int)
  if 2 * r < m then p - r else p - r + m

/-- The gates of the latches in a mask (02 R55, R64). -/
def setGates (c : Chip) (mask : Nat) (opened : Bool) : Chip :=
  c.onLt (fun t => { t with latch := vmapIdx t.latch (fun i h => if mbit mask i then { h with gate := opened } else h) })

/-- The predicted instant of the channel's earliest armed WEIGH_OPEN (12 R369). -/
def nextOpenAt (c : Chip) (ch : Nat) : Option Int :=
  (c.lt.events.filter (fun s => s.ev.action = 4 && s.ev.param = ch && s.st ≠ .fired)).foldl (fun b s =>
    match b, s.due with
    | some x, some y => some (min x y)
    | none, y => y
    | x, none => x) none

/-- NEXT_OPEN for a channel (12 R369). -/
def sendNextOpen (c : Chip) (ch : Nat) : Chip := metroSend c 4 ch 0 0 (wideOpt (nextOpenAt c ch))

/-- The action of an event (02 R55): the module after it, and whether it makes the report LATE. -/
def act (c : Chip) (s : EvSlot) (late held : Bool) (cross : Int) : Chip × Bool :=
  let fl := b2n late + 2 * b2n held
  match s.ev.action with
  | 2 => (setGates c s.ev.param true, false)
  | 3 => (setGates c s.ev.param false, false)
  | 4 => ((metroSend c 2 s.ev.param fl s.ev.param2 (wide cross)).onLt (fun t => { t with
      weighLine := vset t.weighLine s.ev.param (some s.ev.line) }), false)
  | 5 => (metroSend c 3 s.ev.param fl 0 (wide cross), false)
  | 6 => fireTrigger c s.ev.param s.slot cross
  | _ => (c, false)

/-- An event report (02 R63). -/
def eventReport (c : Chip) (s : EvSlot) (flags fires : Nat) (tFire d pos vel : Int) : Chip :=
  let body := le 2 s.slot ++ le 1 s.ev.line ++ le 1 s.ev.action ++ le 1 flags ++ zeros 1 ++ le 2 fires ++ wide tFire
    ++ leI 4 (satI 32 d) ++ leI 8 (reported c s.ev.line pos) ++ leI 8 vel ++ le 4 s.ev.tag ++ zeros 2
  enqueue c { ring := vget c.cfg.sys.evRing 1, opcode := 0x0280, cls := 3, len := 44, payload := body }

/-- After the grid point awaited: the next one, or none where the firings are used up (02 R58). -/
def nextPoint (s : EvSlot) (k : Nat) : Option EvSlot :=
  if s.ev.pitch = 0 || (s.ev.count ≠ 0 && s.ev.count ≤ s.n + k) then none
  else some { s with n := s.n + k, aim := s.aim + k * s.ev.pitch, refire := s.refire - k, reversed := false, past := false, st := .armed, due := none }

/-- An event fires at `tFire` for a crossing at `cross` (02 R52, R55-R63); its grid goes on `steps` points further. -/
def fireAt (c : Chip) (k : Nat) (tFire cross : Int) (late : Bool) (steps : Nat := 1) : Chip :=
  match findSlot c k with
  | none => c
  | some s =>
    let l := s.ev.line
    let n := c.line l
    let both := s.ev.dirPos && s.ev.dirNeg
    let vel := if l < 4 then n.state.vel cross else 0
    let up := if both then 0 ≤ vel else s.ev.dirPos
    let pos := if both then nearOccurrence (lineMod c l) s.ev.target (n.state.pos cross) else s.aim
    let held := decide (l < 4) && n.st = .holdover
    let r := act c s late held cross
    let c := r.1
    let late := late || r.2
    let next := if both then (if s.ev.rearm then some { s with above := up, inBand := true, aim := pos, st := .armed, due := none, past := false } else none)
      else nextPoint s steps
    let refire := if both then s.ev.rearm && 0 < s.fires else 0 < s.refire
    let flags := bits [late, held, refire, !up, next.isNone]
    let fires := s.fires + 1
    let told := s.ev.report || late || refire
    let c := if told then eventReport c s flags (fires % 65536) tFire (cross - tFire) pos vel else c
    let c := if s.ev.action = 5 then sendNextOpen c s.ev.param else c
    match next with
    | some x => onSlot c k (fun _ => refresh c { x with fires := fires })
    | none =>
      let c := onSlot c k (fun s => { s with fires := fires, due := none, st := .fired })
      if told || s.ev.action = 7 then c else freeSlot c k

/-- Steps to the first grid point ahead of position p (02 R57, R60). -/
def pointsTo (s : EvSlot) (p : Int) : Nat :=
  if s.ev.pitch = 0 then 1 else ((if s.ev.dirPos then p - s.aim else s.aim - p) / (s.ev.pitch.natAbs : Int)).toNat + 1

/-- A MISSED report (02 R49, R60, R63): target `x`, whether it was passed downward, whether the event is used up. -/
def missReport (c : Chip) (s : EvSlot) (x : Int) (neg last : Bool) : Chip :=
  let n := c.line s.ev.line
  eventReport c s (bits [false, n.st = .holdover, false, neg, last, true]) (s.fires % 65536) c.plant 0 x (n.state.vel c.plant)

/-- A target that was passed while it could not fire: one MISSED report and no action (02 R49, R60). -/
def missSlotEv (c : Chip) (k : Nat) (p : Int) : Chip :=
  match findSlot c k with
  | none => c
  | some s =>
    let next := nextPoint s (pointsTo s p)
    let c := missReport c s s.aim (!s.ev.dirPos) next.isNone
    match next with
    | some x => onSlot c k (fun _ => refresh c x)
    | none => endSlot c k

/-! ### Comparators (02 R52) -/

/-- Plant time of the t_pr after the present instant. -/
def tprAfter (c : Chip) : Int :=
  let t : Int := c.t0 + c.ptOff + Config.tPr
  if c.plant < t then t else t + c.period

/-- The armed event with the earliest predicted instant before the next t_pr. -/
def earliest (c : Chip) : Option (Nat × Int) :=
  (c.lt.events.filter (fun s => s.live && s.st = .armed && s.ev.line < 4)).foldl (fun b s =>
    match s.due with
    | none => b
    | some d =>
      if tprAfter c ≤ d then b else
      match b with
      | some x => if d < x.2 then some (s.slot, d) else b
      | none => some (s.slot, d)) none

/-- Comparators free are loaded in order of predicted instant; an excess event whose instant has passed fires at once with LATE. -/
def loadEvents (first : Bool) : Nat → Chip → Chip
  | 0, c => c
  | f + 1, c =>
    if 64 ≤ (c.lt.events.filter (fun s => s.st = .loaded)).length then c else
    match earliest c with
    | none => c
    | some (k, d) =>
      if d < c.plant && !first then loadEvents first f (fireAt c k c.plant d true)
      else loadEvents first f (onSlot c k (fun s => { s with st := .loaded }))

/-! ### Judging an event at t_pr -/

/-- The instant at which the line crossed a position between the states of the last two cycles; a crossing before them has no instant
the spec gives: a free value (02 R57, log 26). -/
def crossedAt (c : Chip) (l : Nat) (x : Int) : Int × Bool :=
  let n := c.line l
  let e := n.state
  let now := c.plant
  match n.hist[1]? with
  | none => (now - Config.freeNat c.free 0 % 2147483648, true)
  | some h =>
    let p0 := h.pos h.t
    let p1 := e.pos now
    if p0 ≠ p1 && ((p0 ≤ x && x ≤ p1) || (p1 ≤ x && x ≤ p0)) then (h.t + quotI 2 ((x - p0) * (now - h.t)) (p1 - p0), false)
    else (now - Config.freeNat c.free 0 % 2147483648, true)

/-- An event that t_pr finds passed fires with LATE (02 R57). -/
def fireLate (c : Chip) (k : Nat) (x : Int) (l : Nat) (steps : Nat := 1) : Chip :=
  let t := crossedAt c l x
  fireAt (if t.2 then takeFree c else c) k c.plant (min t.1 c.plant) true steps

/-- Passed in the direction of a one-direction event. -/
def crossed (s : EvSlot) (p : Int) : Bool := if s.ev.dirPos then decide (s.aim ≤ p) else decide (p ≤ s.aim)

/-- Every grid point that t_pr finds passed fires, once each. -/
def fireCrossed (k : Nat) (p : Int) : Nat → Chip → Chip
  | 0, c => c
  | f + 1, c =>
    match findSlot c k with
    | none => c
    | some s => if s.st = .fired || !crossed s p then c else fireCrossed k p f (fireLate c k s.aim s.ev.line)

/-- A retreat behind grid points that have fired (02 R58). -/
def retreat (p band : Int) : Nat → EvSlot → EvSlot
  | 0, s => s
  | f + 1, s =>
    let last := s.aim - s.ev.pitch
    if s.n = 0 || !(if s.ev.dirPos then decide (p < last - band) else decide (last + band < p)) then s
    else retreat p band f { s with n := s.n - 1, aim := last, refire := s.refire + 1 }

/-- A one-direction event whose line can be used. -/
def judgeOne (c : Chip) (s : EvSlot) (p : Int) (returned : Bool) : Chip :=
  let k := s.slot
  if returned && crossed s p then missSlotEv c k p
  else if s.past then fireLate c k s.aim s.ev.line (if crossed s p then pointsTo s p else 1)
  else if crossed s p then fireCrossed k p (pointsTo s p) c
  else if s.ev.pitch = 0 || s.n = 0 then c
  else if s.ev.rearm then onSlot c k (fun s => retreat p (bandOf c s.ev) s.n s)
  else
    let last := s.aim - s.ev.pitch
    let back := if s.ev.dirPos then decide (p < last - bandOf c s.ev) else decide (last + bandOf c s.ev < p)
    if back && !s.reversed then
      post (onSlot c k (fun s => { s with reversed := true })) 1 0x0204 s.ev.line 0xFF (le 2 k ++ zeros 2 ++ le 4 s.ev.tag)
    else c

/-- The occurrence of a target of either direction that the line has crossed on its way from `x` to `p` (02 R57, R59): the first above
`x` at or below `p`, or the first below `x` at or above `p`. -/
def crossedBoth (m : Nat) (target x p : Int) : Option Int :=
  let up := if m = 0 then target else nextAngle m target x true
  let dn := if m = 0 then target else nextAngle m target x false
  if x < up && up ≤ p then some up else if dn < x && p ≤ dn then some dn else none

/-- An event with both direction bits (02 R59). -/
def judgeBoth (c : Chip) (s : EvSlot) (p : Int) (returned : Bool) : Chip :=
  let k := s.slot
  let watch := fun (c : Chip) => onSlot c k (fun x => { x with seen := p })
  if s.inBand then
    let out := if s.above then decide (s.aim + bandOf c s.ev < p) else decide (p < s.aim - bandOf c s.ev)
    if out then onSlot c k (fun x => { x with inBand := false, seen := p }) else c
  else match crossedBoth (lineMod c s.ev.line) s.ev.target s.seen p with
    | none => watch c
    | some x =>
      if !returned then fireLate c k x s.ev.line
      else
        let c := missReport c s x (decide (p < s.seen)) (!s.ev.rearm)
        if s.ev.rearm then watch c else endSlot c k

/-- One event at t_pr: SUSPENDED, MISSED, passed, or predicted afresh (02 R46, R51, R57-R60). -/
def judgeSlot (all : Bool) (c : Chip) (k : Nat) : Chip :=
  match findSlot c k with
  | none => c
  | some s =>
    if 4 ≤ s.ev.line || s.st = .fired || c.cyc < s.since then c
    else if !(c.line s.ev.line).usable then onSlot c k (fun s => { s with st := .suspended, due := none, live := true })
    else
      let p := (c.line s.ev.line).state.pos c.plant
      let returned := s.st = .suspended
      let c := onSlot c k (fun s => { s with st := .armed, live := true })
      let c := if s.ev.dirPos && s.ev.dirNeg then judgeBoth c s p returned else judgeOne c s p returned
      let near := match s.due with | some d => decide (d < c.plant + 4 * c.period) | none => false
      if all || near || returned || s.past then onSlot c k (refresh c) else c

/-! ### Commands applied at t_pr (02 R47-R49, R61) -/

/-- LINE_PRESET (02 R49). -/
def applyPreset (b : Bytes) (c : Chip) : Chip :=
  let l := byteN b 0
  let m := lineMod c l
  let tin : Int := c.t0 + c.ptOff + Config.tIn
  let n := c.line l
  let cur := (n.state.moved tin).p
  let x := ri b 8 8
  let want : Int := if m = 0 then x else
    -- the congruent value nearest to the present position, the higher on a tie
    let r : Int := (x * 2 ^ 48 - cur) % ((m : Int) * 2 ^ 48)
    if r * 2 ≤ m * 2 ^ 48 then (cur + r) / 2 ^ 48 else (cur + r) / 2 ^ 48 - m
  let d := want * 2 ^ 48 - cur
  let dz := roundDiv d (2 ^ 48)
  let mv := fun (e : Est) => { e with p := e.p + d }
  let c := onLine c l (fun n => { n with
    est := mv n.est, holdEst := n.holdEst.map mv, z := n.z + dz, posUncertain := false,
    offset := if n.source = 2 || n.source = 4 then n.offset + dz else n.offset })
  let c := c.onPlanner (fun p => { p with presets := vmod p.presets l (· + 1) })
  let mine := c.lt.events.filter (fun s => s.ev.line = l && s.st ≠ .fired)
  let p := (c.line l).state.pos c.plant
  mine.foldl (fun c s =>
    let k := s.slot
    if mbit (byteN b 1) 0 then
      onSlot c k (fun s => refresh c { s with
        ev := { s.ev with target := if m = 0 then s.ev.target + dz else (s.ev.target + dz) % (m : Int) }, aim := s.aim + dz,
        seen := s.seen + dz })
    else if s.ev.dirPos && s.ev.dirNeg then
      onSlot c k (fun s => refresh c { s with seen := p, aim := firstAim m s.ev p })
    else if m ≠ 0 then
      onSlot c k (fun s => refresh c { s with aim := nextAngle m ((s.ev.target + s.n * s.ev.pitch) % (m : Int)) p s.ev.dirPos })
    else if !(c.line l).usable || !crossed s p then onSlot c k (refresh c)
    else if s.ev.fireIfPast then onSlot c k (fun s => { s with past := true })
    else missSlotEv c k p) c

/-- LINE_SELECT_SOURCE on a line without a usable state, or with source 0 (02 R45, R47). -/
def applySource (b : Bytes) (c : Chip) : Chip :=
  let l := byteN b 0
  if byteN b 1 = 0 then
    let c := (c.lt.events.filter (fun s => s.ev.line = l)).foldl (fun c s => endSlot c s.slot) c
    onLine c l (fun n => { n with st := .idle, source := 0, switching := none, holdEnd := none, holdEst := none, syncRun := 0 })
  else
    onLine c l (fun n =>
      let z := if n.hadEst && n.source ≠ 1 then n.est.pos n.est.t else n.z
      startLine c (namedSource b { n with z := z, switching := none, holdEnd := none, holdEst := none }))

/-- LINE_VMASTER_SET (02 R48). -/
def applyVmaster (b : Bytes) (c : Chip) : Chip :=
  onLine c (byteN b 0) (fun n => if n.source = 3 then { n with vmaster := some (ri b 8 8, ru b 16 8, ru b 24 8) } else n)

/-- A time-trigger slot becomes free; what it has done is kept for the cancels of it that are on their way (03 R90). -/
def freeTrig (c : Chip) (k : Nat) (oneShot : Bool) (fires : Nat) : Chip :=
  let waiting := c.deferP.filter (fun d => d.opcode = 0x0311 && byteN d.payload 0 = k && c.pt.freed.all (fun f => f.1 ≠ d.ring || f.2.1 ≠ d.seq))
  c.onPt (fun p => { p with
    trigs := p.trigs.filter (fun x => x.slot ≠ k),
    freed := p.freed ++ waiting.map (fun d => (d.ring, d.seq, fires, oneShot)) })

/-- A deferred command at t_pr. -/
def applyAtTpr (c : Chip) (d : Deferred) : Chip :=
  let k := ru d.payload 0 2
  match d.opcode with
  | 0x0202 => applyPreset d.payload c
  | 0x0203 => applySource d.payload c
  | 0x0204 => applyVmaster d.payload c
  | 0x0210 =>
    -- an arm for a slot whose one-shot report is not written yet waits for the next t_pr
    if (findSlot c k).isSome then { c with deferP := c.deferP ++ [{ d with due := c.cyc + 1 }] }
    else
      let v := parseEv d.payload
      c.onLt (fun t => { t with events := putSlot { newSlot c k v with past := behind c v, since := c.cyc } t.events })
  | 0x0211 =>
    (match c.lt.freed.find? (fun f => f.1 = d.ring && f.2.1 = d.seq) with
     | some f =>
       complete (c.onLt (fun t => { t with freed := t.freed.filter (· ≠ f) })) 0x0211 (if f.2.2.2 then .refusedState else .ok) d.ring d.seq
         (f.2.2.1 % 65536)
     | none =>
       match findSlot c k with
       | some s =>
         if s.st = .fired && s.ev.pitch = 0 then complete c 0x0211 .refusedState d.ring d.seq (s.fires % 65536)
         else complete (endSlot { c with deferP := c.deferP.filter (· ≠ d) } k) 0x0211 .ok d.ring d.seq (s.fires % 65536)
       | none => complete c 0x0211 .ok d.ring d.seq 0)
  | 0x0311 =>
    let k := byteN d.payload 0
    (match c.pt.freed.find? (fun f => f.1 = d.ring && f.2.1 = d.seq) with
     | some f =>
       complete (c.onPt (fun p => { p with freed := p.freed.filter (· ≠ f) })) 0x0311 (if f.2.2.2 then .refusedState else .ok) d.ring d.seq
         (f.2.2.1 % 65536)
     | none =>
       match findTrig c k with
       | some t => complete (freeTrig (dropTrigger c (1024 + k)) k false t.fires) 0x0311 .ok d.ring d.seq (t.fires % 65536)
       | none => complete c 0x0311 .ok d.ring d.seq 0)
  | _ => c

/-! ### A bumpless change of source (02 R47) -/

/-- The new source under comparison has a source fault (02 R47, R69). -/
def newFault (c : Chip) (l : Nat) (w : Switch) : Bool :=
  let n := c.line l
  match w.source with
  | 1 | 2 => (vget c.lt.enc w.input).faulty
  | 4 => !remoteLocked c || (w.remote.isSome && (n.rxState = 3 || n.rxState = 4 || decide (n.rxAt + 3 * 2 ^ (c.lcfg l).pubE * c.period < c.now)))
  | _ => false

/-- An SSI source under comparison takes its first frame of the comparison as the base of its velocity. -/
def basedSwitch (c : Chip) (w : Switch) : Switch :=
  match w.source, w.base, (vget c.lt.enc w.input).ssi with
  | 2, none, some (v, t) => if w.t0 ≤ t then { w with base := some (v, t) } else w
  | _, _, _ => w

/-- The velocity of the new source under comparison in line units; none while it has given no measurement to form one. -/
def newVelocity (c : Chip) (l : Nat) (w : Switch) : Option Int :=
  let e := vget c.lt.enc w.input
  match w.source, w.base, e.ssi, w.remote with
  | 1, some (z, t), _, _ => some (Config.newSourceVel [z, t, e.count, e.lastEdge.getD c.plant, w.num, w.den])
  | 2, some (z, t), some (v, t'), _ => if t < t' then some (Config.newSourceVel [z, t, v, t', w.num, w.den]) else none
  | 4, _, _, some (_, _, v, _) => some (quot 2 (v * w.num) w.den)
  | 3, _, _, _ => some (c.line l).state.v
  | _, _, _, _ => none

/-- The new source has given what the line needs to join it. -/
def joinable (c : Chip) (w : Switch) : Bool :=
  match w.source with
  | 2 => (vget c.lt.enc w.input).ssi.isSome
  | 4 => w.remote.isSome
  | _ => true

/-- The line takes its new source with position, velocity and acceleration continuous. -/
def takeSource (c : Chip) (l : Nat) (w : Switch) : Chip :=
  let c := onLine c l (fun n =>
    let e := n.state
    let n : Line := { n with source := w.source, input := w.input, num := w.num, den := w.den, carry := 0, switching := none, est := e, vmaster := none, remote := none }
    let join : Int → Int → Line := fun raw t =>
      let z := e.pos t
      { n with z := z, zAt := t, rawSeen := raw, offset := z - quot 2 (raw * w.num) w.den }
    let n : Line := match w.source with
      | 1 => { join (vget c.lt.enc w.input).count c.plant with offset := 0 }
      | 2 => match (vget c.lt.enc w.input).ssi with | some (v, t) => join v t | none => n
      | 4 => match w.remote with
        | some (t, p, v, a) => { join p t with
            remote := some (e.pos t * 2 ^ 48, quot 2 (v * w.num) w.den, quot 2 (a * w.num) w.den) }
        | none => n
      | _ => { n with est := { e with a := 0 }, z := e.pos c.plant, zAt := c.plant }
    if n.st = .holdover then { n with holdEst := some n.est } else n)
  complete c 0x0203 .ok w.ring w.seq

/-- One cycle of the comparison (02 R47): eight are judged, and at the next t_pr the line switches. A source that has given nothing to
join by then is refused (log 66). -/
def switchTurn (c : Chip) (l : Nat) : Chip :=
  let n := c.line l
  match n.switching with
  | none => c
  | some w =>
    let w := basedSwitch c w
    let v := n.state.v
    let g := c.lcfg l
    let differs := match newVelocity c l w with
      | some x => decide (v.natAbs * g.switchTol < (x - v).natAbs * 1000)
      | none => false
    let bad := !n.usable || (if w.left = 0 then !joinable c w else newFault c l w || differs)
    if bad then complete (onLine c l (fun n => { n with switching := none })) 0x0203 .refusedState w.ring w.seq
    else if w.left = 0 then takeSource c l w
    else onLine c l (fun n => { n with switching := some { w with left := w.left - 1 } })

/-! ### Time triggers (03 R89-R91) -/

/-- The instant of the point awaited. -/
def Trig.point (t : Trig) : Int := t.target + t.n * t.period

/-- A time-trigger report (03 R91). -/
def trigReport (c : Chip) (t : Trig) (flags : Nat) (fires : Nat) (at' : Int) : Chip :=
  let time := if c.pt.wide1 then wide at' else le 4 (short at') ++ zeros 6
  let body := le 1 t.slot ++ le 1 t.action ++ le 1 (flags + 4 * b2n c.pt.wide1) ++ zeros 1 ++ le 4 fires ++ time ++ le 4 t.tag ++ zeros 2
  enqueue c { ring := vget c.cfg.sys.evRing 7, opcode := 0x0380, cls := 3, len := 24, payload := body }

/-- A trigger fires, and its grid continues at the first point ahead of `ahead'` (03 R90). -/
def trigFire (c : Chip) (k : Nat) (at' : Int) (late : Bool) (ahead' : Int) : Chip :=
  match findTrig c k with
  | none => c
  | some t =>
    let r := match t.action with
      | 2 => (setGates c t.param true, false)
      | 3 => (setGates c t.param false, false)
      | 6 => fireTrigger c t.param (1024 + k) t.point
      | _ => (c, false)
    let late := late || r.2
    let step := if t.period = 0 then 1 else if ahead' < t.point then 1 else ((ahead' - t.point) / t.period).toNat + 1
    let last := t.period = 0 || (t.count ≠ 0 && t.count ≤ t.n + step)
    let fires := t.fires + 1
    let c := if t.report || late then trigReport r.1 t (b2n late + 2 * b2n last) fires at' else r.1
    if last then freeTrig c k (t.period = 0) fires
    else onTrig c k (fun t => { t with n := t.n + step, fires := fires, loaded := false, past := false })

/-- The trigger with the earliest point before the next t_pr that has no comparator. -/
def earliestTrig (c : Chip) : Option (Nat × Int) :=
  (c.pt.trigs.filter (fun t => !t.loaded && t.since ≤ c.cyc && t.point < tprAfter c)).foldl (fun b t =>
    match b with
    | some x => if t.point < x.2 then some (t.slot, t.point) else b
    | none => some (t.slot, t.point)) none

/-- Sixteen comparators are loaded in order of target; an excess trigger whose target has passed fires at once with LATE. -/
def loadTrigs : Nat → Chip → Chip
  | 0, c => c
  | f + 1, c =>
    if 16 ≤ (c.pt.trigs.filter (·.loaded)).length then c else
    match earliestTrig c with
    | none => c
    | some (k, d) =>
      if d < c.plant then loadTrigs f (trigFire c k c.plant true d) else loadTrigs f (onTrig c k (fun t => { t with loaded := true }))

/-- A loaded comparator reaches its value `d`: of an event slot, or of a time trigger, 1 024 plus its slot (02 R52, 03 R90). -/
def fireLoaded (c : Chip) (d : Int) (r : Nat) : Chip :=
  let c := c.atTime (c.localAt d)
  if r < 1024 then loadEvents false 1024 (fireAt c r d d false) else loadTrigs 32 (trigFire c (r - 1024) d false d)

/-- The values of the loaded comparators, with the order in which they act at one nanosecond: events by slot, then triggers by slot (02
R61, 03 R90). -/
def comparators (c : Chip) : List (Int × Nat) :=
  c.lt.events.filterMap (fun s => if s.st = .loaded then s.due.map (fun d => (d, s.slot)) else none)
    ++ (c.pt.trigs.filter (·.loaded)).map (fun t => (t.point, 1024 + t.slot))

/-- What acts before the place `r` of the nanosecond `t` has acted (02 R61, 03 R90). -/
def actionsBefore (t : Int) (r : Nat) : Nat → Chip → Chip
  | 0, c => c
  | f + 1, c =>
    let before := fun (x y : Int × Nat) => decide (x.1 < y.1 ∨ (x.1 = y.1 ∧ x.2 < y.2))
    match (comparators c).foldl (fun b x => if before x (b.getD (t, r)) then some x else b) none with
    | some x => actionsBefore t r f (fireLoaded c x.1 x.2)
    | none => c

/-- A loaded comparator reaches its value (02 R52), after all that acts before it (R61). -/
def fireOp (k : Nat) (c : Chip) : Chip :=
  match (comparators c).find? (fun x => x.2 = k) with
  | none => c
  | some x => fireLoaded (actionsBefore x.1 k 2048 c) x.1 k

def execEventFire (slot : Fin 1024) : State → Host.Outcome State Fault Refusal := run (fireOp slot)

/-- A loaded time trigger reaches its target (03 R90). -/
def trigFireOp (k : Nat) (c : Chip) : Chip := fireOp (1024 + k) c

def execTimeTriggerFire (slot : Fin 32) : State → Host.Outcome State Fault Refusal := run (trigFireOp slot)

/-- The time triggers at t_pr: what has been passed fires once with LATE, the rest is loaded (03 R90). A periodic trigger armed with
FIRE_IF_PAST and several points past fires once and goes on at the first point ahead, as after a forward step (log 67). -/
def trigsTurn (c : Chip) : Chip :=
  let c := c.onPt (fun p => { p with trigs := p.trigs.map (fun t => { t with loaded := false }) })
  let c := (c.pt.trigs.map (·.slot)).foldl (fun c k =>
    match findTrig c k with
    | none => c
    | some t => if t.since ≤ c.cyc && (t.past || t.point < c.plant) then trigFire c k c.plant true c.plant else c) c
  let c := loadTrigs 32 c
  (c.pt.trigs.filter (fun t => t.action = 6 && t.since ≤ c.cyc)).foldl (fun c t => aimTrigger c t.param (1024 + t.slot) t.point false) c

/-! ### t_pr -/

/-- The prediction instant of a cycle (02 R45, R51; 03 R90): the estimators and line states, the commands validated since the last
one in ring order, the changes of source, the events in ascending slot order, the comparators, the snapshot of R43. -/
def predictionTurn (c : Chip) : Chip :=
  let c := c.atOff Config.tPr
  let c := (List.range 4).foldl (fun c l => if lineEnabled c l then updateLine c l else c) c
  let now := (c.deferP.filter (fun d => d.due ≤ c.cyc)).insertionSort (fun a b => a.ring ≤ b.ring)
  let c := { c with deferP := c.deferP.filter (fun d => c.cyc < d.due) }
  let c := now.foldl applyAtTpr c
  let c := (List.range 4).foldl switchTurn c
  let c := c.onLt (fun t => { t with enc := vmapIdx t.enc (fun _ e => { e with faultSeen := false }) })
  let all := c.lt.stepped || c.cyc % Config.tickCycles c.cfg.sys.period = 0
  let c := (c.lt.events.map (·.slot)).foldl (judgeSlot all) (c.onLt (fun t => { t with stepped := false }))
  let c := loadEvents true 1024 c
  let c := (c.lt.events.filter (fun s => s.ev.action = 6 && s.st ≠ .fired)).foldl (fun c s =>
    match s.due with | some d => aimTrigger c s.ev.param s.slot d false | none => dropTrigger c s.slot) c
  let c := trigsTurn c
  c.onLt (fun t => { t with snaps := (Vector.ofFn (fun (i : Fin 4) => (vget t.line i.val).state) :: t.snaps).take 4 })

def execPredictionInstant : State → Host.Outcome State Fault Refusal := run predictionTurn

/-! ### Latch inputs (02 R64-R66) -/

/-- An accepted edge at local instant `t`: counted where the latch is set for it and its gate allows it, after every action of that
nanosecond (03 R90). -/
def latchOp (i : Nat) (rising : Bool) (t : Nat) (c : Chip) : Chip :=
  let c := (actionsBefore (c.plantAt t) 2048 2048 c).atTime t
  let h := vget c.lt.latch i
  if !mbit h.edge (if rising then 0 else 1) || (h.gated && !h.gate) then c else
  let at' : Int := c.plantAt t
  let n := c.line h.line
  let runs := lineEnabled c h.line && n.st ≠ .idle
  let c := profEdge c i rising at'
  c.onLt (fun l => { l with latch := vmod l.latch i (fun h =>
    if 16 ≤ h.buf.length then { h with ovf := true }
    else
      let r : LatchRec := {
        flags := bits [rising, h.ovf, h.gate, !(runs && n.usable)], seq := h.seq, line := h.line, t := at',
        pos := if runs then reported c h.line (n.state.pos at') else 0, vel := if runs then n.state.vel at' else 0 }
      { h with buf := h.buf ++ [r], seq := (h.seq + 1) % 65536, ovf := false }) })

def execLatchEdge (latch : Fin 16) (rising : Bool) (t : Nat) : State → Host.Outcome State Fault Refusal :=
  run (latchOp latch rising t)

/-- A latch record (02 R66). -/
def latchBytes (i : Nat) (r : LatchRec) : Bytes :=
  le 1 i ++ le 1 r.flags ++ le 2 r.seq ++ le 1 r.line ++ zeros 3 ++ wide r.t ++ leI 8 r.pos ++ leI 8 r.vel ++ zeros 6

/-- The oldest record of an input leaves for the ring of the line time as space permits (16 R463). -/
def latchWriteOp (i : Nat) (c : Chip) : Chip :=
  let ring := vget c.cfg.sys.evRing 1
  match (vget c.lt.latch i).buf with
  | [] => c
  | r :: rest =>
    if !ringRoom c ring 1 then c else
    ringWrite (c.onLt (fun l => { l with latch := vmod l.latch i (fun h => { h with buf := rest }) }))
      { ring := ring, opcode := 0x0281, cls := 3, payload := latchBytes i r, len := 40 }

def execLatchRecordWrite (latch : Fin 16) : State → Host.Outcome State Fault Refusal := run (latchWriteOp latch)

end Sys2Proof.Machine
end

