-- ==== Sys2Proof/Machine/SafeIo.lean ====
section
/-!
DEFINITION. Safe inputs and outputs (chapter 11): the two channels' logic cycles, input pairs, operator resets, output pairs, dark
pulses, cross-comparison, the safety configuration's confirmation, and the commands; and the safety PDUs of R350 by connection.
-/

namespace Sys2Proof.Machine

open Sys2Proof

def Chip.chan (c : Chip) (ch : Nat) : SioChan := vget c.sio.chan ch
def onChan (c : Chip) (ch : Nat) (f : SioChan → SioChan) : Chip := c.onSio (fun s => { s with chan := vmod s.chan ch f })
def Chip.inPair (c : Chip) (ch p : Nat) : InPair := vget (c.chan ch).inp p
def onIn (c : Chip) (ch p : Nat) (f : InPair → InPair) : Chip := onChan c ch (fun x => { x with inp := vmod x.inp p f })
def Chip.outPair (c : Chip) (ch o : Nat) : OutPair := vget (c.chan ch).out o
def onOut (c : Chip) (ch o : Nat) (f : OutPair → OutPair) : Chip := onChan c ch (fun x => { x with out := vmod x.out o f })

/-- Pair records in force; on the defaults of R356 every pair is UNUSED. -/
def icfg (c : Chip) (p : Nat) : InPairCfg := if c.active && !c.sys.safetyDefaults then vget c.cfg.sio.inp p else {}
def pcfg (c : Chip) (o : Nat) : OutPairCfg := if c.active && !c.sys.safetyDefaults then vget c.cfg.sio.out o else {}

/-- The channel runs: A outside RESET of the control die (11 R335), B while the safety die runs its firmware (18 R500). -/
def chanRuns (c : Chip) (ch : Nat) : Bool :=
  if ch = 0 then c.sys.dev ≠ .off && c.sys.dev ≠ .reset else c.pow.safeRun

/-- Events about inputs, outputs and faults (11 R359). -/
def postInput (c : Chip) (p : Nat) (new old : InSt) : Chip := post c 5 0x0A01 p 0xFF (le 1 new.code ++ le 1 old.code)
def postOutput (c : Chip) (o : Nat) (new old : OutSt) (st : Status) : Chip :=
  post c 5 0x0A02 o 0xFF (le 1 new.code ++ le 1 old.code ++ le 1 st.code)
def postSioFault (c : Chip) (ix cause term : Nat) : Chip := post c 5 0x0A03 ix 0xFF (le 1 cause ++ le 1 0 ++ le 1 term)
def postReset (c : Chip) (p reason dur : Nat) : Chip := post c 5 0x0A04 p 0xFF (le 1 reason ++ zeros 3 ++ le 4 (dur / 1000000))

/-! ### Inputs -/

/-- What each filtered contact of a pair indicates: release (11 R334); without VFIELD, demand (18 R494). -/
def contacts (c : Chip) (ch p : Nat) : Bool × Bool :=
  let a := mbit (c.chan ch).si (2 * p)
  let b := mbit (c.chan ch).si (2 * p + 1)
  if !c.sio.field then (false, false) else if (icfg c p).mode = 2 then (a, !b) else (a, b)

/-- The contacts of a pair have changed: disagreement, and a RESET pair's press and release (11 R335, R343). -/
def contactsMoved (c : Chip) (ch p : Nat) : Chip :=
  let now := c.now
  let (a, b) := contacts c ch p
  let c := onIn c ch p (fun x => { x with disagree := if a = b then none else some (x.disagree.getD now) })
  if (icfg c p).mode ≠ 3 then c
  else if a && b then onIn c ch p (fun x => { x with pressed := if x.stuck then none else some (x.pressed.getD now) })
  else if !a && !b then
    onIn c ch p (fun x =>
      if x.stuck then { x with stuck := false, pressed := none, cause := 0 }
      else match x.pressed with
        | some t => { x with pressed := none, ended := some (t, now) }
        | none => x)
  else c

/-- A sampled level has held for t_f and is accepted (11 R333). -/
def inputOp (ch term : Nat) (level : Bool) (c : Chip) : Chip :=
  if !chanRuns c ch || !c.sio.field then c
  else if term < 32 then contactsMoved (onChan c ch (fun x => { x with si := mput x.si term level })) ch (term / 2)
  else onChan c ch (fun x => { x with edm := mput x.edm (term - 32) level })

def execSafeInputChange (chan : Fin 2) (term : Fin 40) (level : Bool) : State → Host.Outcome State Fault Refusal :=
  run (inputOp chan term level)

/-- A cause is latched in one channel; SIO_FAULT is posted by the channel that latches it first (11 R335, R336). -/
def latchIn (c : Chip) (ch p cause term : Nat) : Chip :=
  let first := (c.inPair (1 - ch) p).cause ≠ cause
  let c := onIn c ch p (fun x => { x with cause := cause })
  if !first then c else
  let c := if cause = 1 then c.onSio (fun s => { s with disc := vmod s.disc p inc }) else c
  postSioFault c p cause term

/-- The press of a RESET pair is stuck in a channel (11 R343). -/
def stuckIn (c : Chip) (ch p dur : Nat) : Chip :=
  let first := (c.inPair (1 - ch) p).cause ≠ 3
  let c := latchIn (onIn c ch p (fun x => { x with stuck := true, pressed := none, ended := none, acc := none })) ch p 3 0xFF
  if first then postReset c p 2 dur else c

/-- The contacts disagree longer than t_disc (11 R335, R343). -/
def discrepancyOp (ch p : Nat) (c : Chip) : Chip :=
  let g := icfg c p
  let x := c.inPair ch p
  match x.disagree with
  | none => c
  | some t =>
    let due := t + g.tDisc * 1000000
    if g.mode = 3 then
      if x.stuck then c else
      let c := c.atTime due
      stuckIn c ch p (match x.pressed with | some s => c.now - s | none => c.now - t)
    else if (g.mode = 1 || g.mode = 2) && (x.st = .demand || x.st = .released) then
      latchIn (onIn (c.atTime due) ch p (fun x => { x with st := .discrepancy })) ch p 1 0xFF
    else c

def execInputPairDiscrepancy (chan : Fin 2) (pair : Fin 16) : State → Host.Outcome State Fault Refusal :=
  run (discrepancyOp chan pair)

/-- An input that names a pulse source stays high through a complete pulse of it (11 R336). -/
def pulseMissingOp (ch term : Nat) (c : Chip) : Chip :=
  let p := term / 2
  let g := icfg c p
  let src := if term % 2 = 0 then g.src0 else g.src1
  if (g.mode = 1 || g.mode = 2) && src < 16 && mbit (c.chan ch).si term && (c.inPair ch p).st ≠ .faulted then
    latchIn (onIn c ch p (fun x => { x with st := .faulted })) ch p 2 term
  else c

def execPulseMissing (chan : Fin 2) (term : Fin 32) : State → Host.Outcome State Fault Refusal := run (pulseMissingOp chan term)

/-- A press of 5 s (11 R343). -/
def resetStuckOp (p : Nat) (c : Chip) : Chip :=
  if (icfg c p).mode ≠ 3 then c else
  let due := (List.range 2).filterMap (fun ch => (c.inPair ch p).pressed.map (· + 5000000000))
  match due with
  | [] => c
  | d :: l =>
    let c := c.atTime (l.foldl min d)
    (List.range 2).foldl (fun c ch => match (c.inPair ch p).pressed with
      | some t => if t + 5000000000 ≤ c.now then stuckIn c ch p (c.now - t) else c
      | none => c) c

def execResetStuck (pair : Fin 16) : State → Host.Outcome State Fault Refusal := run (resetStuckOp pair)

/-- One channel judges the release of a RESET pair (11 R343). -/
def judgeRelease' (c : Chip) (ch p : Nat) : Chip :=
  match (c.inPair ch p).ended with
  | none => c
  | some (s, e) =>
    let c := onIn c ch p (fun x => { x with ended := none })
    if e - s < 50000000 then (if ch = 0 then postReset c p 1 (e - s) else c)
    else if 5000000000 ≤ e - s then (if ch = 0 then postReset c p 2 (e - s) else c)
    else onChan (onIn c ch p (fun x => { x with acc := some (s, e) })) ch (fun x => { x with accBits := mput x.accBits p true })

/-- Release of a RESET pair: accepted when both channels accept it within 1 ms (11 R343, R344). -/
def operatorResetOp (p : Nat) (c : Chip) : Chip :=
  if (icfg c p).mode ≠ 3 then c else
  let c := (List.range 2).foldl (fun c ch => judgeRelease' c ch p) c
  match (c.inPair 0 p).acc, (c.inPair 1 p).acc with
  | some (sa, ea), some (sb, eb) =>
    if ea ≤ eb + 1000000 && eb ≤ ea + 1000000 then
      let c := (List.range 2).foldl (fun c ch => onIn c ch p (fun x => { x with acc := none })) c
      postReset (c.onSio (fun s => { s with
        resets := vmod s.resets p inc, resetsDue := s.resetsDue ++ [(p, min sa sb)] })) p 0 (ea - sa)
    else onIn c (if ea < eb then 0 else 1) p (fun x => { x with acc := none })
  | _, _ => c

def execOperatorReset (pair : Fin 16) : State → Host.Outcome State Fault Refusal := run (operatorResetOp pair)

/-- An EQUIVALENT or ANTIVALENT pair in a logic cycle (11 R335). -/
def inTurn (ch : Nat) (c : Chip) (p : Nat) : Chip :=
  let g := icfg c p
  let x := c.inPair ch p
  let c := onIn c ch p (fun x => { x with clear := false })
  if !(g.mode = 1 || g.mode = 2) then c else
  let (a, b) := contacts c ch p
  let idle := !a && !b
  let st := match x.st with
    | .untested => if idle then InSt.demand else .untested
    | .demand => if a && b then .released else .demand
    | .released => if a && b then .released else .demand
    | .discrepancy => if idle then .demand else .discrepancy
    | .faulted => if x.clear && idle then .demand else .faulted
  if st = x.st then c else
  let c := onIn c ch p (fun y => { y with st := st, cause := if x.st = .discrepancy || x.st = .faulted then 0 else y.cause })
  if ch = 0 && (x.st = .demand || x.st = .released) then postInput c p st x.st else c

/-! ### Output pairs -/

/-- EDM reads closed; a pair without an EDM input skips the condition (11 R341). -/
def edmClosed (c : Chip) (ch o : Nat) : Bool :=
  let e := (pcfg c o).edm
  e = 0xFF || (c.sio.field && mbit (c.chan ch).edm e)

/-- Every node that carries an axis of an arm of the mask reports SOS_OK or STO (11 R342). -/
def armsStopped (c : Chip) (mask : Nat) : Bool :=
  (List.range 12).all (fun a => !mbit mask a || (sepNodes c a).all (fun k => match (vget c.sep.node k).hist with
    | d :: _ => mbit d.status 2 || mbit d.status 3
    | [] => false))

/-- The delay of R342 still runs, counted from `since`. -/
def delayRuns (c : Chip) (o since : Nat) : Bool :=
  let g := pcfg c o
  g.cat1 && decide (c.now < since + g.tCat1 * 1000000) && !armsStopped c g.arms

/-- A remote bit is released (11 R352, R353, R355): bits of the first cell-link connection, only while it is OPEN. -/
def remoteReleased (c : Chip) (b : Nat) : Bool :=
  match firstLinkConn c with
  | some i => (c.conn i).st = .opened && mbit (ru (c.conn i).data 0 2) b
  | none => false

/-- R338 without its last item, as a channel sees it; `on` tells whether the pair is ON (the delays of R342 apply to it). -/
def outCond (c : Chip) (ch o : Nat) (on : Bool) : Bool :=
  let g := pcfg c o
  let d := c.sys.dev
  let dev := d = .commissioning || d = .ready || d = .automatic || d = .degraded
    || (d = .faultHalt && on && (match c.sio.haltAt with | some t => delayRuns c o t | none => false))
  let arms := !g.sc0Off || (List.range 12).all (fun a =>
    !mbit g.arms a || (c.sepCfg a).isNone || (c.sepA a).e ≠ 0 || (on && delayRuns c o (c.sepA a).sc0At))
  vget c.sio.req o && (List.range 16).all (fun p => !mbit g.release p || (c.inPair ch p).st = .released)
    && (List.range 16).all (fun b => !mbit g.release (16 + b) || remoteReleased c b)
    && dev && arms && (holdsToken c || (on && mbit c.pair.keep o))

/-- A pair enters a state in a channel; channel A's change is reported (11 R359). -/
def goOut (c : Chip) (ch o : Nat) (st : OutSt) (status : Status := .ok) : Chip :=
  let old := (c.outPair ch o).st
  let now := c.now
  let c := onOut c ch o (fun x => { x with st := st, since := now, edmAt := none, edmOpen := none, takeover := false })
  if ch = 0 then postOutput c o st old status else c

/-- The demand of a pair has changed (11 R340): a pulse that runs on it is discarded when it goes off. -/
def demandMoved (c : Chip) (o : Nat) (off : Bool) : Chip :=
  let now := c.now
  c.onSio (fun s => { s with
    demandAt := vset s.demandAt o now,
    pulse := s.pulse.map (fun p => if off && p.output / 2 = o then { p with discard := true } else p) })

/-- A channel switches a pair on or off (11 R331). -/
def switchOut (c : Chip) (ch o : Nat) (on : Bool) : Chip :=
  let c := demandMoved (onOut c ch o (fun x => { x with sw := Vector.replicate 2 on })) o (!on)
  if on then c.onSio (fun s => { s with
    test := vmapIdx s.test (fun i t => if i / 2 = o then { t with since := c.now, last := none } else t) }) else c

/-- A latched ON request of a pair ends (11 R341). -/
def dropRequest (c : Chip) (o : Nat) : Chip :=
  if (vget c.sio.latched o).isNone then c else
  let st := (c.outPair 0 o).st
  postOutput (c.onSio (fun s => { s with latched := vset s.latched o none })) o st st .refusedState

/-- A pair faults in a channel: its outputs switched off there, the cause latched (11 R341). -/
def faultOut (c : Chip) (ch o cause term : Nat) (st : OutSt) : Chip :=
  let first := (c.outPair (1 - ch) o).cause ≠ cause
  let c := switchOut c ch o false
  let c := goOut (onOut c ch o (fun x => { x with cause := cause })) ch o st
  let c := if ch = 0 then dropRequest c o else c
  if first then postSioFault c o cause term else c

/-- An external condition faults a pair in both channels (11 R341). -/
def faultBoth (c : Chip) (out cause : Nat) : Chip :=
  let o := out / 2
  let now := c.now
  let c := c.onSio (fun s => { s with found := vset s.found out (some (now, cause)) })
  (List.range 2).foldl (fun c ch => if (c.outPair ch o).st = .fault && (c.outPair ch o).cause = cause then c
    else faultOut c ch o cause out .fault) c

/-- The external condition of an output was found within the last 1 ms (11 R340, 18 R503). -/
def foundNow (c : Chip) (out : Nat) : Option Nat :=
  (vget c.sio.found out).bind (fun x => if c.now ≤ x.1 + 1000000 then some x.2 else none)

/-- The cause of an output pair's fault has gone (11 R341, R362). -/
def outCauseGone (c : Chip) (o : Nat) : Bool :=
  (foundNow c (2 * o)).isNone && (foundNow c (2 * o + 1)).isNone
    && ((c.outPair 0 o).cause ≤ 7 || (c.outPair 0 o).cause = 10 || edmClosed c 0 o)

/-- A channel's demand switches a pair off: the shut-down sequence begins, and with it the off-time of a pair that has no EDM input
to wait for (11 R341, 01 R31). -/
def offOut (c : Chip) (ch o : Nat) : Chip :=
  let c := goOut (switchOut c ch o false) ch o .offSeq
  if (pcfg c o).edm = 0xFF then onOut c ch o (fun y => { y with edmAt := some y.since }) else c

/-- A unit without the token leaves an output pair's EDM contact to the partner while the partner's mirrored state of the pair is ON
(13 R395): the pair is held OFF. -/
def partnerOn (c : Chip) (o : Nat) : Bool := !holdsToken c && c.pair.pOut.getD o 0 = 2

/-- A PAIR output pair in a logic cycle (11 R341). A channel that is `shut` (11 R342, R347, 18 R494, R500) holds its switches open
and goes on with the sequences. -/
def pairTurn (shut : Bool) (c : Chip) (ch o : Nat) : Chip :=
  let g := pcfg c o
  let x := c.outPair ch o
  let now := c.now
  let edm := edmClosed c ch o
  let c := onOut c ch o (fun y => { y with
    reset := false,
    takeover := false,
    edmOpen := if (y.st = .off || y.st = .armed) && !edm && !partnerOn c o then some (y.edmOpen.getD now) else none })
  match x.st with
  | .off =>
    if shut then c
    else if x.takeover then (if outCond c ch o false then goOut (switchOut c ch o true) ch o .on else c)
    else if (vget c.sio.latched o).isSome || !edm || !outCond c ch o false then c
    else if g.manual then goOut c ch o .armed
    else goOut (switchOut c ch o true) ch o .on
  | .armed =>
    if !outCond c ch o false then
      goOut (c.onSio (fun s => { s with req := vset s.req o false })) ch o .off .refusedState
    else if x.reset && edm && !shut then goOut (switchOut c ch o true) ch o .on
    else c
  | .on => if !shut && outCond c ch o true then c else offOut c ch o
  | .offSeq =>
    if partnerOn c o then goOut c ch o .off else
    match x.edmAt with
    | none =>
      if !edm then c else
      let c := onOut c ch o (fun y => { y with edmAt := some now })
      if ch = 0 then c.onSio (fun s => { s with edmClose := vset s.edmClose o (min ((now - x.since) / 1000) Config.cMax) }) else c
    | some t => if edm && t + g.offMs * 1000000 ≤ now then goOut c ch o .off else c
  | .inhibited | .fault =>
    if x.reset && edm && outCauseGone c o then goOut (onOut c ch o (fun y => { y with cause := 0 })) ch o .off else c

/-- A SOURCE output pair in a logic cycle (11 R337). -/
def sourceTurn (shut : Bool) (c : Chip) (ch o : Nat) : Chip :=
  let x := c.outPair ch o
  let c := onOut c ch o (fun y => { y with reset := false })
  match x.st with
  | .fault => if x.reset && outCauseGone c o then goOut (onOut c ch o (fun y => { y with cause := 0 })) ch o .off else c
  | .on => if shut then goOut (switchOut c ch o false) ch o .off else c
  | _ => if shut then c else goOut (switchOut c ch o true) ch o .on

def outTurn (shut : Bool) (ch : Nat) (c : Chip) (o : Nat) : Chip :=
  match (pcfg c o).mode with
  | 1 => pairTurn shut c ch o
  | 2 => sourceTurn shut c ch o
  | _ => if (c.outPair ch o).sw = Vector.replicate 2 false then c else switchOut c ch o false

/-! ### Cross-comparison -/

/-- Both switches of an output are closed: it is on (11 R331). -/
def outIsOn (c : Chip) (out : Nat) : Bool :=
  (List.range 2).all (fun ch => vget (c.outPair ch (out / 2)).sw (out % 2))

/-- The read-back of a terminal (11 R331): on, or held high from outside as last found. -/
def readBack (c : Chip) (out : Nat) : Bool := outIsOn c out || foundNow c out = some 4 || foundNow c out = some 5

/-- The host request word: output requests in its first byte, then the last clear-fault request and the low 16 bits of the cycle
count of the last validation (11 R346; the split of the first two bytes is log 29). -/
def requestWord (c : Chip) : Nat := maskOf 8 (vget c.sio.req) + c.sio.request * 2 ^ 8

/-- A host request is validated (11 R332, R346): `clear` is the byte of the clear-fault request. -/
def noteRequest (clear : Nat) (c : Chip) : Chip :=
  let tag := clear % 256 + c.count % 65536 * 2 ^ 8
  c.onSio (fun s => { s with request := tag })

/-- The 18 data bytes of a channel's PDU as one number (11 R346). -/
def crossWord (c : Chip) (ch : Nat) : Nat :=
  let x := c.chan ch
  x.si + x.edm * 2 ^ 32 + x.accBits % 256 * 2 ^ 40 + maskOf 16 (fun p => (c.inPair ch p).st = .released) * 2 ^ 48
    + maskOf 8 (fun o => (c.outPair ch o).st = .on) * 2 ^ 64 + maskOf 16 (readBack c) * 2 ^ 72
    + (b2n (c.sys.dev = .faultHalt) + 2 * b2n x.fault) * 2 ^ 88 + requestWord c * 2 ^ 96 + x.accBits / 256 * 2 ^ 128

/-- The bits of two PDUs that are compared: bytes 0-10 and the host request word, and how long a difference may persist (11 R347). -/
def comparedBits : List Nat := List.range 88 ++ (List.range 32).map (· + 96)
def crossLimit (tf b : Nat) : Nat := if b < 88 then tf + 500000 else 500000

/-- The largest filter time in use, ns (11 R347). -/
def tfMax (c : Chip) : Nat :=
  (List.range 16).foldl (fun n p => if (icfg c p).mode = 0 then n else max n ((icfg c p).tF * 10000)) 0

/-- The table entries that show a channel's consumer of the cross-comparison connection. -/
def showCross (c : Chip) (ch : Nat) (got : Bool) : Chip :=
  let st := (c.chan ch).conn
  c.onSio (fun s => { s with
    conn := s.conn.map (fun x => if idKind x.id = 4 && idDir x.id = 1 - ch then
      { x with st := st, cnt := if got then vmod x.cnt 0 inc else x.cnt } else x) })

/-- A channel sends its PDU and takes the other's latest (11 R346, R347, R351, R352). -/
def compareTurn (c : Chip) (ch : Nat) : Chip :=
  let now := c.now
  let word := crossWord c ch
  let o := c.chan (1 - ch)
  let c := onChan c ch (fun x =>
    let got := o.count ≠ x.seen
    { x with
      word := word, accBits := 0, count := (x.count + 1) % 4294967296, seen := o.count,
      silent := if got then 0 else x.silent + 1,
      good := if !got then 0 else if x.conn = .sync then x.good + 1 else 0,
      conn := match x.conn with
        | .sync => if got && 3 ≤ x.good then .opened else .sync
        | .opened => .opened
        | .timeout => if got then .sync else .timeout })
  let x := c.chan ch
  let c := showCross c ch (x.silent = 0)
  if x.conn = .opened && 3 ≤ x.silent then
    let c := onChan c ch (fun y => { y with conn := .timeout, good := 0, diff := [] })
    chanFault (showCross c ch false) ch 12 (1 - ch) 0xFF
  else if x.conn ≠ .opened then onChan c ch (fun y => { y with diff := [] })
  else
    let bits := comparedBits.filter (fun b => mbit (word ^^^ o.word) b)
    let diff := bits.map (fun b => (b, ((x.diff.find? (fun d => d.1 = b)).map (·.2)).getD now))
    let c := onChan c ch (fun y => { y with diff := diff })
    let tf := tfMax c
    match diff.find? (fun d => d.2 + crossLimit tf d.1 < now) with
    | some (b, _) => let t := if b < 40 then b else 0xFF; chanFault c ch 11 t t
    | none => c

/-- A channel's fault ends when its cause is gone and the device is out of FAULT_HALT (11 R347). -/
def faultTurn (c : Chip) (ch : Nat) : Chip :=
  let x := c.chan ch
  if !x.fault then c else
  let gone := if x.code = 11 then x.diff.isEmpty else x.conn = .opened && !x.selfFail
  let code := 0x0A00 + x.code
  let held := c.sys.haltCauses.any (fun h => h.1 = code && h.2 = x.obj)
  let due := c.sys.due.any (fun f => f.code = code && f.object = x.obj)
  if !gone then (if held || due || c.sys.dev ≠ .faultHalt then c else raiseFault c code true x.obj)
  else
    let c := haltGone c code x.obj
    if due || c.sys.dev = .faultHalt then c else onChan c ch (fun y => { y with fault := false, code := 0 })

/-- A logic cycle of a channel (11 R332). Channel B closes nothing until the connection to A is OPEN (18 R500). -/
def logicOp (ch : Nat) (c : Chip) : Chip :=
  if !chanRuns c ch then c else
  let c := intakeDue c
  let c := if c.sio.field then c else onChan c ch (fun x => { x with
    si := 0, edm := 0, inp := vmapIdx x.inp (fun _ y => { y with disagree := none, pressed := none, ended := none, acc := none }) })
  let c := (List.range 16).foldl (inTurn ch) c
  let shut := (c.chan ch).fault || !c.sio.field || (ch = 1 && (c.chan 1).conn ≠ .opened) || c.sys.dev = .off || c.sys.dev = .reset
  let c := (List.range 8).foldl (outTurn shut ch) c
  faultTurn (compareTurn c ch) ch

def execSioLogicCycle (chan : Fin 2) : State → Host.Outcome State Fault Refusal := run (logicOp chan)

/-! ### Dark pulses and the faults of outputs -/

/-- The pulse period of an output, ns. -/
def pulsePeriod (c : Chip) (out : Nat) : Nat := (pcfg c (out / 2)).period * 10000000

/-- A dark pulse opens one switch of an output that is on (11 R339, R340), at the first instant permitted. -/
def pulseStartOp (out : Nat) (c : Chip) : Chip :=
  let o := out / 2
  let t := vget c.sio.test out
  if (pcfg c o).mode = 0 || !outIsOn c out || c.sio.pulse.isSome then c else
  let due := match t.last with | some l => l + pulsePeriod c out | none => 0
  let gap := match c.sio.lastPulse with | some e => e + 1000000 | none => 0
  let c := c.atTime (max due (max gap (vget c.sio.demandAt o + 2000000)))
  let now := c.now
  let c := onOut c t.next o (fun x => { x with sw := vset x.sw (out % 2) false })
  c.onSio (fun s => { s with
    pulse := some { output := out, chan := t.next, start := now },
    test := vmod s.test out (fun t => { t with last := some now, next := 1 - t.next }) })

def execDarkPulseStart (out : Fin 16) : State → Host.Outcome State Fault Refusal := run (pulseStartOp out)

/-- The pulse ends (11 R339, R340): discarded, passed and closed again, or OUT_STUCK_ON. -/
def pulseEndOp (out : Nat) (low : Bool) (c : Chip) : Chip :=
  match c.sio.pulse with
  | none => c
  | some p =>
    if p.output ≠ out then c else
    let o := out / 2
    let c := c.atTime (p.start + (pcfg c o).pulse * 10000)
    let now := c.now
    let c := c.onSio (fun s => { s with pulse := none, lastPulse := some now })
    if p.discard then c.onSio (fun s => { s with dpDiscard := vmod s.dpDiscard o inc })
    else if low then
      let c := onOut c p.chan o (fun x => { x with sw := vset x.sw (out % 2) true })
      c.onSio (fun s => { s with test := vmod s.test out (fun t => { t with since := now, valid := inc t.valid }) })
    else faultBoth c out 4

def execDarkPulseEnd (out : Fin 16) (low : Bool) : State → Host.Outcome State Fault Refusal := run (pulseEndOp out low)

/-- No valid pulse for 8 pulse periods (11 R340). -/
def overdueOut (out : Nat) (c : Chip) : Chip :=
  if (pcfg c (out / 2)).mode = 0 || (c.outPair 0 (out / 2)).st ≠ .on then c
  else faultBoth' (c.atTime ((vget c.sio.test out).since + 8 * pulsePeriod c out)) (out / 2) out
where
  /-- The pair faults with no external condition to find. -/
  faultBoth' (c : Chip) (o out : Nat) : Chip := (List.range 2).foldl (fun c ch => faultOut c ch o 10 out .fault) c

def execOutTestOverdue (out : Fin 16) : State → Host.Outcome State Fault Refusal := run (overdueOut out)

/-- A dark pulse runs on an output (11 R339). -/
def pulsed (c : Chip) (out : Nat) : Bool := match c.sio.pulse with | some p => p.output = out | none => false

/-- An output that is off has read high for more than 1 ms (11 R340). -/
def execOutExtVoltage (out : Fin 16) : State → Host.Outcome State Fault Refusal :=
  run fun c => if (pcfg c (out / 2)).mode = 0 || outIsOn c out || pulsed c out then c else faultBoth c out 5

/-- An output at its current limit for 1 ms, or in thermal shutdown (18 R503). -/
def execOutOverload (out : Fin 16) : State → Host.Outcome State Fault Refusal :=
  run fun c => if (pcfg c (out / 2)).mode = 0 || !outIsOn c out then c else faultBoth c out 6

/-- When t_edm expires for a pair in a channel with EDM in the wrong state, and the cause (11 R341, 13 R395). -/
def edmDue (c : Chip) (ch o : Nat) : Option (Nat × Nat × OutSt) :=
  let g := pcfg c o
  let x := c.outPair ch o
  let t := g.tEdm * 1000000
  if g.mode ≠ 1 || g.edm = 0xFF then none else
  let closed := edmClosed c ch o
  match x.st with
  | .on => if closed then some (x.since + t, 7, .fault) else none
  | .offSeq => if x.edmAt.isNone && !closed && !partnerOn c o then some (x.since + t, 8, .inhibited) else none
  | .off | .armed =>
    if partnerOn c o then none else
    match x.edmOpen with
    | some s => if closed then none else some (s + t, 9, .fault)
    | none => none
  | _ => none

/-- t_edm expires (11 R341). -/
def edmOp (o : Nat) (c : Chip) : Chip :=
  let due := (List.range 2).filterMap (fun ch => (edmDue c ch o).map (·.1))
  match due with
  | [] => c
  | d :: l =>
    let c := c.atTime (l.foldl min d)
    (List.range 2).foldl (fun c ch => match edmDue c ch o with
      | some (t, cause, st) => if t ≤ c.now then faultOut c ch o cause 0xFF st else c
      | none => c) c

def execEdmTimeout (pair : Fin 8) : State → Host.Outcome State Fault Refusal := run (edmOp pair)

/-- 30 s in ARMED without an accepted reset (11 R341). -/
def armedOp (o : Nat) (c : Chip) : Chip :=
  let x := c.outPair 0 o
  if x.st ≠ .armed then c else
  let c := c.atTime (x.since + 30000000000)
  let c := c.onSio (fun s => { s with req := vset s.req o false })
  (List.range 2).foldl (fun c ch => if (c.outPair ch o).st = .armed then goOut c ch o .off .timeout else c) c

def execArmedTimeout (pair : Fin 8) : State → Host.Outcome State Fault Refusal := run (armedOp pair)

/-- The delay of a CAT1 pair ends (11 R342): its nodes have stopped, or t_cat1 has passed. -/
def cat1Op (o : Nat) (c : Chip) : Chip :=
  let g := pcfg c o
  let from' := (if c.sys.dev = .faultHalt then c.sio.haltAt.toList else [])
    ++ (if g.sc0Off then ((List.range 12).filter (fun a => mbit g.arms a && (c.sepCfg a).isSome && (c.sepA a).e = 0)).map
      (fun a => (c.sepA a).sc0At) else [])
  match from' with
  | [] => c
  | t :: l =>
    if g.mode ≠ 1 || !g.cat1 then c else
    let c := if armsStopped c g.arms then c else c.atTime (l.foldl min t + g.tCat1 * 1000000)
    (List.range 2).foldl (fun c ch => if (c.outPair ch o).st = .on && !outCond c ch o true then offOut c ch o else c) c

def execCat1Expiry (pair : Fin 8) : State → Host.Outcome State Fault Refusal := run (cat1Op pair)

/-! ### Operator resets and requests at a boundary -/

/-- An accepted reset with DEVICE scope ends FAULT_HALT after CLEAR_FAULT (16 R459). -/
def endHalt (press : Nat) (c : Chip) : Chip :=
  match c.sys.clearPending with
  | none => c
  | some (_, e) =>
    if press + 60000000000 < e then c
    else if c.sys.dev = .faultHalt && c.sys.haltCauses.isEmpty && allArms c armRest && allAux c armRest then
      let c := endClear (setDev c .configured) .ok
      let c := c.onSys (fun s => { s with haltCode := 0, haltObject := 0 })
      let c := c.onSio (fun s => { s with haltAt := none })
      (owners c).foldl (fun c o => if (c.seq o).st = .hold then startDisable c o else c) c
    else endClear c .refusedState

/-- SAFETY_CONFIRMED (11 R359). -/
def postConfirmed (c : Chip) (b : Nat) : Chip := post c 5 0x0A06 0xFF 0xFF (le 1 b ++ zeros 3 ++ le 4 c.sio.scv)

/-- An accepted reset with DEVICE scope confirms the safety configuration (11 R357). -/
def endConfirm (press : Nat) (c : Chip) : Chip :=
  match c.sio.confirm with
  | none => c
  | some (ring, seq, e) =>
    if press + 60000000000 < e then c else
    let c := c.onSio (fun s => { s with confirm := none })
    if c.sys.dev = .commissioning && !c.sys.safetyDefaults then
      let c := c.onSys (fun s => { s with confirmed := true })
      let scv := c.sio.scv
      let c := c.onBoot (fun b => { b with confirmRecs := scv :: b.confirmRecs.filter (· ≠ scv) })
      complete (postConfirmed c 1) 0x0A10 .ok ring seq
    else complete c 0x0A10 .refusedState ring seq

/-- An accepted reset serves an output pair that waits for one (11 R341, R344). -/
def outReset (press : Nat) (c : Chip) (o : Nat) : Chip :=
  let st := (c.outPair 0 o).st
  let wants := if st = .armed then vget c.sio.reqAt o ≤ press
    else (st = .inhibited || st = .fault) && (match vget c.sio.cleared o with | some t => t ≤ press | none => false)
  if !wants then c else
  (List.range 2).foldl (fun c ch => onOut c ch o (fun x => { x with reset := true }))
    (c.onSio (fun s => { s with cleared := vset s.cleared o none }))

/-- The accepted resets take effect at a boundary, each on every function of its scope that waits (11 R344). -/
def applyResets (c : Chip) : Chip :=
  let due := c.sio.resetsDue
  let c := c.onSio (fun s => { s with resetsDue := [] })
  due.foldl (fun c r =>
    let g := icfg c r.1
    let c := if g.scopeDevice then endConfirm r.2 (endHalt r.2 c) else c
    let c := ((List.range 8).filter (mbit g.scopeOut)).foldl (outReset r.2) c
    ((sepArms c).filter (mbit g.scopeArms)).foldl (sepReset r.2) c) c

/-- Latched ON requests whose off-time has ended are evaluated at the boundary (01 R29, 11 R341). -/
def evalLatched (c : Chip) : Chip :=
  (List.range 8).foldl (fun c o =>
    if (vget c.sio.latched o).isNone || (c.outPair 0 o).st ≠ .off then c else
    let was := vget c.sio.req o
    let c := c.onSio (fun s => { s with req := vset s.req o true })
    if outCond c 0 o false then c.onSio (fun s => { s with latched := vset s.latched o none })
    else dropRequest (c.onSio (fun s => { s with req := vset s.req o was })) o) c

/-- SIO_OUT_SET takes effect (11 R332, R341). -/
def applyOutSet (o : Nat) (on : Bool) (c : Chip) : Chip :=
  noteRequest (c.sio.request % 256) (c.onSio (fun s => { s with req := vset s.req o on }))

/-- SIO_CLEAR_FAULT of an input pair reaches both channels (11 R332, R335). -/
def applySioClear (p : Nat) (c : Chip) : Chip :=
  (List.range 2).foldl (fun c ch => onIn c ch p (fun x => { x with clear := true })) (noteRequest p c)

/-- SAFETY_UNCONFIRM takes effect (11 R357). -/
def applyUnconfirm (c : Chip) : Chip :=
  let scv := c.sio.scv
  let c := c.onBoot (fun b => { b with confirmRecs := b.confirmRecs.filter (· ≠ scv) })
  postConfirmed (c.onSys (fun s => { s with confirmed := false })) 0

/-- Entry to FAULT_HALT, as the outputs see it (11 R342). -/
def sioHalt (c : Chip) : Chip := let now := c.now; c.onSio (fun s => { s with haltAt := some now })

/-- 60 s without a DEVICE reset (11 R357, R362). -/
def execConfirmResetTimeout : State → Host.Outcome State Fault Refusal :=
  run fun c => match c.sio.confirm with
    | some (ring, seq, e) => complete ((c.atTime e).onSio (fun s => { s with confirm := none })) 0x0A10 .timeout ring seq
    | none => c

/-! ### Safety PDUs by connection -/

/-- A safety PDU reaches the consumer of a connection of the table (11 R350): a node's, a sensor's, or any other. -/
def pduOp (i : Nat) (p : Bytes) (c : Chip) : Chip :=
  let id := (c.conn i).id
  if c.sio.conn.length ≤ i then c
  else if idKind id = 1 && nodeConn c (idEnd id - 1) = some i then takeNodePdu c (idEnd id - 1) p
  else if idKind id = 2 then
    match (List.range 8).find? (fun s => match c.scfg s with | some g => g.conn = id | none => false) with
    | some s => match c.scfg s with | some g => scanPdu s i g c p | none => c
    | none => (takePdu c i p).1
  else (takePdu c i p).1

def execSafetyPduReceived (conn : Nat) (pdu : Bytes) : State → Host.Outcome State Fault Refusal := run (pduOp conn pdu)

/-! ### Commands (11 R361, R362) -/

/-- SIO_GET_STATUS. -/
def bodySioStatus (_ : Req) (c : Chip) : Reply :=
  answer c .ok (le 4 (c.chan 0).si ++ le 4 (c.chan 1).si ++ le 1 (c.chan 0).edm
    ++ le 1 (bits [c.sys.confirmed, c.sys.safetyDefaults, (c.chan 0).fault, (c.chan 1).fault])
    ++ le 2 (maskOf 16 (fun p => (c.inPair 0 p).st = .released))
    ++ (List.range 8).map (fun o => byte (c.outPair 0 o).st.code) ++ le 4 c.sio.scv)

def execSioGetStatus (q : Req) : State → Host.Outcome State Fault Refusal := host 0x0A01 28 layNone bodySioStatus q

/-- SIO_GET_PAIR. -/
def bodySioPair (q : Req) (c : Chip) : Reply :=
  let p := byteN q.payload 0
  let g := icfg c p
  let x := c.inPair 0 p
  let st := if g.mode = 1 || g.mode = 2 then x.st else .demand
  let cause := if x.cause ≠ 0 then x.cause else (c.inPair 1 p).cause
  answer c .ok (le 1 g.mode ++ le 1 st.code ++ le 1 cause ++ zeros 1 ++ le 4 (vget c.sio.disc p) ++ le 4 (vget c.sio.resets p))

def execSioGetPair (q : Req) : State → Host.Outcome State Fault Refusal :=
  host 0x0A02 16 (lay 1 fun b => [bLe b 0 15]) bodySioPair q

/-- SIO_GET_OUTPUT. -/
def bodySioOutput (q : Req) (c : Chip) : Reply :=
  let o := byteN q.payload 0
  let x := c.outPair 0 o
  let cause := if x.cause ≠ 0 then x.cause else (c.outPair 1 o).cause
  let left := match x.st, x.edmAt with
    | .offSeq, some t => msLeft c.now (some (t + (pcfg c o).offMs * 1000000))
    | _, _ => 0
  answer c .ok (le 1 x.st.code ++ le 1 (bits [vget c.sio.req o, (vget c.sio.latched o).isSome]) ++ le 1 cause
    ++ le 1 (bits [readBack c (2 * o), readBack c (2 * o + 1)])
    ++ le 4 (incBy (vget c.sio.test (2 * o)).valid (vget c.sio.test (2 * o + 1)).valid) ++ le 4 (vget c.sio.dpDiscard o)
    ++ le 4 (vget c.sio.edmClose o) ++ le 4 left)

def execSioGetOutput (q : Req) : State → Host.Outcome State Fault Refusal :=
  host 0x0A03 24 (lay 1 fun b => [bLe b 0 7]) bodySioOutput q

/-- SIO_OUT_SET. -/
def bodyOutSet (q : Req) (c : Chip) : Reply :=
  let o := byteN q.payload 0
  let on := byteN q.payload 1 = 1
  let x := c.outPair 0 o
  let d := c.sys.dev
  let bars := firstFail [
    ((vget c.cfg.sio.out o).mode ≠ 1, Status.badParam),
    (c.sys.safetyDefaults, .notPermitted),
    (!(d = .commissioning || d = .ready || d = .automatic || d = .degraded), .refusedState)]
  match bars with
  | some st => refuse c st
  | none =>
    let now := c.now
    let c := dropRequest c o
    let c := if on then c.onSio (fun s => { s with reqAt := vset s.reqAt o now }) else c
    if on && x.st = .offSeq then
      answer (c.onSio (fun s => { s with latched := vset s.latched o (some (q.ring, q.seq)) })) .queued (le 1 x.st.code)
    else answer (deferB c 0x0A04 q) .ok (le 1 x.st.code)

def execSioOutSet (q : Req) : State → Host.Outcome State Fault Refusal :=
  host 0x0A04 5 (lay 2 fun b => [bLe b 0 7, bLe b 1 1]) bodyOutSet q

/-- SIO_CLEAR_FAULT: of an input pair at the boundary (R335), of an output pair until an accepted reset (R341). -/
def bodySioClear (q : Req) (c : Chip) : Reply :=
  let ix := byteN q.payload 1
  if byteN q.payload 0 = 0 then
    let g := icfg c ix
    let (a, b) := contacts c 0 ix
    let (a', b') := contacts c 1 ix
    let faulted := (c.inPair 0 ix).st = .faulted || (c.inPair 1 ix).st = .faulted
    let bars := firstFail [
      (!(g.mode = 1 || g.mode = 2), Status.badParam),
      (!faulted || a || b || a' || b', .refusedState)]
    match bars with
    | some st => refuse c st
    | none => answer (deferB c 0x0A05 q) .ok (le 1 (c.inPair 0 ix).st.code)
  else
    let x := c.outPair 0 ix
    let bars := firstFail [
      ((pcfg c ix).mode = 0, Status.badParam),
      (!(x.st = .inhibited || x.st = .fault) || !outCauseGone c ix || !edmClosed c 0 ix, .refusedState)]
    match bars with
    | some st => refuse c st
    | none =>
      let now := c.now
      answer (noteRequest (128 + ix) (c.onSio (fun s => { s with cleared := vset s.cleared ix (some now) }))) .ok (le 1 x.st.code)

def execSioClearFault (q : Req) : State → Host.Outcome State Fault Refusal :=
  host 0x0A05 5 (lay 2 fun b => [bLe b 0 1, if byteN b 0 = 0 then bLe b 1 15 else bLe b 1 7]) bodySioClear q

/-- SAFETY_GET_CONN. -/
def bodyGetConn (q : Req) (c : Chip) : Reply :=
  let i := byteN q.payload 0
  if c.sio.conn.length ≤ i then refuse c .badParam else
  let x := c.conn i
  answer c .ok (le 1 x.st.code ++ le 1 x.kind ++ zeros 2 ++ le 4 x.id ++ ((List.range 7).map (fun k => le 4 (vget x.cnt k))).flatten)

def execSafetyGetConn (q : Req) : State → Host.Outcome State Fault Refusal :=
  host 0x0A06 40 (lay 1 fun b => [bLe b 0 127]) bodyGetConn q

/-- SAFETY_CLEAR_COUNTERS. -/
def bodySafetyClear (_ : Req) (c : Chip) : Reply :=
  answer (c.onSio (fun s => { s with
    conn := s.conn.map (fun x => { x with cnt := Vector.replicate 7 0 }), disc := Vector.replicate 16 0, resets := Vector.replicate 16 0,
    dpDiscard := Vector.replicate 8 0, test := vmapIdx s.test (fun _ t => { t with valid := 0 }) })) .ok

def execSafetyClearCounters (q : Req) : State → Host.Outcome State Fault Refusal := host 0x0A07 4 layNone bodySafetyClear q

/-- SAFETY_CONFIRM (11 R357, R362). -/
def bodyConfirm (q : Req) (c : Chip) : Reply :=
  let bars := firstFail [
    (c.sys.dev ≠ .commissioning || c.sys.safetyDefaults, Status.refusedState),
    (c.sio.confirm.isSome, .busy),
    (ru q.payload 0 4 ≠ c.sio.scv, .checkFail)]
  match bars with
  | some st => refuse c st
  | none =>
    let e := c.now + 60000000000
    answer (c.onSio (fun s => { s with confirm := some (q.ring, q.seq, e) })) .queued (le 1 (b2n c.sys.confirmed))

def execSafetyConfirm (q : Req) : State → Host.Outcome State Fault Refusal := host 0x0A10 5 (lay 4 fun _ => []) bodyConfirm q

/-- SAFETY_UNCONFIRM (11 R357, R362). -/
def bodyUnconfirm (q : Req) (c : Chip) : Reply :=
  if c.sys.dev ≠ .configured && c.sys.dev ≠ .commissioning then refuse c .refusedState else answer (deferB c 0x0A11 q) .ok

def execSafetyUnconfirm (q : Req) : State → Host.Outcome State Fault Refusal := host 0x0A11 4 layNone bodyUnconfirm q

end Sys2Proof.Machine
end

