-- ==== Sys2Proof/Machine/Mirror.lean ====
section
/-!
DEFINITION. What travels on the pair link (13 R396, R400-R402): a mirrored command in the unit that receives it, acyclic transfers in
both directions, and the MIRROR frame.
-/

namespace Sys2Proof.Machine

open Sys2Proof

def Chip.pairCfg (c : Chip) : PairCfg := c.cfg.pair.getD { identity := 0 }

/-! ### Mirrored commands (R396) -/

/-- The effect of a mirrored command in the unit that receives it, as of one validated there. -/
def mirroredBody (op : Nat) : Option (Req → Chip → Reply) :=
  match op with
  | 0x0104 => some bodySetState
  | 0x0105 => some bodyClearFault
  | 0x0202 => some bodyPreset
  | 0x0203 => some bodySelect
  | 0x0204 => some bodyVmaster
  | 0x0206 => some bodyPublish
  | 0x0210 => some bodyEventArm
  | 0x0211 => some bodyEventCancel
  | 0x0220 => some bodyLatchConfigure
  | 0x0510 => some (fun q c => enableBody 0x0510 (byteN q.payload 0) (mbit (byteN q.payload 1) 0) q c)
  | 0x0511 => some (fun q c => disableBody 0x0511 (byteN q.payload 0) (mbit (byteN q.payload 1) 0) (mbit (byteN q.payload 1) 1) q c)
  | 0x0513 => some bodyCoefWrite
  | 0x0515 => some bodySwap
  | 0x0516 => some bodySetSup
  | 0x0518 => some bodyTest
  | 0x0519 => some bodyArmClear
  | 0x0602 => some bodySetTool
  | 0x0603 => some bodySetPayload
  | 0x0607 => some bodyFlush
  | 0x0802 => some bodySetLimits
  | 0x0803 => some bodyMove
  | 0x0804 => some bodyHold
  | 0x0805 => some bodyTableLoad
  | 0x0806 => some bodyTableStart
  | 0x0807 => some bodyGear
  | 0x0808 => some bodyStreamOpen
  | 0x0809 => some (fun q c => answer (streamDataOp q.payload c) .ok)
  | 0x080A => some bodyHome
  | 0x080B => some bodyRegister
  | 0x080C => some bodyStepTable
  | 0x080D => some (fun q c => enableBody 0x080D (12 + byteN q.payload 0) false q c)
  | 0x080E => some (fun q c => disableBody 0x080E (12 + byteN q.payload 0) (mbit (byteN q.payload 1) 0) false q c)
  | 0x080F => some bodyProfClear
  | 0x0810 => some bodyTableClear
  | 0x0904 => some bodySetCap
  | 0x0905 => some bodySepClear
  | 0x0A04 => some bodyOutSet
  | 0x0A05 => some bodySioClear
  | 0x0A10 => some bodyConfirm
  | 0x0A11 => some bodyUnconfirm
  | _ => none

/-- A mirrored item was not accepted in time (R397): in STANDBY a divergence. -/
def itemLate (c : Chip) : Chip :=
  if c.pair.st = some .standby && c.pair.diverged.isNone then
    c.onPair (fun p => { p with diverged := some (0xFF, p.matched) })
  else c

/-- A mirrored command is validated in the unit that receives it. -/
def applyMirrored (c : Chip) (op : Nat) (payload : Bytes) : Chip :=
  match mirroredBody op with
  | some b =>
    let r := b { ring := 0xFF, seq := 0, payload := payload } c
    if r.st.full then r.chip else itemLate c
  | none => itemLate c

/-- A commit enters the profile unit (R402). -/
def applyCommit (c : Chip) (data : Bytes) : Chip :=
  let s := { parseSeg data with st := .committed }
  if 44 ≤ s.owner then c else onChain c s.owner (fun ch => { ch with queue := ch.queue ++ [s], planner := true })

/-- The items received whose boundary has come: a command one cycle before its effect, a commit at its own (R396, R402). -/
def applyItems (c : Chip) : Chip :=
  let due := fun (m : Nat × Nat × Nat × Bytes) => if m.2.1 = 0x0101 then decide (m.1 ≤ c.cyc + 1) else decide (m.1 ≤ c.cyc)
  let now := c.pair.items.filter due
  let c := c.onPair (fun p => { p with items := p.items.filter (fun m => !due m) })
  now.foldl (fun c m => if m.2.1 = 0x0101 then applyMirrored c m.2.2.1 m.2.2.2 else applyCommit c m.2.2.2) c

/-! ### Acyclic transfers on the pair link (R401, R402; 04 R126-R128) -/

/-- A transfer received whole. Its boundary `n` cycles ahead. -/
def takeItem (c : Chip) (m : Bytes) : Chip :=
  let data := slice m 12 (ru m 10 2)
  let n := (ru m 4 4 + 4294967296 - c.count) % 4294967296
  let late := n = 0 || 2147483648 ≤ n
  match ru m 0 2 with
  | 0x0101 =>
    if late then itemLate c
    else if n = 1 then applyMirrored c (ru data 0 2) (data.drop 2)
    else c.onPair (fun p => { p with items := p.items ++ [(c.cyc + n, 0x0101, ru data 0 2, data.drop 2)] })
  | 0x0102 =>
    if late then itemLate c else c.onPair (fun p => { p with items := p.items ++ [(c.cyc + n, 0x0102, 0, data)] })
  | 0x0103 => if holdsToken c then c else c.onPlanner (Config.planDelta data)
  | 0x0104 => if c.pair.transfer then c.onPair (fun p => { p with stateIn := p.stateIn ++ data }) else c
  | _ => c

/-- A block of the partner is accepted in order, or discarded (04 R127). -/
def takeBlock (c : Chip) (b : Bytes) : Chip :=
  let first := mbit (byteN b 1) 0
  let seq := ru b 2 2
  if !acycValid b || !(first || seq = (c.pair.rxSeq + 1) % 65536) then c else
  let got := if first then some (slice b 8 52, ru b 6 2) else c.pair.rxPart.map (fun x => (x.1 ++ slice b 8 52, x.2))
  let last := mbit (byteN b 1) 1
  let c := c.onPair (fun p => { p with rxSeq := seq, rxPart := if last then none else got })
  match got with
  | some (m, n) => if last then takeItem c (fit n m) else c
  | none => c

/-- The partner's acknowledgement. -/
def PairTx.acked (t : PairTx) (a : Nat) : PairTx :=
  match t.blocks.findIdx? (fun b => b.2.seq = a && 0 < b.2.tries) with
  | some i => { t with blocks := t.blocks.drop (i + 1) }
  | none => t

/-- The transfers of which a block has been sent four times in vain are abandoned (04 R127). -/
def PairTx.abandoned (t : PairTx) (cyc : Nat) : List Nat :=
  (t.blocks.filter (fun b => b.2.overdue cyc && 4 ≤ b.2.tries)).map (·.1)

/-- The blocks of a MIRROR frame, at most 24 outstanding: those not sent yet, and with RETRY those unacknowledged for 2 cycles
(04 R127). -/
def PairTx.turn (t : PairTx) (cyc : Nat) : List Bytes × PairTx :=
  let gone := t.abandoned cyc
  let live := t.blocks.filter (fun b => !gone.contains b.1)
  let goes := fun (b : AcycBlk) => b.due || b.overdue cyc
  ((((live.take 24).map (·.2)).filter goes).map (fun b => if 0 < b.tries then withRetry b.data else b.data),
    { t with blocks := (live.take 24).map (fun b =>
        if goes b.2 then (b.1, { b.2 with tries := b.2.tries + 1, at' := cyc, due := false }) else b) ++ live.drop 24 })

/-! ### The MIRROR frame (R401) -/

/-- Its digests: the downlink digest of every node, and the CRC of its axes' state halves (R403, R404). -/
def ownDigests (c : Chip) : List (Nat × Nat) :=
  (List.range 24).map (fun k => if (c.port k).a = 0 then (0, 0) else (digest c k, stateCrc c k))

/-- Bytes 16 to 443. -/
def mirrorBody (c : Chip) (k : Nat) : Bytes :=
  le 1 (pairCode c.pair.st) ++ le 1 c.sys.dev.code
    ++ le 1 (bits [c.sys.dev = .faultHalt, c.pair.handover, c.pair.swap.isSome, stepOk c true]) ++ le 1 k ++ le 2 c.pair.rxSeq ++ zeros 2
    ++ le 2 c.sys.gword ++ zeros 2 ++ ((List.range 8).map (fun o => byte (c.outPair 0 o).st.code)) ++ le 2 (maskOf 16 (readBack c)) ++ zeros 2
    ++ ((List.range 4).map (fun l => lineRecord c l (match c.lt.snaps with | s :: _ => vget s l | [] => (c.line l).state))).flatten
    ++ (c.pair.oDigest.map (fun d => le 4 d.1 ++ le 4 d.2)).flatten
    ++ le 4 (maskOf 24 (fun j => match (c.node j).copy with | some (h, _, _) => h = 1 | none => false)) ++ zeros 16

/-- At t_dl + 0.50 µs the MIRROR frame leaves on both lanes (R400, R401). -/
def mirrorTurn (c : Chip) : Chip :=
  if c.pair.st.isNone then c else
  let c := c.onPair (fun p => { p with oDigest := ownDigests c })
  let (bl, t) := c.pair.tx.turn c.cyc
  let f := closed (cellHeader 0x32 0 0xFF c.count c.count (448 + 64 * bl.length) (unitIdent c) ++ mirrorBody c bl.length ++ bl.flatten)
  let c := c.onPair (fun p => { p with tx := t })
  (c.emit 2 0 f).emit 2 1 f

end Sys2Proof.Machine
end

