-- ==== Sys2Proof/Machine/Pair.lean ====
section
/-!
DEFINITION. Paired operation (chapter 13): the interlock and the token, the pair states, time in a pair, what arrives on the pair
link, agreement and its checks, losing the partner, the swap test, and the pair commands.
-/

namespace Sys2Proof.Machine

open Sys2Proof

/-! ### The partner's pulse, and the pair state -/

/-- The partner's latest valid pulse within the last 2.5 T showed a code (R394, R395): 0 WAIT, 1 STANDBY, 2 PRIMARY. -/
def partnerShows (c : Chip) (k : Nat) : Bool :=
  match c.pair.pulse with
  | some (x, t) => x = k && decide (2 * c.now ≤ 2 * t + 5 * c.period)
  | none => false

/-- PAIR_STATE: the unit enters a state (R397, R410). -/
def goPair (c : Chip) (st : PairSt) : Chip :=
  let old := c.pair.st
  let now := c.now
  let c := c.onPair (fun p => { p with
    st := some st, handover := false, isoFor := 0, presence := false, diverged := none,
    isoSilent := decide (old = some .silent) && decide (st = .isolated),
    waitAt := if st = .wait then some now else p.waitAt,
    downlinks := match st with
      | .primary | .standby => true
      | .isolated => p.downlinks
      | .wait | .silent => false })
  post c 6 0x0C01 0xFF 0xFF (le 1 (pairCode (some st)) ++ le 1 (pairCode old))

/-- PAIR_LINK (R410): 0 link lost, 1 restored, 2 lane down, 3 heartbeat lost, 4 heartbeat restored. -/
def postLink (c : Chip) (code : Nat) : Chip := post c 6 0x0C02 0xFF 0xFF (le 1 code ++ le 1 c.pair.lanes)

def countPair (c : Chip) (i : Nat) : Chip := c.onPair (fun p => { p with cnt := vmod p.cnt i inc })

/-- PARTNER_LOST, a degrading fault (R397, 01 R34). -/
def loseOther (c : Chip) : Chip :=
  if c.pair.partnerLost then c else raiseFault (c.onPair (fun p => { p with partnerLost := true })) 0x0C01 false 0xFF

/-- The unit carries a halting fault. -/
def halted (c : Chip) : Bool := c.sys.dev = .faultHalt

/-- The other unit's channel: 0 A, 1 B (R391). -/
def otherCh (c : Chip) : Nat := 2 - unitIdent c

/-! ### What a unit that takes the token continues (R406) -/

/-- A mirrored line state on this unit's own count of turns (R402). -/
def mirrorEst (c : Chip) (l : Nat) (r : Bytes) : Est :=
  let t := ofWide r 8
  let p := ri r 18 8
  let m := lineMod c l
  let own := (c.line l).state.pos t
  let p := if m = 0 then p else
    let d := (p - own) % (m : Int)
    own + (if 2 * d < m then d else d - m)
  { t := t, p := p * 2 ^ 48, v := ri r 26 8, a := ri r 34 8 }

/-- The mirrored record of a line, where it shows a usable state. -/
def mirrorLine (c : Chip) (l : Nat) : Option Est :=
  let r := c.pair.pLines.getD l []
  if lineEnabled c l && r.length = 48 && (byteN r 1 = 2 || byteN r 1 = 3) then some (mirrorEst c l r) else none

/-- The line continues from the last mirrored state, with the continuity offset of 02 R47. -/
def continueLine (c : Chip) (l : Nat) : Chip :=
  match mirrorLine c l with
  | none => c
  | some m =>
    let t := c.plant
    onLine c l (fun n =>
      let d := (m.moved t).p - (n.state.moved t).p
      let dz := roundDiv d (2 ^ 48)
      let mv := fun (e : Est) => { e with p := e.p + d }
      { n with
        est := mv n.est, hist := n.hist.map mv, holdEst := n.holdEst.map mv, z := n.z + dz,
        offset := if n.source = 2 || n.source = 4 then n.offset + dz else n.offset })

/-- Output pairs whose mirrored state was ON switch on in the first logic cycle, EDM open accepted, without a reset. -/
def takeOutputs (c : Chip) : Chip :=
  (List.range 8).foldl (fun c o =>
    if c.pair.pOut.getD o 0 ≠ 2 then c else
    let c := c.onSio (fun s => { s with req := vset s.req o true })
    (List.range 2).foldl (fun c ch => onOut c ch o (fun x => { x with takeover := true })) c) c

/-- PAIR_SWAP_DONE (R410): the swap ends. -/
def endSwap (c : Chip) (st : Status) (item index : Nat) : Chip :=
  post (c.onPair (fun p => { p with swap := none, keep := 0 })) 6 0x0C06 0xFF 0xFF (le 1 st.code ++ le 1 item ++ le 1 index)

/-- The unit takes the token (R406): from a lost partner, or from one that hands it over; into FAULT_HALT where R397 says so. -/
def takeToken (c : Chip) (halt lost : Bool) : Chip :=
  let run := c.pair.absence
  let c := if c.pair.swap.isSome then endSwap c .checkFail 0 0 else c
  let c := post (countPair (goPair c .primary) 2) 6 0x0C05 0xFF 0xFF (le 1 (b2n halt) ++ le 1 (min 255 run))
  let c := if lost then loseOther c else c
  let c := if halt then raiseFault c 0x0C02 true 0xFF else c
  let c := (List.range 4).foldl continueLine c
  if halt then c else takeOutputs c

/-! ### The pulse, the heartbeat, the link -/

/-- A pulse of the partner (R394): valid within 50 ns of a code. -/
def pulseOp (w : Nat) (c : Chip) : Chip :=
  if c.pair.st.isNone then c else
  let code := if 50 ≤ w && w < 150 then some 0 else if 150 ≤ w && w ≤ 250 then some 1 else if 350 ≤ w && w ≤ 450 then some 2 else none
  match code with
  | some k => let now := c.now; c.onPair (fun p => { p with pulse := some (k, now) })
  | none => c

def execInterlockPulse (widthNs : Nat) : State → Host.Outcome State Fault Refusal := run (pulseOp widthNs)

/-- The heartbeat is alive at the boundary `b` (R394). -/
def aliveAt (c : Chip) (b : Nat) : Bool := match c.pair.pulse with | some (_, t) => decide (2 * b ≤ 2 * t + 5 * c.period) | none => false

/-- HEARTBEAT_LOST stands before the boundary it is judged at, which then takes the changes of R397. -/
def execHeartbeatLost : State → Host.Outcome State Fault Refusal :=
  run fun c => if c.pair.st.isSome && c.pair.heart && !aliveAt c (c.t0 + c.period) then
      postLink (c.onPair (fun p => { p with heart := false })) 3
    else c

/-- PAIR_LINK_LOST stands before the boundary that ends the third cycle without a valid MIRROR (R397). -/
def execPairLinkLost : State → Host.Outcome State Fault Refusal :=
  run fun c => if c.pair.st.isSome && c.pair.link && !c.pair.gotMirror && 2 ≤ c.pair.linkMiss then
      postLink (c.onPair (fun p => { p with link := false, linkMiss := p.linkMiss + 1 })) 0
    else c

/-- A lane gains or loses block lock (R410). -/
def laneOp (lane : Nat) (up : Bool) (c : Chip) : Chip :=
  if c.pair.st.isNone || mbit c.pair.lanes lane = up then c else
  postLink (c.onPair (fun p => { p with lanes := mput p.lanes lane up })) (if up then 1 else 2)

def execPairLaneStateChange (lane : Fin 2) (up : Bool) : State → Host.Outcome State Fault Refusal := run (laneOp lane up)

/-! ### Frames of the pair link -/

/-- A pair-link frame is valid (R400): framing of 04 R96, header of 04 R97, from the partner. -/
def pairFrame (c : Chip) (type len : Nat) (f : Bytes) : Bool :=
  c.pair.st.isSome && f.length = len && 20 ≤ len && ru f (len - 4) 4 = crc32c (f.take (len - 4))
    && byteN f 0 = type && byteN f 1 = 0 && byteN f 2 = 0xFF && rsv f 3 1 && ru f 8 2 = ru f 4 4 % 65536 && ru f 10 2 = len
    && byteN f 12 = 3 - unitIdent c && byteN f 13 = 1 && rsv f 14 2

/-- A frame belongs to the cycle in progress; a unit in WAIT is not yet aligned with its partner. -/
def inCycle (c : Chip) (f : Bytes) : Bool := c.pair.st = some .wait || ru f 4 4 = c.count

/-- The plant clock moves by `d` (R398): the standby applies the primary's step, or is aligned with it by whole cycles. -/
def movePlant (d : Int) (n : Nat) (c : Chip) : Chip :=
  let c' := shiftInstants d { c with ptOff := c.ptOff + d }
  { shiftCycles ((n : Int) - c.cyc) c' with cyc := n }

/-- The quiet channel restarts through LOCK (R397; 04 R120). -/
def wake (c : Chip) : Chip :=
  if !c.pair.quiet then c else
  (c.onPair (fun p => { p with quiet := false })).onStar (fun s => { s with
    node := vmapIdx s.node (fun k n => { n with ch := vmapIdx n.ch (fun h x =>
      if chUsed c k h && x.st ≠ .unused && x.st ≠ .down then toLock x else x) }) })

/-- A PAIR_SYNC frame, its first copy arriving `off` 1/64 ns after this unit's t0 (R398). -/
def syncFrameOp (f : Bytes) (off : Int) (c : Chip) : Chip :=
  let t := ofWide f 16
  let T : Int := c.period
  let n := (t / T).toNat
  if !pairFrame c 0x31 48 f || !rsv f 32 12 || byteN f 26 ≠ c.cfg.sys.period || t % T ≠ 0 || ru f 4 4 ≠ n % 4294967296 then c else
  let c := c.atTime (((c.t0 : Int) + off / 64).toNat)
  let other := ri f 28 4
  let o := if holdsToken c then (off, other) else (other, off)
  let now := c.now
  let c := c.onPair (fun p => { p with
    arrival := off, syncAt := some now, x := quot 6 (o.1 - o.2) 2, d := quot 6 (o.1 + o.2) 2 })
  let gap := t - (c.t0 + c.ptOff)
  let c := wake c
  if holdsToken c then c
  else if c.pair.st = some .wait then c.onPair (fun p => { p with ahead := (2 * gap + T) / (2 * T) * T })
  else if T ≤ 2 * gap.natAbs then
    let c := movePlant gap n c
    let c := if c.star.run then (coldStart c).onStar (fun s => { s with stepped := true }) else c
    enqueue c { ring := vget c.cfg.sys.evRing 0, opcode := 0x0102, cls := 3, len := 16, payload := evBytes c 0x0102 0xFF 0xFF (leI 8 gap) }
  else if c.pair.link then
    c.onPt (fun q => { q with corrNext := some (clampI (-corrMax) corrMax (Config.pairSlew c.pair.x q.corr)) })
  else c

def execPairSyncReceived (frame : Bytes) (off : Int) : State → Host.Outcome State Fault Refusal := run (syncFrameOp frame off)

/-- The image digests are compared before the pair starts (R393): PAIR_MISMATCH with the partner's. -/
def compareDigests (c : Chip) : Chip :=
  if c.pair.st ≠ some .wait then c else
  let now := c.now
  let d := fit 64 (Config.partnerDigest c.free)
  if d = c.pair.digest then (takeFree c).onPair (fun p => { p with digestsEq := some true, mismatchAt := none }) else
  let first := c.pair.mismatchAt.isNone
  let c := (takeFree c).onPair (fun p => { p with digestsEq := some false, mismatchAt := some (p.mismatchAt.getD now) })
  if first then post c 6 0x0C08 0xFF 0xFF (fit 8 d) else c

/-- In a unit without the token S(j) is formed from the primary's mirrored line states (R402). -/
def takeLines (c : Chip) : Chip :=
  if holdsToken c || c.pair.st = some .wait then c else
  c.onLt (fun t => { t with snaps := match t.snaps with
    | s :: rest => vmapIdx s (fun l e => (mirrorLine c l).getD e) :: rest
    | [] => [] })

/-- A MIRROR frame (R401): the first valid copy of the cycle is taken. -/
def mirrorOp (f : Bytes) (c : Chip) : Chip :=
  let k := byteN f 19
  if c.pair.gotMirror || !pairFrame c 0x32 (448 + 64 * k) f || 24 < k || 4 < byteN f 16 || !inCycle c f then c else
  let was := c.pair.partner
  let back := ru f 36 2
  let c := c.onPair (fun p => { p with
    gotMirror := true, partner := byteN f 16, pDev := byteN f 17, pFlags := byteN f 18,
    pOut := (List.range 8).map (fun i => byteN f (28 + i)), pBack := back,
    pLines := (List.range 4).map (fun i => slice f (40 + 48 * i) 48),
    pDigest := (List.range 24).map (fun i => (ru f (232 + 8 * i) 4, ru f (236 + 8 * i) 4)), pCopies := ru f 424 4 % 2 ^ 24,
    tx := p.tx.acked (ru f 20 2),
    keep := if byteN f 16 = 1 then maskOf 8 (fun o => mbit p.keep o && !(mbit back (2 * o) && mbit back (2 * o + 1))) else p.keep })
  let c := compareDigests (takeLines c)
  let c := if holdsToken c && byteN f 16 = 3 && was ≠ 3 then
      queueLong c 0x0104 (c.count + 2) (Config.stateOut (c.loops, c.joints, c.prof, c.sio, c.planner)) else c
  if c.pair.st = some .wait then c else
  (List.range k).foldl (fun c i => takeBlock c (slice f (444 + 64 * i) 64)) c

def execMirrorReceived (frame : Bytes) : State → Host.Outcome State Fault Refusal := run (mirrorOp frame)

/-- At t_dl + 2.0 µs the partner's digests are compared (R404). -/
def compareOp (c : Chip) : Chip :=
  if c.pair.st.isNone then c else
  let c := c.atOff (Config.tDl c.cfg.sys.period + 2000)
  if !c.pair.gotMirror then
    c.onPair (fun p => { p with lastMatched := if p.matched = 0 then p.lastMatched else p.matched, matched := 0 })
  else
    let at' := fun (l : List (Nat × Nat)) (k : Nat) => l.getD k (0, 0)
    let same := fun (k : Nat) => at' c.pair.pDigest k = at' c.pair.oDigest k
    let use := (List.range 24).filter (configured c)
    let all := use.all (fun k => same k)
    let c := c.onPair (fun p => { p with
      matched := if all then inc p.matched else 0,
      lastMatched := if all || p.matched = 0 then p.lastMatched else p.matched,
      differ := vmapIdx p.differ (fun k n => if use.contains k && (at' p.pDigest k).1 ≠ (at' p.oDigest k).1 then n + 1 else 0) })
    match use.find? (fun k => max 1 c.pairCfg.nDiv ≤ vget c.pair.differ k) with
    | some k => if c.pair.st = some .standby && c.pair.diverged.isNone then
        c.onPair (fun p => { p with diverged := some (k + 1, p.lastMatched) }) else c
    | none => c

def execDigestCompare : State → Host.Outcome State Fault Refusal := run compareOp

/-- A CLASS frame (R400, R403): the partner's class per arm, received by P + 249 µs. -/
def classFrameOp (f : Bytes) (c : Chip) : Chip :=
  let n := (f.length - 20) / 32
  let inTime := match c.sep.start with | some (t, _) => decide (c.now ≤ t + 249000) | none => false
  if !pairFrame c 0x33 (20 + 32 * n) f || !inCycle c f || !inTime then c else
  (List.range n).foldl (fun c i =>
    let p := slice f (16 + 32 * i) 32
    match (List.range 12).find? (fun a => match classConn c a with | some j => (c.conn j).id = ru p 0 4 | none => false) with
    | none => c
    | some a =>
      match classConn c a with
      | none => c
      | some j =>
        let (c, used) := takePdu c j p
        if !used || byteN p 10 ≠ a then c else
        let e := if mbit (byteN p 13) 0 then 0 else byteN p 11
        c.onPair (fun q => { q with pClass := vset q.pClass a (some (e, ru p 6 4)) })) c

def execPairClassReceived (frame : Bytes) : State → Host.Outcome State Fault Refusal := run (classFrameOp frame)

/-- A SENSOR_RELAY frame (R400): the partner's sensor PDUs, as if they had arrived on the port (10 R299). -/
def relayOp (f : Bytes) (c : Chip) : Chip :=
  if !pairFrame c 0x34 f.length f || f.length < 24 || !rsv f 17 3 || 8 ≤ byteN f 16 || !scanLength (slice f 20 (f.length - 24)) then c
  else scanOp (byteN f 16) (slice f 20 (f.length - 24)) c

def execSensorRelayReceived (frame : Bytes) : State → Host.Outcome State Fault Refusal := run (relayOp frame)

/-- A datagram arrives on an own SP port (10 R297-R299); one that the port does not take counts in SP_BAD. In a pair the PDUs
are relayed (R400). -/
def execScanPduReceived (port : Fin 8) (dgram : Datagram) : State → Host.Outcome State Fault Refusal :=
  run fun c =>
    let b := dgram.data
    let c := sensorFrame c port
    if (c.scfg port).isNone then c
    else if !takesScan c port dgram.src b then onSensor c port (fun s => { s with spBad := inc s.spBad }) else
    let c := scanOp port b c
    if c.pair.st.isNone then c else
    let f := closed (cellHeader 0x34 0 0xFF c.count c.count (24 + b.length) (unitIdent c) ++ le 1 port ++ zeros 3 ++ b)
    (c.emit 2 0 f).emit 2 1 f

/-- An uplink forwarded by the partner (R400): the channel A copy is used when there is one. -/
def pairUplinkOp (k : Nat) (f : Bytes) (c : Chip) : Chip :=
  match (c.node k).slot with
  | none => c
  | some s =>
    if c.pair.st.isNone || c.pair.st = some .wait
      || frameFault f 2 (k + 1) s c.count (fun f => ru f 8 2 = c.count % 65536 && uplinkBody (c.port k) f) ≠ 0 then c else
    let now := c.now
    let c := c.onPair (fun p => { p with pSeen := vset p.pSeen k (some now) })
    if !(c.node k).fresh || otherCh c = 0 then useUplink c k (otherCh c) f else c

def execPairUplinkReceived (node : Fin 24) (frame : Bytes) : State → Host.Outcome State Fault Refusal := run (pairUplinkOp node frame)

/-! ### Waiting, isolation, state transfer -/

/-- Local time since which no partner pulse has been seen in WAIT. -/
def quietSince (c : Chip) : Nat := max (c.pair.waitAt.getD 0) (match c.pair.pulse with | some (_, t) => t | none => 0)

/-- t_pwait expires in WAIT (R393, R397): unit 1 starts alone at the boundary. -/
def waitOp (c : Chip) : Chip :=
  let w := c.pairCfg.tPwait * 1000000
  if c.pair.st ≠ some .wait || c.pairCfg.identity ≠ 1 then c else
  match c.pair.mismatchAt with
  | some t => if c.pair.digestsEq = some false then (c.atTime (t + w)).onPair (fun p => { p with alone := true }) else c
  | none =>
    if c.pair.link || c.pair.heart then c else (c.atTime (quietSince c + w)).onPair (fun p => { p with alone := true })

def execPartnerWaitExpiry : State → Host.Outcome State Fault Refusal := run waitOp

/-- t_iso since the last accepted PAIR_SYNC (R397): no further cycle-starts. -/
def isoOp (c : Chip) : Chip :=
  if !(c.pair.st = some .silent || c.pair.st = some .isolated) || c.pair.quiet then c else
  (c.atTime (c.pair.syncAt.getD 0 + c.pairCfg.tIso * 1000000)).onPair (fun p => { p with quiet := true })

def execIsolationExpiry : State → Host.Outcome State Fault Refusal := run isoOp

/-- A state transfer completes in a SILENT unit (R402): its contents have no layout in the spec. -/
def transferOp (c : Chip) : Chip :=
  if !c.pair.transfer || c.pair.st ≠ some .silent then c else
  let (l, j, p, s, n) := Config.takeState c.pair.stateIn (c.loops, c.joints, c.prof, c.sio, c.planner)
  { c.onPair (fun p => { p with transfer := false, stateIn := [] }) with loops := l, joints := j, prof := p, sio := s, planner := n }

def execStateTransferDone : State → Host.Outcome State Fault Refusal := run transferOp

/-! ### The swap test (R408) -/

/-- Lines that publish, and the publishing sequence of a mirrored record. -/
def pubLines (c : Chip) : List Nat := (List.range 4).filter (fun l => lineEnabled c l && (c.line l).pubMask ≠ 0 && (c.line l).source ≠ 4)
def mirrorSeq (c : Chip) (l : Nat) : Nat := ru (c.pair.pLines.getD l []) 4 2

/-- The first publishing link without a record of the new primary, of lines whose sequences `seq` have not moved. -/
def stillLink (c : Chip) (w : Swap) (seq : Nat → Nat) : Option Nat :=
  ((pubLines c).find? (fun l => seq l = w.pubs.getD l 0)).map (fun l => if mbit (c.line l).pubMask 0 then 0 else 1)

/-- The swap completes, or its 20 ms end. -/
def swapOp (c : Chip) : Chip :=
  match c.pair.swap with
  | none => c
  | some w =>
    let now := c.now
    let ok := fun (c : Chip) => countPair (c.onPair (fun p => { p with swap := none, keep := 0, swapAt := some now })) 3
    if w.stage = 1 then
      match (List.range 8).find? (mbit c.pair.keep), stillLink c w (mirrorSeq c) with
      | none, none => if c.pair.partner = 1 then endSwap (ok c) .ok 0 0 else c
      | some o, _ => endSwap ((c.atTime w.endAt)) .checkFail 1 o |>.onPair (fun p => { p with swap := some { w with stage := 3 }, keep := c.pair.keep })
      | none, some l => endSwap ((c.atTime w.endAt)) .checkFail 2 l |>.onPair (fun p => { p with swap := some { w with stage := 3 }, keep := c.pair.keep })
    else if w.stage = 2 then
      let on := (List.range 8).all (fun o => !mbit w.pairs o || (readBack c (2 * o) && readBack c (2 * o + 1)))
      if on && (stillLink c w (fun l => (c.line l).pubSeq)).isNone then ok c
      else
        let c := (goPair (c.atTime w.endAt) .standby).onPair (fun p => { p with swap := none, pathLatched := true })
        goPair c .silent
    else c

def execSwapConfirm : State → Host.Outcome State Fault Refusal := run swapOp

/-- At t0(s) the old primary shows STANDBY and keeps its pairs on. -/
def swapStart (c : Chip) (w : Swap) : Chip :=
  let on := maskOf 8 (fun o => (c.outPair 0 o).st = .on)
  let w : Swap := { w with
    stage := 1, endAt := c.now + c.period + 20000000, pairs := on, pubs := (List.range 4).map (mirrorSeq c) }
  (goPair c .standby).onPair (fun p => { p with swap := some w, keep := on })

/-- The new primary takes the token in a swap. -/
def swapTake (c : Chip) : Chip :=
  let on := maskOf 8 (fun o => c.pair.pOut.getD o 0 = 2)
  let w : Swap := {
    stage := 2, cyc := c.cyc, endAt := c.now + 20000000, pairs := on, pubs := (List.range 4).map (fun l => (c.line l).pubSeq) }
  takeOutputs ((List.range 4).foldl continueLine ((goPair c .primary).onPair (fun p => { p with swap := some w })))

/-! ### At a cycle boundary -/

/-- The link and the heartbeat at the boundary (R394, R397); a cycle without a MIRROR frame extrapolates the last one (R402). -/
def linkTurn (c : Chip) : Chip :=
  let c := if c.pair.gotMirror then
      let c := if c.pair.link then c else postLink (c.onPair (fun p => { p with link := true })) 1
      c.onPair (fun p => { p with linkMiss := 0, gotMirror := false })
    else takeLines (c.onPair (fun p => { p with linkMiss := p.linkMiss + 1 }))
  if !c.pair.heart && aliveAt c c.t0 then postLink (c.onPair (fun p => { p with heart := true })) 4 else c

/-- The reception bits of the past cycle's uplinks (04 R103): the absence run and presence evidence (R406), PAIR_PATH (R405). -/
def witnessTurn (c : Chip) : Chip :=
  let h := otherCh c
  let got := (List.range 24).filter (fun k => (c.node k).fresh)
  let seen := got.filter (fun k => mbit (c.node k).reception h || mbit (c.node k).reception (2 + h))
  let use := (List.range 24).filter (fun k => 0 < (c.port k).a && (if h = 0 then (c.port k).chA else (c.port k).chB))
  let many := decide (use.length < 2 * (got.filter use.contains).length)
  let c := if seen.isEmpty then c.onPair (fun p => { p with absence := if many then min 255 (p.absence + 1) else 0 })
    else
      let told := c.pair.presence || c.pair.st ≠ some .isolated
      let c := c.onPair (fun p => { p with absence := 0, presence := true })
      if told then c else
      post (c.onPair (fun p => { p with downlinks := false })) 6 0x0C07 0xFF 0xFF (le 1 seen.length)
  let own := 1 - h
  let c := (List.range 24).foldl (fun c k =>
    let n := if got.contains k && mbit c.pair.downPrev k && !mbit (c.node k).reception (2 + own) then vget c.pair.pathRun k + 1 else 0
    let c := c.onPair (fun p => { p with pathRun := vset p.pathRun k n })
    if n = 2 then post (countPair (c.onPair (fun p => { p with pathLatched := true })) 1) 6 0x0C04 (k + 1) 0xFF (le 1 own) else c) c
  c.onPair (fun p => { p with downPrev := p.downNow, downNow := 0 })

/-- A unit that joins a running partner (R397, R398): aligned by whole cycles, its channel brought up, state transfer awaited. -/
def join (c : Chip) : Chip :=
  let d := c.pair.ahead
  let n := ((c.cyc : Int) + d / c.period).toNat
  let c := (coldStart (movePlant d n c)).onStar (fun s => { s with coldEnd := none })
  (goPair c .silent).onPair (fun p => { p with transfer := true, stateIn := [], matched := 0, ahead := 0 })

/-- The pair state machine at a boundary (R397). -/
def pairStep (c : Chip) : Chip :=
  let p := c.pair
  let w := max 1 c.pairCfg.w
  let clear := !partnerShows c 2
  match p.st with
  | none => c
  | some .wait =>
    if p.alone then
      let c := c.onPair (fun p => { p with alone := false })
      if clear then loseOther (goPair (coldStart c) .primary) else c
    else if c.cfg.pair.isSome && p.link && p.digestsEq = some true then
      if partnerShows c 0 && c.pairCfg.identity = 1 then goPair (coldStart c) .primary
      else if partnerShows c 2 then join c
      else c
    else c
  | some .primary =>
    if partnerShows c 2 && c.pairCfg.identity = 2 then
      (goPair (c.onStar (fun s => { s with run := false, coldEnd := none })) .wait).onPair (fun p => { p with digestsEq := none })
    else if !p.heart || !p.link then
      -- a swap that has not begun cannot run without its partner
      loseOther (match p.swap with | some x => if x.stage = 0 then endSwap c .checkFail 0 0 else c | none => c)
    else
      let c := if p.partnerLost && p.partner = 2 then degradeGone (c.onPair (fun p => { p with partnerLost := false })) 0x0C01 0xFF else c
      match p.swap with
      | some x => if x.stage = 0 && x.cyc ≤ c.cyc then swapStart c x else c
      | none => c
  | some .standby =>
    match p.diverged with
    | some (n, m) =>
      let c := post (countPair (goPair c .silent) 0) 6 0x0C03 n 0xFF (zeros 4 ++ le 4 m)
      c.onPair (fun p => { p with transfer := true, stateIn := [], matched := 0 })
    | none =>
      let offered := partnerShows c 1 && p.link && !halted c && clear
      let back := match p.swap with | some x => x.stage = 3 | none => false
      if back && clear then takeOutputs ((goPair c .primary).onPair (fun p => { p with swap := none, keep := 0 }))
      else if offered && mbit p.pFlags 1 then takeToken c false false
      else if offered && mbit p.pFlags 2 && p.swap.isNone then swapTake c
      else if p.link then c
      else if p.heart then (goPair c .silent).onPair (fun p => { p with matched := 0 })
      else if w ≤ p.absence && clear then takeToken c false true
      else goPair c .isolated
  | some .silent =>
    if !p.link && !p.heart then goPair c .isolated
    else if 256 ≤ p.matched && p.link && p.heart && !halted c then goPair c .standby
    else c
  | some .isolated =>
    if p.heart || p.link then (goPair c .silent).onPair (fun p => { p with matched := 0 })
    else if w ≤ p.absence && clear then takeToken c (p.presence || p.isoSilent) true
    else c.onPair (fun q => { q with isoFor := q.isoFor + 1, downlinks := q.downlinks && decide (q.isoFor + 1 < w) })

/-- The pair at a cycle boundary, before the star closes the past cycle. -/
def pairBoundary (c : Chip) : Chip :=
  if c.pair.st.isNone then c else applyItems (pairStep (witnessTurn (linkTurn c)))

/-- The device enters FAULT_HALT in the token holder (R397): handed over to a partner in STANDBY without a halting fault. -/
def handover (c : Chip) : Chip :=
  if c.pair.st = some .primary && c.pair.partner = 2 && !mbit c.pair.pFlags 0 && c.pair.link && c.pair.heart then
    let c := if c.pair.swap.isSome then endSwap c .checkFail 0 0 else c
    (goPair c .silent).onPair (fun p => { p with handover := true, matched := 0 })
  else c

/-- Code shown on INTLK_A (R394): 0 WAIT, 1 STANDBY, 2 PRIMARY. -/
def shownCode (c : Chip) : Nat := match c.pair.st with | some .primary => 2 | some .wait => 0 | _ => 1

/-- At t0 the interlock pulse and the PAIR_SYNC frame leave (R394, R398, R400). -/
def pairStart (c : Chip) : Chip :=
  if c.pair.st.isNone then c else
  let k := shownCode c
  let f := closed (cellHeader 0x31 0 0xFF c.count c.count 48 (unitIdent c) ++ wide (c.t0 + c.ptOff) ++ le 1 c.cfg.sys.period
    ++ le 1 k ++ leI 4 (satI 32 c.pair.arrival) ++ zeros 12)
  ((c.emit 3 0 (le 2 (100 * 2 ^ k))).emit 2 0 f).emit 2 1 f

/-! ### Commands (R411, R412) -/

def bodyPairStatus (_ : Req) (c : Chip) : Reply :=
  if c.pair.st.isNone then refuse c .notPermitted else
  let p := c.pair
  answer c .ok (le 1 (pairCode p.st) ++ le 1 c.pairCfg.identity ++ le 1 p.partner
    ++ le 1 (bits [holdsToken c, p.heart, p.link, p.partnerLost, p.quiet, p.pathLatched])
    ++ le 1 (match p.pulse with | some (k, _) => k | none => 0xFF) ++ le 1 p.lanes ++ zeros 2 ++ le 4 p.matched
    ++ ((List.range 4).map (fun i => le 4 (vget p.cnt i))).flatten
    ++ le 4 (match p.swapAt with | some t => min ((c.now - t) / 1000000000) Config.cMax | none => Config.cMax)
    ++ leI 4 (satI 32 p.x) ++ leI 4 (satI 32 p.d) ++ le 1 p.absence ++ zeros 3)

def execPairGetStatus (q : Req) : State → Host.Outcome State Fault Refusal := host 0x0C01 48 layNone bodyPairStatus q

/-- PAIR_SWAP (R408, R412). -/
def bodyPairSwap (_ : Req) (c : Chip) : Reply :=
  let p := c.pair
  let bars := firstFail [
    (p.st.isNone, Status.notPermitted),
    (!holdsToken c, .notPermitted),
    (p.partner ≠ 2 || !p.heart || !p.link || p.matched < 1024 || p.pathLatched, .refusedState),
    ((List.range 8).any (fun o => (List.range 2).any (fun ch => (c.outPair ch o).st = .armed || (c.outPair ch o).st = .offSeq)), .refusedState),
    (!(c.sys.dev = .commissioning || c.sys.dev = .ready || c.sys.dev = .automatic || c.sys.dev = .degraded), .refusedState),
    (p.swap.isSome, .busy)]
  match bars with
  | some st => refuse c st
  | none =>
    let s := c.cyc + (if (c.cyc + 2) % Config.tickCycles c.cfg.sys.period = 0 then 3 else 2)
    answer (c.onPair (fun p => { p with swap := some { stage := 0, cyc := s } })) .queued (le 4 (s % 4294967296))

def execPairSwap (q : Req) : State → Host.Outcome State Fault Refusal := host 0x0C02 8 layNone bodyPairSwap q

/-- PAIR_SOLO (R397, R412): at the boundary. -/
def bodySolo (q : Req) (c : Chip) : Reply :=
  let bars := firstFail [
    (c.pair.st.isNone || c.cfg.pair.isNone, Status.notPermitted),
    (q.payload ≠ fit 8 c.pairCfg.partner, .badParam),
    (c.pair.st ≠ some .wait || decide (c.now < quietSince c + c.pairCfg.tPwait * 1000000), .refusedState)]
  match bars with
  | some st => refuse c st
  | none => answer (c.onPair (fun p => { p with alone := true })) .ok

def execPairSolo (q : Req) : State → Host.Outcome State Fault Refusal := host 0x0C03 4 (lay 8 fun _ => []) bodySolo q

/-- PAIR_CLEAR_COUNTERS (R412). -/
def bodyPairClear (_ : Req) (c : Chip) : Reply :=
  if c.pair.st.isNone then refuse c .notPermitted else
  answer (c.onPair (fun p => { p with cnt := Vector.replicate 4 0, pathLatched := false })) .ok

def execPairClearCounters (q : Req) : State → Host.Outcome State Fault Refusal := host 0x0C04 4 layNone bodyPairClear q

end Sys2Proof.Machine
end

