-- ==== Sys2Proof/Machine/Sterling.lean ====
section
/-!
DEFINITION. Self-test in service (chapter 14): slices, their conditions, starts and results; migrations of engines and tiles, planned
and for faults; the self-test commands.
-/

namespace Sys2Proof.Machine

open Sys2Proof

/-! ### Instances and figures (R413, R427) -/

/-- An analogue front end that the active image configures (R413). -/
def frontUsed (c : Chip) (i : Nat) : Bool :=
  if i < 4 then (List.range 4).any (fun l => ((c.lcfg l).source = 1 || (c.lcfg l).source = 2) && (c.lcfg l).input = i)
  else if i < 20 then (vget c.cfg.lines.latch (i - 4)).edge ≠ 0
  else decide (i < 22)

/-- A configured instance of a kind (R413). -/
def testable (c : Chip) (kind i : Nat) : Bool :=
  c.active && match kind with
    | 1 => decide (i < 18)
    | 2 => decide (i < 9)
    | 3 => decide (i < 8)
    | 4 => decide (i < 49)
    | 5 => decide (i < 48) && chUsed c (i % 24) (i / 24) && !(c.port (i % 24)).claim
    | 6 => frontUsed c i
    | 7 => i < 8 && mbit c.cfg.weigh i
    | _ => false

/-- The slices of a sweep, by kind and instance (R415). -/
def sweepList (c : Chip) : List (Nat × Nat) :=
  ((List.range 6).filter (mbit c.cfg.stest.kinds)).flatMap (fun k =>
    ((List.range 49).filter (testable c (k + 1))).map (fun i => (k + 1, i)))

/-- Figures of an instance. -/
def blockOf (c : Chip) (kind i : Nat) : BlockTest :=
  match c.ster.blocks.find? (fun b => b.1 = kind && b.2.1 = i) with | some b => b.2.2 | none => {}
def onBlock (c : Chip) (kind i : Nat) (f : BlockTest → BlockTest) : Chip :=
  let b := f (blockOf c kind i)
  c.onSter (fun s => { s with blocks := (kind, i, b) :: s.blocks.filter (fun x => !(x.1 = kind && x.2.1 = i)) })

/-- State of a block: 0 POOL, 1 IN_SERVICE, 2 UNDER_TEST, 3 FAILED (R427). -/
def blockSt (c : Chip) (kind i : Nat) : Nat :=
  match kind with
  | 1 => (vget c.loops.eng i).st.code
  | 2 => (c.tileOf i).st.code
  | 3 => (vget c.planner.core i).code
  | k =>
    if (blockOf c k i).st = 3 then 3
    else if c.ster.slices.any (fun s => s.kind = k && s.inst = i && s.start.isSome) then 2
    else if k = 4 && c.ster.spareBank = i then 0 else 1

/-- Its last result is PASS. -/
def passed (c : Chip) (kind i : Nat) : Bool := (blockOf c kind i).result = 1

def running' (c : Chip) : List Slice := c.ster.slices.filter (fun s => s.start.isSome)

/-- Added power of a kind, mW (R413). -/
def powerOf : Nat → Nat
  | 1 => 1100 | 2 => 1400 | 3 => 600 | 4 => 500 | 5 => 300 | 6 => 100 | _ => 0
def addedPower (c : Chip) : Nat := ((running' c).map (fun s => powerOf s.kind)).sum

/-! ### Sweeps and results (R415, R425, R426) -/

/-- A sweep begins at `t`. -/
def beginSweep (c : Chip) (t : Nat) : Chip :=
  c.onSter (fun s => { s with
    sweep := (s.sweep + 1) % 4294967296, begun := some t, nextAt := none, next := 0, passed := 0, failed := 0, skipped := 0,
    blocks := s.blocks.map (fun b => (b.1, b.2.1, { b.2.2 with done := false })) })

/-- Slices of the sweep that have a result. -/
def doneCount (c : Chip) : Nat := ((sweepList c).filter (fun x => (blockOf c x.1 x.2).done)).length

/-- The next sweep begins where its instant has come (R415). -/
def sweepTurn (c : Chip) : Chip :=
  match c.ster.nextAt with
  | some t => if t ≤ c.now then beginSweep c t else c
  | none => c

/-- The sweep ends when every slice has a result; the next begins at the later of its time and now (R415). -/
def sweepEnd (c : Chip) : Chip :=
  match c.ster.begun with
  | none => c
  | some t =>
    if c.ster.nextAt.isSome || doneCount c < (sweepList c).length then c else
    let s := c.ster
    let c := post c 6 0x0D02 0xFF 0xFF (le 4 s.sweep ++ le 2 (min s.passed 65535) ++ le 1 (min s.failed 255) ++ le 1 (min s.skipped 255))
    let next := t + c.cfg.stest.period * 1000000000
    let c := if next < c.now then c.onSter (fun s => { s with cnt := vmod s.cnt 1 inc }) else c
    sweepTurn (c.onSter (fun s => { s with nextAt := some (max next c.now) }))

/-- A result is recorded and reported: 1 PASS, 2 FAIL, 3 ABANDONED, 4 SKIPPED (R425-R427). -/
def recordSlice (c : Chip) (kind i result fail : Nat) (outOfTurn : Bool) : Chip :=
  let now := c.now
  let sw := c.ster.sweep
  let c := onBlock c kind i (fun b => { b with
    result := result, fail := fail, sweep := sw, done := true,
    passes := if result = 1 then inc b.passes else b.passes, fails := if result = 2 then inc b.fails else b.fails,
    abandons := if result = 3 then inc b.abandons else b.abandons, passAt := if result = 1 then some now else b.passAt })
  let c := c.onSter (fun s => { s with
    slices := s.slices.filter (fun x => !(x.kind = kind && x.inst = i)),
    passed := if result = 1 && kind ≠ 7 then s.passed + 1 else s.passed,
    failed := if result = 2 && kind ≠ 7 then s.failed + 1 else s.failed,
    skipped := if result = 4 then s.skipped + 1 else s.skipped,
    cnt := if result = 4 then vmod s.cnt 0 inc else if result = 3 then vmod s.cnt 3 inc else if result = 2 then vmod s.cnt 4 inc else s.cnt })
  let c := if result ≠ 1 || c.cfg.stest.reportPass || outOfTurn then
      post c 6 0x0D01 kind i (le 1 result ++ le 1 fail ++ le 1 (b2n outOfTurn) ++ zeros 1 ++ le 4 sw) else c
  if kind = 7 then c else sweepEnd c

/-- The slice of an instance ends without a test. -/
def abandon (c : Chip) (kind i : Nat) : Chip :=
  match c.ster.slices.find? (fun s => s.kind = kind && s.inst = i) with
  | some s => recordSlice c kind i 3 0 s.outOfTurn
  | none => c

/-! ### Conditions of a start (R415-R421) -/

/-- A pool engine with PASS, lowest first, where a further one remains (R416). -/
def migrationSpare (c : Chip) : Option Nat :=
  match (List.range 18).filter (fun e => (vget c.loops.eng e).st = .pool && passed c 1 e) with
  | p :: _ :: _ => some p
  | _ => none

/-- The lane's other channel is clean (R420): in a pair it is the partner's, covered by the uplinks (R421). -/
def laneFree (c : Chip) (i : Nat) : Bool :=
  let k := i % 24
  let o := 1 - i / 24
  let p := c.port k
  let half := c.count % 65536 < 32768
  let up := match c.pair.st with
    | none => (c.ch k o).st = .active
    | some _ => (match vget c.pair.pSeen k with | some t => decide (c.now < t + 64 * c.period) | none => false)
        && (half = decide (c.pairCfg.identity = 1))
  p.chA && p.chB && !p.claim && up && 1024 ≤ (vget c.ster.clean (24 * o + k)).1

/-- The conditions of a slice's kind. -/
def kindOk (c : Chip) (s : Slice) : Bool :=
  let i := s.inst
  match s.kind with
  | 1 => match (vget c.loops.eng i).st with
    | .inService => (match c.ster.copied with | some (e, p) => e = i && (vget c.loops.eng p).st = .pool && passed c 1 p | none => false)
    | .pool => true
    | .failed => s.outOfTurn
    | .underTest => false
  | 2 => match (c.tileOf i).st with
    | .inService => !(List.range 9).any (fun t => (c.tileOf t).fault)
        && (List.range 9).any (fun t => (c.tileOf t).st = .pool && passed c 2 t)
    | .pool => true
    | .failed => s.outOfTurn
    | .underTest => false
  | 3 => match vget c.planner.core i with
    | .inService => decide (3 ≤ coresIn c) && c.planner.level = 0
    | .pool => true
    | .failed => s.outOfTurn
    | .underTest => false
  | 4 =>
    if (blockOf c 4 i).st = 3 then s.outOfTurn
    else c.ster.spareBank = i || (passed c 4 c.ster.spareBank && (blockOf c 4 c.ster.spareBank).st ≠ 3)
  | 5 => if (blockOf c 5 i).st = 3 then s.outOfTurn else laneFree c i
  | 6 => (blockOf c 6 i).st ≠ 3 || s.outOfTurn
  | _ => false

/-- Kinds 1, 2, 4 and 5, of which one slice starts at a boundary. -/
def heavy (k : Nat) : Bool := k = 1 || k = 2 || k = 4 || k = 5

/-- A queued slice may start at this boundary (R415, R423); `taken`: a slice that bars it has started at it. -/
def mayStart (c : Chip) (s : Slice) (taken : Bool) : Bool :=
  let d := c.sys.dev
  (d = .configured || d = .commissioning || d = .ready || d = .automatic || d = .degraded) && !c.ster.suspended && kindOk c s
    && !(running' c).any (fun x => x.kind = s.kind) && !taken && !(heavy s.kind && c.pair.swap.isSome)
    && decide (addedPower c + powerOf s.kind ≤ 3000)

/-! ### Starts -/

/-- STEST_MIGRATE (R426). -/
def postMigrate (c : Chip) (e p : Nat) (isFault : Bool) : Chip :=
  post (c.onSter (fun s => { s with cnt := vmod s.cnt 2 inc })) 6 0x0D03 1 e (le 1 e ++ le 1 p ++ le 1 (b2n isFault) ++ zeros 1 ++ le 4 c.count)

/-- The block leaves its work and is UNDER_TEST (R416, R418-R420). -/
def startSlice (c : Chip) (s : Slice) : Chip :=
  let now := c.now
  let i := s.inst
  let c := c.onSter (fun t => { t with
    slices := t.slices.map (fun x => if x.kind = s.kind && x.inst = i then
      { x with start := some now, wasFailed := blockSt c s.kind i = 3 } else x) })
  match s.kind with
  | 1 => match (vget c.loops.eng i).st, c.ster.copied with
    | .inService, some (_, p) => postMigrate ((moveEngine c i p .underTest).onSter (fun t => { t with copied := none })) i p false
    | _, _ => onEng c i (fun g => { g with st := .underTest })
  | 2 => match (c.tileOf i).st, (List.range 9).find? (fun t => (c.tileOf t).st = .pool && passed c 2 t) with
    | .inService, some k =>
      let arms := (c.tileOf i).arms
      onTile (vacate c i .underTest) k (fun x => { x with st := .inService, arms := arms })
    | _, _ => onTile c i (fun x => { x with st := .underTest })
  | 3 => if vget c.planner.core i = .inService then coreOp i false c
    else c.onPlanner (fun p => { p with core := vset p.core i .underTest })
  | 5 =>
    let k := i % 24
    let h := i / 24
    (onCh c k h (fun x => { x with st := .down, next := none, linkUp := false, downFor := 0, echoAt := none })).onSter (fun t => { t with
      lane := some (k, h), excused := (k, h, now + 5000000 + 128 * c.period) :: t.excused })
  | _ => c

/-- Queued slices start in the order in which they wait. A slice of kind 1, 2, 4 or 5 starts alone at its boundary (R415): none follows
it, and it follows none. -/
def startSlices (c : Chip) : Chip :=
  ((c.ster.slices.filter (fun s => s.start.isNone)).foldl (fun (acc : Chip × List Nat) s =>
    if mayStart acc.1 s (acc.2.any heavy || (heavy s.kind && !acc.2.isEmpty)) then (startSlice acc.1 s, s.kind :: acc.2) else acc)
    (c, [])).1

/-! ### Fault migrations (05 R161, 07 R223, R417, R418) -/

/-- Where a faulty engine's axes go (R417): to the engine of its own planned migration, to a pool engine that no planned migration
needs, to any pool engine, or to one whose test is abandoned for it. -/
def faultSpare (c : Chip) (e : Nat) : Option Nat :=
  let own := match c.ster.copied with | some (x, p) => if x = e then some p else none | none => none
  let other := (List.range 18).find? (fun k => (vget c.loops.eng k).st = .pool && c.ster.copied.map (·.2) ≠ some k)
  (own.orElse (fun _ => other.orElse (fun _ => spareEngine c))).orElse (fun _ =>
    (List.range 18).find? (fun k => (vget c.loops.eng k).st = .underTest))

/-- Fault migrations due at a boundary: a spare takes the work (degrading), or there is none (halting); a planned migration yields
where it needs the same engine. -/
def migrations (c : Chip) : Chip :=
  (List.range 18).foldl (fun c e =>
    if !(vget c.loops.eng e).migrate then c else
    match faultSpare c e with
    | some s =>
      let c := if (vget c.loops.eng s).st = .underTest then abandon c 1 s else c
      let c := c.onSter (fun t => { t with copied := match t.copied with | some (x, p) => if x = e || p = s then none else some (x, p) | none => none })
      let c := postMigrate (moveEngine c e s .failed) e s true
      raiseFault (abandon c 1 e) 0x0501 false e
    | none => raiseFault (onEng c e (fun g => { g with migrate := false })) 0x0502 true e) c

/-- The class C jobs of a tile under the degraded placement, in image order (07 R223). -/
def degradedArms (c : Chip) (k : Nat) : List Nat :=
  let at' := fun (a : Nat) => match c.mcfg a with | some m => m.tileDegraded | none => none
  (((List.range 12).filter (fun a => (at' a).any (fun p => p.1 = k))).insertionSort (fun a b =>
    ((at' a).getD (0, 0)).2 ≤ ((at' b).getD (0, 0)).2))

/-- The image has a degraded placement that names only tiles in service beside tile `t`. -/
def placementHolds (c : Chip) (t : Nat) : Bool :=
  !c.solver.degraded && (List.range 12).any (fun a => (c.mcfg a).isSome) && (List.range 12).all (fun a => match c.mcfg a with
    | none => true
    | some m => match m.tileDegraded with
      | none => false
      | some p => p.1 ≠ t && (c.tileOf p.1).st = .inService)

/-- Tile faults due at a boundary (07 R223): the spare, else the tile under test, else the degraded placement. -/
def tileFaults (c : Chip) : Chip :=
  (List.range 9).foldl (fun c t =>
    if !(c.tileOf t).fault then c else
    let arms := (c.tileOf t).arms
    let free := ((List.range 9).find? (fun k => (c.tileOf k).st = .pool)).orElse (fun _ =>
      (List.range 9).find? (fun k => (c.tileOf k).st = .underTest))
    match free with
    | some k =>
      let c := if (c.tileOf k).st = .underTest then abandon c 2 k else c
      let c := onTile (vacate c t .failed) k (fun x => { x with st := .inService, arms := arms })
      raiseFault (post c 4 0x0605 0xFF t (le 1 0)) 0x0601 false t
    | none =>
      if placementHolds c t then
        let c := vacate c t .failed
        let c := c.onSolver (fun s => { s with
          degraded := true, tile := vmapIdx s.tile (fun k x => if x.st = .inService then { x with arms := degradedArms c k } else x) })
        raiseFault (post c 4 0x0605 0xFF t (le 1 1)) 0x0602 false t
      else
        raiseFault (post (onTile c t (fun x => { x with fault := false })) 4 0x0605 0xFF t (le 1 2)) 0x0603 true t) c

/-! ### At a boundary -/

/-- How long every lane has been clean (R420): no error counted, and every uplink of the node showed its cycle-start and its downlink. -/
def laneTurn (c : Chip) : Chip :=
  c.onSter (fun s => { s with
    clean := vmapIdx s.clean (fun i y =>
      let k := i % 24
      let h := i / 24
      let x := c.ch k h
      let sum := vget x.cnt 1 + vget x.cnt 2 + vget x.cnt 3 + vget x.cnt 4
      let n := c.node k
      let ok := sum = y.2 && (!n.fresh || (mbit n.reception h && mbit n.reception (2 + h)))
      (if ok then min 1024 (y.1 + 1) else 0, sum)),
    excused := s.excused.filter (fun e => c.now < e.2.2 && (c.ch e.1 e.2.1).st ≠ .active) })

/-- Kind 7: the self-checks that Constantan reports (R424). An abandoned check names no channel in the status: it counts for the
channel whose check was in progress. -/
def metroTurn (c : Chip) : Chip :=
  let m := c.mlink.copy
  let c := if m.abandon ≤ c.ster.metroAbandon then c else
    match (List.range 8).find? (fun k => testable c 7 k && (vget m.chan k).checking.isSome) with
    | some k => recordSlice c 7 k 3 0 false
    | none => c
  let c := c.onSter (fun s => { s with metroAbandon := m.abandon })
  (List.range 8).foldl (fun c k =>
    let w := vget m.chan k
    let b := blockOf c 7 k
    if !testable c 7 k then c
    else if w.chkFailed then (if b.result = 2 then c else recordSlice c 7 k 2 6 false)
    else match w.chkAt with
      | some t => if b.passAt.isNone || b.passAt.getD 0 < t then recordSlice c 7 k 1 0 false else c
      | none => c) c

/-- Twins that passed take over; the receiver replaced is FAILED (R422), a degrading fault (R425). -/
def twinTurn (c : Chip) : Chip :=
  let l := c.ster.swapTwin
  l.foldl (fun c i => raiseFault (onBlock c 6 i (fun b => { b with st := 3, fail := 5 })) 0x0D01 false i 6)
    (c.onSter (fun s => { s with swapTwin := [] }))

/-- Self-test at a cycle boundary; the lanes are judged before the star closes the past cycle. -/
def sterlingTurn (c : Chip) : Chip :=
  if !c.active then c else startSlices <| sweepTurn (tileFaults (migrations (metroTurn (twinTurn c)))) |>.onSter (fun s => { s with copied := none })

/-! ### Events of slices -/

/-- The next slice of the sweep falls due (R415): the first of the next sweep where this one has ended. -/
def sliceDueOp (c : Chip) : Chip :=
  let c := match c.ster.nextAt with | some t => sweepTurn (c.atTime t) | none => c
  match c.ster.begun with
  | none => c
  | some t =>
    let l := sweepList c
    match l[c.ster.next]? with
    | none => c
    | some (k, i) =>
      let c := c.atTime (t + c.ster.next * (c.cfg.stest.period * 1000000000) / l.length)
      let now := c.now
      let held := c.ster.slices.any (fun s => s.kind = k && s.inst = i) || (blockOf c k i).done
      c.onSter (fun s => { s with
        next := s.next + 1, slices := if held then s.slices else s.slices ++ [{ kind := k, inst := i, since := now }] })

def execSliceDue : State → Host.Outcome State Fault Refusal := run sliceDueOp

/-- The slice that has waited longest has waited a whole sweep period (R415). -/
def skipOp (c : Chip) : Chip :=
  match (c.ster.slices.filter (fun s => s.start.isNone)).insertionSort (fun a b => a.since ≤ b.since) with
  | [] => c
  | s :: _ => recordSlice (c.atTime (s.since + c.cfg.stest.period * 1000000000)) s.kind s.inst 4 0 s.outOfTurn

def execSliceSkipped : State → Host.Outcome State Fault Refusal := run skipOp

/-- After t_dl the copy of a planned migration (R416): of the in-service engine whose slice waits, to the lowest pool engine with PASS. -/
def copyOp (c : Chip) : Chip :=
  match c.ster.slices.find? (fun s => s.kind = 1 && s.start.isNone && (vget c.loops.eng s.inst).st = .inService), migrationSpare c with
  | some s, some p => (c.atOff (Config.tDl c.cfg.sys.period)).onSter (fun t => { t with copied := some (s.inst, p) })
  | _, _ => c

def execPlannedMigration : State → Host.Outcome State Fault Refusal := run copyOp

/-- A slice ends (R425): the block that passed is a spare or returns to work, one that failed is FAILED; the device degrades where a
spare or twin carries its work. -/
def sliceDoneOp (kind i res : Nat) (c : Chip) : Chip :=
  match c.ster.slices.find? (fun s => s.kind = kind && s.inst = i && s.start.isSome) with
  | none => c
  | some s =>
    if res = 7 then (if kind = 4 then recordSlice c 4 i 3 0 s.outOfTurn else c)
    else
      let bad := res ≠ 0 || s.wasFailed
      let c := match kind with
        | 1 => onEng c i (fun g => { g with st := if bad then .failed else .pool })
        | 2 => onTile c i (fun x => { x with st := if bad then .failed else .pool })
        | 3 =>
          let c := c.onPlanner (fun p => { p with core := vset p.core i (if bad then .failed else .inService) })
          if bad then c else degradeGone c 0x0701 i
        | 4 => (onBlock c 4 i (fun b => { b with st := if bad then 3 else 1 })).onSter (fun t => { t with spareBank := i })
        | 6 =>
          let c := onBlock c 6 i (fun b => { b with st := if bad then 3 else 1 })
          if s.mismatch && !bad then c.onSter (fun t => { t with swapTwin := t.swapTwin ++ [i] }) else c
        | k => onBlock c k i (fun b => { b with st := if bad then 3 else 1 })
      let c := if res ≠ 0 && !s.wasFailed && kind ≠ 5 then raiseFault c 0x0D01 false i kind else c
      recordSlice c kind i (if res = 0 then 1 else 2) res s.outOfTurn

def execSliceDone (kind inst res : Nat) : State → Host.Outcome State Fault Refusal := run (sliceDoneOp kind inst res)

/-- The 2 ms of a lane hold end (R420): the lane is released and rejoins from DOWN. -/
def execLaneHoldEnd : State → Host.Outcome State Fault Refusal :=
  run fun c => if c.ster.lane.isSome then c.onSter (fun s => { s with lane := none }) else c

/-- A persistent disagreement of a receiver and its twin runs the twin's slice at once (R422). -/
def mismatchOp (kind i : Nat) (c : Chip) : Chip :=
  if kind ≠ 6 || !testable c 6 i || (blockOf c 6 i).st = 3 then c else
  let now := c.now
  c.onSter (fun s => { s with
    slices := if s.slices.any (fun x => x.kind = 6 && x.inst = i) then
        s.slices.map (fun x => if x.kind = 6 && x.inst = i then { x with mismatch := true, start := some (x.start.getD now) } else x)
      else s.slices ++ [{ kind := 6, inst := i, since := now, start := some now, mismatch := true }] })

def execRxMismatch (kind inst : Nat) : State → Host.Outcome State Fault Refusal := run (mismatchOp kind inst)

/-! ### Commands (R427, R428) -/

def bodyStestStatus (_ : Req) (c : Chip) : Reply :=
  let s := c.ster
  answer c .ok (le 1 (b2n s.suspended) ++ le 1 (running' c).length ++ le 2 (addedPower c) ++ le 4 s.sweep
    ++ le 4 (match s.begun with | some t => (c.now - t) / 1000000000 | none => 0) ++ le 2 (sweepList c).length ++ le 2 (doneCount c)
    ++ ((List.range 5).map (fun i => le 4 (vget s.cnt i))).flatten)

def execStestGetStatus (q : Req) : State → Host.Outcome State Fault Refusal := host 0x0D01 40 layNone bodyStestStatus q

def bodyStestBlock (q : Req) (c : Chip) : Reply :=
  let k := byteN q.payload 0
  let i := byteN q.payload 1
  if !testable c k i then refuse c .badParam else
  let b := blockOf c k i
  answer c .ok (le 1 (blockSt c k i) ++ le 1 b.result ++ le 1 b.fail ++ zeros 1 ++ le 4 b.passes ++ le 4 b.fails ++ le 4 b.abandons
    ++ le 4 (match b.passAt with | some t => min ((c.now - t) / 1000000000) Config.cMax | none => Config.cMax) ++ le 4 b.sweep)

def execStestGetBlock (q : Req) : State → Host.Outcome State Fault Refusal :=
  host 0x0D02 28 (lay 2 fun b => [1 ≤ byteN b 0 && byteN b 0 ≤ 7]) bodyStestBlock q

/-- STEST_RUN: OK when the slice can start at the next boundary, else QUEUED (R428); its report is STEST_RESULT. -/
def bodyStestRun (q : Req) (c : Chip) : Reply :=
  let k := byteN q.payload 0
  let i := byteN q.payload 1
  let s : Slice := { kind := k, inst := i, since := c.now, outOfTurn := true }
  let bars := firstFail [
    (!testable c k i, Status.badParam),
    (c.sys.dev = .faultHalt || c.ster.suspended, .refusedState),
    (c.ster.slices.any (fun x => x.kind = k), .busy)]
  match bars with
  | some st => refuse c st
  | none =>
    -- the copy of a planned migration is still to be made in this cycle
    let soon := if k = 1 && c.now < c.t0 + Config.tDl c.cfg.sys.period && c.ster.copied.isNone then
        c.onSter (fun t => { t with copied := (migrationSpare c).map (fun p => (i, p)) }) else c
    let now := mayStart soon s false
    answer (c.onSter (fun t => { t with slices := s :: t.slices })) (if now then .ok else .queued)
      (le 4 (if now then (c.count + 1) % 4294967296 else 0xFFFFFFFF))

def execStestRun (q : Req) : State → Host.Outcome State Fault Refusal :=
  host 0x0D03 8 (lay 2 fun b => [1 ≤ byteN b 0 && byteN b 0 ≤ 6]) bodyStestRun q

def bodyStestSuspend (q : Req) (c : Chip) : Reply := answer (c.onSter (fun s => { s with suspended := byteN q.payload 0 = 1 })) .ok

def execStestSuspend (q : Req) : State → Host.Outcome State Fault Refusal :=
  host 0x0D04 4 (lay 1 fun b => [bLe b 0 1]) bodyStestSuspend q

/-- STEST_CLEAR_COUNTERS. -/
def bodyStestClear (_ : Req) (c : Chip) : Reply := answer (c.onSter (fun s => { s with cnt := Vector.replicate 5 0 })) .ok

def execStestClearCounters (q : Req) : State → Host.Outcome State Fault Refusal := host 0x0D05 4 layNone bodyStestClear q

end Sys2Proof.Machine
end

