-- ==== Sys2Proof/Machine/Verify.lean ====
section
/-!
DEFINITION. The verifier of loop programs (05 R163). A program has no branches, so one run over unknown data passes every bundle; the
run keeps which registers hold unknown data, and so every address that a rule bounds is a known one or refused (log 70).
-/

namespace Sys2Proof.Machine

open Sys2Proof

/-- The bytes of a program's code: syllable 0 of each bundle at the lower address (05 R141). -/
def codeBytes (code : List (BitVec 32 × BitVec 32)) : Bytes := (code.map (fun s => le 4 s.1.toNat ++ le 4 s.2.toNat)).flatten

/-- A run of the verifier: the program over memory of zeros, which registers hold unknown data, the words of the state half read and
written, and whether everything held so far. -/
structure VRun where
  u : Cpu
  unknown : List Nat := []
  reads : List Nat := []
  writes : List Nat := []
  ok : Bool := true

/-- Bytes that a program may access from `a` on, by its header's sizes (05 R162, R163.6). -/
def sizedAccess (p : Program) (u : Cpu) (store : Bool) (a : Nat) : Bool :=
  (!store && (inBlock a (inpAt u) 64 || inBlock a (spAt u) 64 || inBlock a (coefAt u) p.coefBytes))
    || inBlock a (outAt u) 64 || inBlock a (rdAt u) p.stateBytes || inBlock a (wrAt u) p.stateBytes
    || inBlock a scratchAt p.scratch

/-- The words a MEM syllable accesses (05 R149). -/
def accesses (w : Nat) (u : Cpu) : List Nat :=
  let b : Int := (vget u.r.sr (fld w 17 14)).toNat
  let addr := ((if mbit w 25 then b else b + sbits 14 (fld w 13 0) * 4) % 4294967296).toNat
  (List.range (if 2 ≤ fld w 27 26 then 4 else 1)).map (fun i => addr + 4 * i)

/-- Registers that hold unknown data after a bundle: results of loads and of EXT and NORM, and what is computed from unknown data. A
post-increment keeps its base known. -/
def spread (unknown : List Nat) (rotb w : Nat) : List Nat :=
  let x := uses rotb w
  let cls := fld w 31 28
  let ws := x.wr.map (·.1)
  if cls = 8 then unknown ++ (x.wr.filter (fun y => y.2 = 3)).map (·.1)
  else if cls = 3 || cls = 4 || x.rd.any (fun i => unknown.contains i) then unknown ++ ws
  else unknown.filter (fun i => !ws.contains i)

/-- Condition 3 (R142): the syllables write no register in common; condition 5: S0-S7 are written by post-increment alone; condition 4:
a loop body ends before COMMIT and within its outer body. -/
def bundleOk (p : Program) (u : Cpu) (w0 w1 : Nat) : Bool :=
  let x0 := uses u.r.rotb w0
  let x1 := uses u.r.rotb w1
  let ws := (x0.wr ++ x1.wr).map (·.1)
  let plain := x0.wr.map (·.1) ++ (x1.wr.filter (fun y => y.2 = 3)).map (·.1)
  let body := u.pc + fld w0 11 0
  ws.dedup.length = ws.length && plain.all (fun i => i < 64 || 72 ≤ i)
    && (fld w0 31 24 ≠ 1 || (decide (body + 1 < p.code.length)
      && (match u.r.loops with | (_, stop, _, _) :: _ => decide (body ≤ stop) | [] => true)))

/-- Condition 6 of a MEM syllable: its base is known, each word lies within its block, and the words of the state halves are noted. -/
def accessStep (p : Program) (w : Nat) (v : VRun) : VRun :=
  if fld w 31 28 ≠ 8 then v else
  let store := fld w 27 26 % 2 = 1
  let l := accesses w v.u
  let half := fun (base : Nat) => (l.filter (fun a => inBlock a base 2048)).map (fun a => a - base)
  { v with
    ok := v.ok && !v.unknown.contains (64 + fld w 17 14) && l.all (fun a => a % 4 = 0 && sizedAccess p v.u store a),
    reads := if store then v.reads else v.reads ++ half (rdAt v.u),
    writes := if store then v.writes ++ half (wrAt v.u) else v.writes }

/-- One bundle of the verifier's run. A reserved encoding or an access outside the blocks stops it with another cause than COMMIT. -/
def verifyStep (p : Program) (v : VRun) : VRun :=
  match p.code[v.u.pc]? with
  | none => { v with ok := false }
  | some (w0, w1) =>
    let a := w0.toNat
    let b := w1.toNat
    let rotb := v.u.r.rotb
    let v := accessStep p b { v with ok := v.ok && bundleOk p v.u a b }
    { v with u := bundle p.code v.u, unknown := (spread (spread v.unknown rotb a) rotb b).dedup }

/-- The run until the program stops, at most `fuel` bundles. -/
def verifyRun (p : Program) : Nat → VRun → VRun
  | 0, v => v
  | n + 1, v => if v.u.stop ≠ 0 || !v.ok then v else verifyRun p n (verifyStep p v)

/-- Condition 4: COMMIT once, as the last bundle. -/
def commitLast (code : List (BitVec 32 × BitVec 32)) : Bool :=
  let at' := (List.range code.length).filter (fun i => (code.getD i (0, 0)).1.toNat >>> 24 = 3)
  at' = [code.length - 1]

/-- Conditions 2 to 7 of R163, on the header's sizes. -/
def codeOk (p : Program) : Bool :=
  let u : Cpu := { q15 := p.q15, inp := zeros 64, sp := zeros 64, outb := zeros 64, rd := zeros 2048, wr := zeros 2048, coef := zeros 4096 }
  let v := verifyRun p (p.wcet + 1) { u := { u with r := dispatchRegs u 0 } }
  commitLast p.code && v.ok && v.u.stop = 1 && v.u.r.loops.isEmpty && v.u.tm.cycle = p.wcet
    && v.reads.all (fun a => v.writes.contains a)

/-- All conditions of R163; `others`: the most bundles that other programs take in an engine that runs it. -/
def programOk (p : Program) (others : Nat) : Bool :=
  fit 32 p.digest = shake256 (codeBytes p.code) 32 && decide (others + p.code.length ≤ 16384) && codeOk p

end Sys2Proof.Machine
end

