-- ==== Sys2Proof/Machine/Activate.lean ====
section
/-!
DEFINITION. Activation of a configuration image (17 R477, R478): its checks, the fallback of its sections, and what the module takes
from it at the entry to CONFIGURED.
-/

namespace Sys2Proof.Machine

open Sys2Proof

/-! ### The slot table (04 R109) and the ratings (00 R3) -/

/-- Slot entries that name node `n`. -/
def slotsNaming (t : SlotTable) (n : Nat) : Nat := (t.slots.filter (fun s => s.1 = n)).length

/-- The slot of a node in the order of an engine (05 R134): its own, or the highest CLAIMABLE one. -/
def orderSlot (t : SlotTable) (n : Nat) : Nat :=
  match t.slots.findIdx? (fun s => s.1 = n) with
  | some i => i
  | none => ((List.range t.slots.length).filter (fun i => (t.slots.getD i (0, false)).2)).getLastD 0

/-- Checks 2 and 3 of R109 for the port of node `n`. -/
def portOk (t : SlotTable) (n : Nat) : Bool :=
  let p := vget t.port (n - 1)
  let s := b2n p.pdu
  slotsNaming t n = (if 0 < p.a && !p.claim then 1 else 0) && p.a ≤ 8 && p.h ≤ 4 && p.dMax ≤ 500 && p.tPrep ≤ 10000
    && 32 + 16 * p.a + 32 * s + 64 * p.kUp ≤ 256 && 36 + 8 * p.a + 32 * s + 64 * p.kDn ≤ 256

/-- Check 4 of R109 for slot `i`. -/
def slotTime (t : SlotTable) (i : Nat) : Bool :=
  let e := t.slots.getD i (0, false)
  let fits := fun (n : Nat) => let p := vget t.port (n - 1); decide (p.tPrep + p.dMax ≤ 250 + 250 * i)
  e.1 ≤ 24 && (e.1 = 0 || fits e.1)
    && (!e.2 || (e.1 = 0 && (List.range 24).all (fun k => !(vget t.port k).claim || fits (k + 1))))

/-- A node that the table configures: a used port that is no CLAIM_PORT. -/
def tableNode (t : SlotTable) (n : Nat) : Bool := 1 ≤ n && n ≤ 24 && 0 < (vget t.port (n - 1)).a && !(vget t.port (n - 1)).claim

/-- Check 5 of R109 for a forward entry: source, egress node, egress slot, channel mask. -/
def forwardOk (t : SlotTable) (f : Nat × Nat × Nat × Nat) : Bool :=
  let p := vget t.port (f.2.1 - 1)
  tableNode t f.1 && tableNode t f.2.1 && f.1 ≠ f.2.1 && orderSlot t f.1 + 2 ≤ f.2.2.1 && f.2.2.1 + 1 ≤ t.slots.length
    && (!mbit f.2.2.2 0 || p.chA) && (!mbit f.2.2.2 1 || p.chB)

/-- A slot table is valid (04 R109). -/
def tableOk (period : Nat) (t : SlotTable) : Bool :=
  t.version = 1 && t.period = period && period < 4 && t.slots.length = Config.slotsOf period
    && ((List.range 24).map (fun k => (vget t.port k).a)).sum ≤ Config.nJoints + Config.nAux
    && (List.range 24).all (fun k => portOk t (k + 1)) && (List.range t.slots.length).all (slotTime t)
    && t.fwd.length ≤ 64 && t.fwd.all (forwardOk t)
    && t.fwd.all (fun f => (t.fwd.filter (fun g => g.2.1 = f.2.1 && g.2.2.1 = f.2.2.1 && g.2.2.2 &&& f.2.2.2 ≠ 0)).length ≤ 1)
    && t.claims.length ≤ 8 && t.claims.all (fun e => 1 ≤ e.1 && e.1 ≤ 24 && (vget t.port (e.1 - 1)).claim
      && (vget t.port (e.1 - 1)).a = e.2.1)

/-- Arms, joints, auxiliary axes and nodes lie within R3 (01 R23 bit 4). -/
def axesWithin (g : Image) : Bool :=
  let arms := (List.range 12).filterMap (fun a => vget g.arm a)
  let joints := arms.flatMap (·.axes)
  arms.all (fun o => o.axes.length ≤ 12) && joints.all (· < 96) && joints.dedup.length = joints.length
    && (List.range 32).all (fun n => match vget g.aux n with | some o => o.axes = [96 + n] | none => true)
    && (List.range 128).all (fun a => match vget g.axis a with
      | some x => 1 ≤ x.node && x.node ≤ 24 && decide (x.pos < 8)
      | none => true)
    && (List.range 24).all (fun k => (vget g.slot.port k).a ≤ 8)

/-! ### Section fallback (17 R477, 11 R356, 05 R163, 07 R205) -/

/-- An axis whose program failed runs the standard law with factory defaults (05 R163). -/
def standardLaw (a : Nat) (ids : List Nat) (x : AxisCfg) : AxisCfg :=
  if ids.contains x.normal || ids.contains x.q15 then
    let n := if a < 96 then 0x00010010 else 0x00010030
    let q := if a < 96 then 0x00010020 else 0x00010031
    let b := (Config.factoryCoef n).take 2048
    let b := fit 2048 b ++ fit 2048 (Config.factoryCoef q)
    { x with normal := n, q15 := q, bankA := b, bankB := b }
  else x

/-- The safety configuration on its defaults (11 R356). -/
def safetyOff (g : Image) : Image := { g with sep := {}, sio := {} }

/-- The section numbered `s` falls back: type in bits 15:8, instance in bits 7:0 (17 R475). -/
def fallBack (g : Image) (s : Nat) : Image :=
  let i := s % 256
  match s / 256 with
  | 0x01 => { g with sys := {} }
  | 0x02 => { g with lines := {} }
  | 0x03 => { g with ptime := {} }
  | 0x04 => { g with slot := { period := g.sys.period } }
  | 0x05 =>
    let ids := (g.programs.filter (fun p => p.inst = i)).map (·.identity)
    { g with
      programs := g.programs.filter (fun p => p.inst ≠ i), axis := vmapIdx g.axis (fun a x => x.map (standardLaw a ids)) }
  | 0x06 =>
    let own := if i < 12 then vget g.arm i else if 0x40 ≤ i then vget g.aux (i - 0x40) else none
    let gone := match own with | some o => o.axes | none => []
    { g with
      axis := vmapIdx g.axis (fun a x => if gone.contains a then none else x),
      arm := if i < 12 then vset g.arm i none else g.arm,
      aux := if 0x40 ≤ i then vset g.aux (i - 0x40) none else g.aux }
  | 0x07 => { g with model := vset g.model i (some (failedModel (match vget g.arm i with | some o => o.axes | none => []))) }
  | 0x08 | 0x09 => { g with plan := none, zones := [] }
  | 0x0A => { g with stepTab := Vector.replicate 4 none }
  | 0x0B => { g with weigh := 0 }
  | 0x0C => { g with pair := none }
  | 0x0D => { g with stest := {} }
  | t => if 0x80 ≤ t && t ≤ 0x87 then safetyOff g else g

/-! ### The image read from its slot (17 R475-R478) -/

/-- Records of one width that fill a body, each put into `x`. -/
def readAll {α β : Type} (w : Nat) (f : Bytes → Option β) (put : α → β → α) (b : Bytes) (x : α) : Option α :=
  let l := records b 0 w (b.length / w) f
  if b.length % w = 0 && l.all (·.isSome) then some ((l.filterMap id).foldl put x) else none

/-- Joints of arm `a`, in model order where its model was read. -/
def armAxes (g : Image) (a : Nat) : List Nat := match vget g.arm a with | some o => o.axes | none => []

/-- The axes of section 0x06 instance `i`: joints of arm `i`, or the one auxiliary axis. -/
def readAxes (g : Image) (i : Nat) (b : Bytes) : Option Image :=
  (Config.axisSection i b).bind (fun r =>
    let (o, l) := r
    let nums := l.map (·.1)
    let g' := { g with axis := l.foldl (fun v (e : Nat × AxisCfg) => vset v e.1 (some e.2)) g.axis }
    if i < 12 && nums.all (· < 96) then some { g' with arm := vset g.arm i (some { o with axes := nums }) }
    else if 0x40 ≤ i && i < 0x60 && nums = [96 + (i - 0x40)] then
      some { g' with aux := vset g.aux (i - 0x40) (some { o with axes := nums }) }
    else none)

/-- The model of arm `i` (07 R201-R205): its order is the order of the arm's joints from then on. -/
def takeModel (g : Image) (i : Nat) (b : Bytes) : Option Image :=
  (readModel i (armAxes g i) b).map (fun m =>
    { g with
      model := vset g.model i (some m), arm := vmod g.arm i (fun o => o.map (fun o => { o with axes := m.joints.map (·.joint) })) })

/-- The section at directory entry `e`, read into `g` (17 R477); none: its check word or its body fails. -/
def readSection (s : CfgSlot) (g : Image) (e : DirEntry) : Option Image :=
  let b := s.body e
  let i := e.num % 256
  let sep := fun (r : Option SepCfg) => r.map (fun x => { g with sep := x })
  if !s.checked e then none else
  match e.num / 256 with
  | 0x01 => (Config.systemSection b).map (fun x => { g with sys := x.1, classC := x.2 })
  | 0x02 => (Config.lineSection b).map (fun x => { g with lines := x })
  | 0x03 => (Config.timeSection b).map (fun x => { g with ptime := x })
  | 0x04 => (readSlots b).map (fun x => { g with slot := x })
  | 0x05 => (readProgram i b).map (fun x => { g with programs := g.programs ++ [x] })
  | 0x06 => readAxes g i b
  | 0x07 => takeModel g i b
  | 0x08 => (readPlanner b).map (fun x => { g with plan := some x })
  | 0x09 => (readZones b).map (fun x => { g with zones := x })
  | 0x0A => (Config.stepperSection b).map (fun x => { g with stepTab := x })
  | 0x0B => (Config.weighSection b).map (fun x => { g with weigh := x })
  | 0x0C => (readPair b).map (fun x => { g with pair := some x })
  | 0x0D => (readStest b).map (fun x => { g with stest := x })
  | 0x80 => sep (readSepGlobal b g.sep)
  | 0x81 => sep (readAll 80 readSensor (fun x e => { x with sensor := vset x.sensor e.1 (some e.2) }) b g.sep)
  | 0x82 => sep (readAll 800 readSepArm (fun x e => { x with arm := vset x.arm e.1 (some e.2) }) b g.sep)
  | 0x83 => sep ((readTables b.length b).map (fun l => { g.sep with tables := g.sep.tables ++ l }))
  | 0x84 => sep ((readCaps b).map (fun l => { g.sep with caps := l }))
  | 0x85 => sep ((readLimits b).map (fun l => { g.sep with limits := l }))
  | 0x86 => (readSio b g.sio).map (fun x => { g with sio := x })
  | 0x87 => (Config.connSection b).map (fun x => { g with sio := { g.sio with aLink := x.1, conns := x.2.1, pub := x.2.2 } })
  | _ => none

/-- All sections in directory order: the image they give, and the entries that fail with their positions. -/
def readImage (s : CfgSlot) : Image × List (DirEntry × Nat) :=
  (s.dir.zipIdx).foldl (fun r e => match readSection s r.1 e.1 with
    | some g => (g, r.2)
    | none => (r.1, r.2 ++ [e]))
    ({ generation := s.generation, glopo := verAt s.data 20, scv := s.scv }, [])

/-- Programs that the axes of engine `e` run, and the bundles of a program. -/
def enginePrograms (g : Image) (e : Nat) : List Nat :=
  (((g.axis.toList.filterMap id).filter (·.engine = e)).flatMap (fun x => [x.normal, x.q15])).dedup
def bundlesOf (g : Image) (id : Nat) : Nat :=
  match g.programs.find? (·.identity = id) with | some p => p.code.length | none => (Config.builtinFacts id).1

/-- The most bundles that other programs take in an engine that runs `p` (05 R163.1). -/
def otherBundles (g : Image) (p : Program) : Nat :=
  (((List.range 18).map (enginePrograms g)).filter (·.contains p.identity)).foldl
    (fun n l => max n ((l.filter (· ≠ p.identity)).map (bundlesOf g)).sum) 0

/-- Internal validation of a section that was read (04 R109, 05 R163, 10 R310). -/
def sectionSound (g : Image) (e : DirEntry) : Bool :=
  match e.num / 256 with
  | 0x04 => tableOk g.sys.period g.slot
  | 0x05 => g.programs.all (fun p => p.inst ≠ e.num % 256 || programOk p (otherBundles g p))
  | 0x82 => distancesOk g.sep (Config.periodNs g.sys.period)
  | _ => true

/-- The tiles of the arms' class C jobs, from the schedule (07 R207, R223). -/
def withTiles (g : Image) : Image :=
  { g with
    model := vmapIdx g.model (fun a m => m.map (fun m =>
      match g.classC.zipIdx.find? (fun e => e.1.1 = a) with
      | some ((_, t, d), k) => { m with tile := t, place := k, tileDegraded := d.map (fun t => (t, k)) }
      | none => m)) }

/-- What steps 5 and 6 of R478 make of an image that passed steps 1-4: the sections that fall back with their directory positions, in
directory order, whether the safety defaults hold, and the image in force. -/
def judgedImage (s : CfgSlot) : List (Nat × Nat) × Bool × Image :=
  let (g, unread) := readImage s
  let crcBad := s.scvComputed ≠ s.scv
  let fails := (s.dir.zipIdx).filter (fun e =>
    unread.contains e || !sectionSound g e.1 || (crcBad && 0x80 ≤ e.1.num / 256))
  let bad := crcBad || fails.any (fun e => 0x80 ≤ e.1.num / 256)
  let g := withTiles ((fails.map (·.1.num)).foldl fallBack g)
  (fails.map (fun e => (e.1.num, e.2)), bad, if bad then safetyOff g else g)

/-! ### What the module takes from its image -/

/-- Lines, latches (02 R35, R64). -/
def takeLinesCfg (c : Chip) : Chip :=
  let g := c.cfg.lines
  let c := c.onLt (fun t => { t with
    line := vmapIdx t.line (fun l n =>
      let k := vget g.line l
      let n : Line := { n with
        source := k.source, input := k.input, num := k.num, den := k.den, offset := k.offset, pubMask := k.pubMask,
        pubE := k.pubE, pubId := k.plantId }
      if k.source = 0 then n else startLine c n),
    latch := Vector.ofFn (fun i : Fin 16 =>
      let k := vget g.latch i
      ({ edge := k.edge, gated := k.gated, filter := k.filter, line := k.line } : Latch)) })
  c.onMb (fun m => { m with lineEvtDrop := 0, ttrigDrop := 0 })

/-- Plant ports and clock data (03 R72, R74). -/
def takePtimeCfg (c : Chip) : Chip :=
  let g := c.cfg.ptime
  c.onPt (fun p => { p with
    utcOffset := g.utcOffset, utcValid := g.utcValid, gmId := g.clockId, wasTraceable := false, txLost := Vector.replicate 6 0,
    corrHist := [(c.now, p.corr)],
    ports := vmapIdx p.ports (fun i x => if i < 4 then
      { x with profile := vget g.profile i, domain := g.domain, slaveOnly := g.slaveOnly } else x) })

/-- Node slots of the table (04 R108). -/
def takeSlots (c : Chip) : Chip :=
  let t := c.cfg.slot
  c.onStar (fun s => { s with
    node := vmapIdx s.node (fun k n => { n with slot := t.slots.findIdx? (fun e => e.1 = k + 1) }) })

/-- The axes of an engine in their fixed order (05 R134). -/
def engineAxes (g : Image) (e : Nat) : List Nat :=
  let key := fun (a : Nat) => match vget g.axis a with
    | some x => (orderSlot g.slot x.node * 32 + x.node) * 16 + x.pos
    | none => 0
  ((List.range 128).filter (fun a => match vget g.axis a with | some x => x.engine = e | none => false)).insertionSort
    (fun a b => key a ≤ key b)

/-- The worst case of an engine in ns (05 R157), formed in sixths of a ns. -/
def engineWorst (c : Chip) (l : List Nat) : Nat :=
  let t := l.foldl (fun t a =>
    match vget c.cfg.axis a with
    | none => t
    | some x =>
      let w := fun (id : Nat) => match findProgram c id with | some p => p.wcet | none => 0
      let arrive := Config.slotStart (orderSlot c.cfg.slot x.node) + (if c.cfg.pair.isSome then 400 else 320)
      max t (6 * arrive) + 5 * (24 + max (w x.normal) (w x.q15))) 0
  (quot 7 t 6).toNat

/-- Engines and axes (05 R133, 06 R174, R180). -/
def takeEngines (c : Chip) : Chip :=
  c.onLoops (fun l => { l with
    eng := vmapIdx l.eng (fun e g =>
      let ax := engineAxes c.cfg e
      { g with axes := ax, worst := engineWorst c ax, st := if ax.isEmpty then g.st else .inService }),
    ax := vmapIdx l.ax (fun a x => match vget c.cfg.axis a with
      | some g => { x with bankA := g.bankA, bankB := g.bankB }
      | none => x) })

/-- Supervision and limit records (06 R181-R183; 09 R262, R288). The frozen threshold's default is 1 % of v_max (06 R183). -/
def takeLimits (c : Chip) : Chip :=
  let T := c.period
  let c := c.onJoints (fun j => { j with
    sup := vmapIdx j.sup (fun a s => match vget c.cfg.axis a with
      | some g => { s with
          bridge := g.bridge, timer := g.timer, limit := g.limit, warn := g.warn, frozenMs := g.frozenMs, resLimit := g.resLimit,
          resMs := g.resMs,
          frozenThr := if g.frozenThr = 0 then (quot 8 ((g.vMax * T : Nat) : Int) (100000 * 65536)).toNat else g.frozenThr }
      | none => s) })
  c.onProf (fun p => { p with
    ax := vmapIdx p.ax (fun a x => match vget c.cfg.axis a with
      | some g => { x with lim := {
          vMax := g.vMax, aMax := g.aMax, dMax := g.dMax, dStop := g.dStop, jMax := g.jMax, posMin := g.posMin, posMax := g.posMax,
          lagLim := g.lagLim } }
      | none => x),
    tab := Vector.ofFn (fun i : Fin 4 => (vget c.cfg.stepTab i).getD factoryTable) })

/-- The class C jobs of a tile, in image order (07 R207). -/
def tileArms (g : Image) (t : Nat) : List Nat :=
  ((List.range 12).filter (fun a => match vget g.model a with | some m => m.tile = t | none => false)).insertionSort (fun a b =>
    (match vget g.model a with | some m => m.place | none => 0) ≤ (match vget g.model b with | some m => m.place | none => 0))

/-- Tiles and arms of the solver (07 R196, R203, R207, R217, R221): the tiles that the image gives class C jobs are in service, at most
eight. Which tile and engine works for which arm and axis is the image's, and moves only at a boundary (01 R25: `migrations`,
`tileFaults`, `startSlice`). -/
def takeModels (c : Chip) : Chip :=
  let used := ((List.range 9).filter (fun t => !(tileArms c.cfg t).isEmpty)).take 8
  c.onSolver (fun s => { s with
    tile := vmapIdx s.tile (fun t x =>
      if used.contains t then { x with arms := tileArms c.cfg t, st := .inService } else { x with arms := [] }),
    arm := vmapIdx s.arm (fun a x => match vget c.cfg.model a with
      | some m =>
        let mask := presentMask c m
        { x with tool := m.tool, payload := 0, payPos := (0, 0, 0), present := mask, signature := signatureOf m mask }
      | none => x) })

/-- Safe I/O and connections (11 R335, R341, R352): the pairs start anew, with no off-time (01 R31); a button found pressed counts as
pressed from now (11 R343). -/
def takeSafety (c : Chip) (scv : Nat) : Chip :=
  let g := c.cfg.sio
  let fresh := fun (h : SioChan) => { h with
    inp := vmapIdx h.inp (fun p _ => { st := if (vget g.inp p).startTest then .untested else .demand }),
    out := vmapIdx h.out (fun _ x => { sw := x.sw }), accBits := 0 }
  let c := c.onSio (fun s => { s with
    scv := scv,
    conn := g.conns.map (fun e => connSync { id := e.1, kind := e.2.1, wd := e.2.2 }),
    req := Vector.ofFn (fun o : Fin 8 => (vget g.out o).mode = 1 && (vget g.out o).autoOn),
    latched := Vector.replicate 8 none, cleared := Vector.replicate 8 none, resetsDue := [], confirm := none,
    chan := vmapIdx s.chan (fun _ h => fresh h) })
  (List.range 2).foldl (fun c ch => (List.range 16).foldl (fun c p => contactsMoved c ch p) c) c

/-- Step 7 of R478: the image is in force from the first instant of a new cycle 0, plant time 0 (log 50). -/
def activateWith (c : Chip) (o : CfgSlot) : Chip :=
  let (fails, bad, g) := judgedImage o
  let now := c.now
  let c := { c with cfg := g, active := true, ptOff := -(now : Int), cyc := 0, t0 := now }
  let c := c.onBoot (fun b => { b with
    activation := none, imageDigest := o.digest.take 32, firstFailed := match fails with | f :: _ => f.1 | [] => 0 })
  let c := c.onSys (fun s => { s with
    safetyDefaults := bad, fallback := fails.map (·.1),
    fallbackMap := maskOf 128 (fun i => fails.any (fun f => f.2 = i)), imageOk := fails.isEmpty && !bad,
    slotsOk := tableOk g.sys.period g.slot, axesOk := axesWithin g,
    confirmed := !bad && c.boot.confirmRecs.contains o.scvComputed })
  let c := takeSlots (loneClock (takePtimeCfg (ssiStarts (takeLinesCfg c))))
  let c := takeModels (takeLimits (takeEngines c))
  let c := readEnabled (takeSafety c o.scvComputed)
  let c := c.onMb (fun m => { m with rings := vmapIdx m.rings (fun _ r => { r with drop := 0, crcErr := 0 }), tunDiscard := 0, classP := Vector.replicate 6 0 })
  let c := c.onMlink (fun m => { m with recLost := 0 })
  let c := match fails with
    | f :: _ => imageEvent c 1 .checkFail f.1 g.generation
    | [] => c
  let c := if bad then imageEvent c 2 .checkFail (match fails with | f :: _ => f.1 | [] => 0) g.generation else c
  let c := setDev (imageEvent c 0 .ok 0 g.generation) .configured
  let paired := 0x0C00 ∈ o.dir.map (·.num)
  let c := if paired then (goPair c .wait).onPair (fun p => { p with digest := o.pairDigest }) else sendStarts (coldStart c)
  beginSweep (tickSnap c) now

/-- An activation accepted, or begun at boot, is carried out at an instant (17 R478): a failure at steps 1-4 leaves the device in
SAFE_IDLE. -/
def activationOp (t : Nat) (c : Chip) : Chip :=
  match c.boot.activation with
  | none => c
  | some k =>
    let o := vget c.boot.cfgSlot k
    if c.sys.dev ≠ .safeIdle then c else
    let c := c.atTime t
    match slotBars c o with
    | some st => imageEvent (c.onBoot (fun b => { b with activation := none })) 3 st 0 o.generation
    | none => activateWith c o

def execImageActivation (t : Nat) : State → Host.Outcome State Fault Refusal := run (activationOp t)

end Sys2Proof.Machine
end

