-- ==== Sys2Proof/Machine/Boundary.lean ====
section
/-!
DEFINITION. The cycle boundary (01 R13, R19, R32): the new cycle, faults, device state changes, deferred commands, and the work that
begins with the cycle.
-/

namespace Sys2Proof.Machine

open Sys2Proof

/-! ### The new cycle -/

/-- t0 of the next cycle on the local clock: the next multiple of T, the clock running at its correction (01 R13, 03 R85). -/
def nextStart (c : Chip) : Nat := c.localAt ((c.cyc + 1) * c.period : Nat)

/-- The outputs named for the past cycle end, and the new cycle begins (01 R13). -/
def newCycle (c : Chip) : Chip :=
  let t := nextStart c
  let c := (c.onStar (fun s => { s with sent := [] })).atTime t
  ssiStarts { c with ptOff := ((c.cyc + 1) * c.period : Nat) - t, cyc := c.cyc + 1, t0 := t, wire := [] }

/-- Known-answer blocks of check-value engines 0-3 (14 R414): the engine that failed in the past cycle, if one did; planner cores that
work again (08 R257). -/
def judgeEngines (kat : Option (Fin 4)) (c : Chip) : Chip :=
  let c := (List.range 4).foldl (fun c e =>
    if kat.any (fun k => k.val = e) then raiseFault c 0x0102 true e else haltGone c 0x0102 e) c
  if 0 < coresIn c then haltGone c 0x0702 0xFF else c

/-! ### Faults and device states (01 R32-R34; 16 R455-R459) -/

/-- The device can enter FAULT_HALT (01 R33). -/
def canHalt (d : DevState) : Bool :=
  d = .configured || d = .commissioning || d = .ready || d = .automatic || d = .degraded

/-- The entry to FAULT_HALT (01 R33; 06 R189, 10 R315, 11 R342, 13 R397). -/
def enterHalt (c : Chip) (f : FaultDue) : Chip :=
  let c := c.onSys (fun s => { s with haltCode := f.code, haltObject := f.object, haltCycle := c.count })
  let c := setDev c .faultHalt f.code
  handover (sioHalt (sepHalt (jointsHalt c)))

/-- A halting fault takes effect: its record; FAULT_HALT, or the end of a CLEAR_FAULT that waits (16 R459). ISOLATED_TAKEOVER is an event
without a lasting cause. -/
def takeHalting (c : Chip) (f : FaultDue) : Chip :=
  let d := c.sys.dev
  let new := if canHalt d then DevState.faultHalt else d
  let c := recordFault c f.code 1 f.object d.code new.code f.detail
  let c := postFault c f.code 1 f.object f.detail
  let c := if canHalt d then enterHalt c f else endClear c .refusedState
  if f.code = 0x0C02 then haltGone c f.code f.object else c

/-- A degrading fault, or the removal of its cause, takes effect (01 R33, 16 R456). -/
def takeDegrading (c : Chip) (f : FaultDue) : Chip :=
  let d := c.sys.dev
  let enters := f.kind = 2 && (d = .ready || d = .automatic)
  let new := if enters then DevState.degraded else d
  let c := recordFault c f.code f.kind f.object d.code new.code f.detail
  let c := postFault c f.code f.kind f.object f.detail
  if enters then setDev (c.onSys (fun s => { s with fromAuto := d = .automatic })) .degraded f.code else c

/-- The faults due, halting ones first (01 R32). -/
def takeFaults (c : Chip) : Chip :=
  let due := c.sys.due
  let c := c.onSys (fun s => { s with due := [] })
  let c := (due.filter (fun f => f.kind = 1)).foldl takeHalting c
  (due.filter (fun f => f.kind ≠ 1)).foldl takeDegrading c

/-- The change to READY that waits for the arms completes (01 R33, 16 R458); `overtaken`: another event has changed the state. -/
def readyDone (overtaken : Bool) (c : Chip) : Chip :=
  match c.sys.readyWait with
  | none => c
  | some o =>
    let ends := fun (c : Chip) (st : Status) =>
      complete (c.onSys (fun s => { s with readyWait := none })) o.opcode st o.ring o.seq
    if !automaticOp c then ends c .refusedState
    else if !allArms c armRest then c
    else if overtaken || (c.sys.dev = .degraded && degradeByte c ≠ 0) then ends c .refusedState
    else ends (setDev c .ready) .ok

/-- The change to READY from automatic operation begins (01 R33): every arm stops on its profile, proposed segments are squashed. -/
def startReady (o : Owed) (c : Chip) : Chip :=
  let c := c.onSys (fun s => { s with readyWait := some o })
  readyDone false ((List.range 12).foldl (fun c a => stopOwner (stopChain c a 11 true) a false) c)

/-- SET_DEVICE_STATE at its boundary (16 R458); `d0`: the state before it. -/
def applySetState (d0 : DevState) (c : Chip) (d : Deferred) : Chip :=
  let t := byteN d.payload 0
  let o : Owed := { opcode := d.opcode, ring := d.ring, seq := d.seq }
  let ends := fun (c : Chip) (st : Status) => complete c o.opcode st o.ring o.seq
  if c.sys.dev ≠ d0 || (stateBars c t).isSome then ends c .refusedState
  else if slowReady c t then (if c.sys.readyWait.isSome then ends c .refusedState else startReady o c)
  else match t with
    | 4 => ends (setDev c .configured) .ok
    | 5 => ends (setDev c .commissioning) .ok
    | 6 => ends (setDev c .ready) .ok
    | _ => ends (setDev c .automatic) .ok

/-- The latched request for AUTOMATIC is evaluated once the off-time has ended (01 R29). -/
def autoLatchedTurn (d0 : DevState) (c : Chip) : Chip :=
  match c.sys.autoLatched with
  | none => c
  | some o =>
    if autoOffRuns c then c
    else if c.sys.dev ≠ d0 then dropLatchedAuto c .refusedState
    else match stateBars c 7 with
      | some st => dropLatchedAuto c st
      | none => complete (setDev (c.onSys (fun s => { s with autoLatched := none })) .automatic) o.opcode .ok o.ring o.seq

/-- The device at a boundary (01 R32): faults, a waiting change to READY, operator resets, then SET_DEVICE_STATE commands in ring order.
Leaving automatic operation by any path starts its shut-down (01 R31). -/
def deviceTurn (cmds : List Deferred) (c : Chip) : Chip :=
  let d0 := c.sys.dev
  let was := automaticOp c
  let c := takeFaults c
  let c := applyResets (readyDone (c.sys.dev ≠ d0) c)
  let c := autoLatchedTurn d0 (cmds.foldl (applySetState d0) c)
  if was && !automaticOp c then c.onSys (fun s => { s with autoStopping := true }) else c

/-- The automatic-mode shut-down ends when every arm is at rest, and the off-time begins (01 R31). -/
def autoOffTurn (c : Chip) : Chip :=
  if c.sys.autoStopping && allArms c armRest then
    c.onSys (fun s => { s with autoStopping := false, autoOffEnd := some (c.now + c.cfg.sys.offAuto * 1000000) })
  else c

/-! ### Deferred commands (15 R438, 16 R452) -/

/-- Disables come before everything else of their boundary (01 R30). -/
def isDisable (d : Deferred) : Bool := d.opcode = 0x0511 || d.opcode = 0x080E || d.opcode = 0x0804

/-- The owner that a disable command names. -/
def disabledOwner (d : Deferred) : Option Nat :=
  let b := byteN d.payload 0
  if d.opcode = 0x0511 then some b else if d.opcode = 0x080E then some (12 + b) else none

/-- The effect of a command at its boundary; `stopped`: the owners disabled at it; `off`: the output pairs switched off at it. -/
def applyDeferred (stopped off : List Nat) (c : Chip) (d : Deferred) : Chip :=
  let b := d.payload
  match d.opcode with
  | 0x0220 => applyLatchConfigure b c
  | 0x0302 => applyPortConfig b c
  | 0x0304 => applyFormat b c
  | 0x0404 => applyResync b c
  | 0x0510 => applyEnable (byteN b 0) (mbit (byteN b 1) 0) stopped c
  | 0x0511 => applyDisable (byteN b 0) (mbit (byteN b 1) 0) (mbit (byteN b 1) 1) c
  | 0x0515 => applySwap b c
  | 0x0516 => applySetSup b c
  | 0x0518 => applyTest b c
  | 0x0519 => applyClear (byteN b 0) c
  | 0x0602 => applySetTool b c
  | 0x0603 => applySetPayload b c
  | 0x0802 => applySetLimits b c
  | 0x0803 => applyMove b c
  | 0x0804 => applyHold b c
  | 0x0806 => applyTableStart b c
  | 0x0807 => applyGear b c
  | 0x0808 => applyStreamOpen b c
  | 0x080A => applyHome b c
  | 0x080B => applyRegister b c
  | 0x080D => applyEnable (12 + byteN b 0) false stopped c
  | 0x080E => applyDisable (12 + byteN b 0) (mbit (byteN b 1) 0) false c
  | 0x080F => applyProfClear b c
  | 0x0904 => applySetCap b c
  | 0x0A04 => if byteN b 1 = 1 && off.contains (byteN b 0) then c else applyOutSet (byteN b 0) (byteN b 1 = 1) c
  | 0x0A05 => applySioClear (byteN b 1) c
  | 0x0A11 => applyUnconfirm c
  | _ => c

/-- The commands whose boundary this is, in ring order, disables first. -/
def commandTurn (due : List Deferred) (c : Chip) : Chip :=
  let stopped := due.filterMap disabledOwner
  let off := (due.filter (fun d => d.opcode = 0x0A04 && byteN d.payload 1 = 0)).map (fun d => byteN d.payload 0)
  let c := (due.filter isDisable).foldl (applyDeferred stopped off) c
  (due.filter (fun d => !isDisable d)).foldl (applyDeferred stopped off) c

/-! ### The whole boundary -/

/-- TICK and NEXT_OPEN leave for the metrology die at the t0 of a planner tick (12 R369). -/
def metroTick (c : Chip) : Chip :=
  if !c.active || c.cyc % Config.tickCycles c.cfg.sys.period ≠ 0 then c else
  let c := metroSend c 1 0xFF 0 0 (wide (c.t0 + c.ptOff))
  ((List.range 8).filter (mbit c.cfg.weigh)).foldl sendNextOpen c

/-- What the blocks settle of the past cycle, and the faults they find. -/
def blocksTurn (kat : Option (Fin 4)) (c : Chip) : Chip :=
  let c := starBoundary (ptBoundary (pairBoundary (laneTurn c)))
  judgeEngines kat (sterlingTurn (nodesJudged (solverBoundary (loopBoundary c))))

/-- The work of the new cycle: structures and sequences, committed segments, the set-points of the next cycle, what leaves at t0. -/
def workTurn (c : Chip) : Chip :=
  let c := autoOffTurn (jointsTurn (structures c))
  let c := evalLatched (profTurn (enterSegs c c.cyc))
  let c := sendStarts (pairStart (publishLinks c))
  tickSnap (metroTick (c.onStar (fun s => { s with stepped := false })))

def boundaryOp (kat : Option (Fin 4)) (c : Chip) : Chip :=
  if !c.sys.duhorn || c.sys.dev = .off || c.sys.dev = .reset then c else
  let next := c.cyc + 1
  let c := if c.active && next % Config.sepCycles c.cfg.sys.period = 0 && c.sep.intake.map (·.1) ≠ some next then takeIntake next c else c
  let c := blocksTurn kat (newCycle c)
  let due := (c.deferB.filter (fun d => d.due ≤ c.cyc)).insertionSort (fun x y => x.ring ≤ y.ring)
  let c := { c with deferB := c.deferB.filter (fun d => c.cyc < d.due) }
  let c := profReactions (deviceTurn (due.filter (fun d => d.opcode = 0x0104)) c)
  workTurn (commandTurn (due.filter (fun d => d.opcode ≠ 0x0104)) c)

def execCycleBoundary (kat : Option (Fin 4)) : State → Host.Outcome State Fault Refusal := run (boundaryOp kat)

end Sys2Proof.Machine
end

