-- ==== Sys2Proof/Machine/Deadline.lean ====
section
/-!
DEFINITION. t_dl of a cycle: the engines close (05 R159), the outcomes of the class C jobs are applied (07 R208), supervision runs
(06 R179-R185), the samples of joint tests are taken (06 R193), and in a pair the MIRROR frame is formed (13 R401).
-/

namespace Sys2Proof.Machine

open Sys2Proof

/-- t_dl (01 R14), once a cycle: the loops, then the feed-forward, then supervision; the frame leaves 0.50 µs later. -/
def deadlineTurn (c : Chip) : Chip :=
  if c.loops.closed then c else
  let c := (c.onLoops (fun l => { l with closed := true })).atOff (Config.tDl c.cfg.sys.period)
  let c := (List.range 18).foldl closeEngine c
  let c := (List.range 12).foldl ffOutcome c
  let c := superviseAll c
  mirrorTurn ((List.range 12).foldl testSample c)

def execLoopDeadline : State → Host.Outcome State Fault Refusal := run deadlineTurn

end Sys2Proof.Machine
end

