-- ==== Sys2Proof/Machine/Delivery.lean ====
section
/-!
DEFINITION. Delivery of events and records to the KX96-produced rings (15 R440) and telemetry (15 R441).
-/

namespace Sys2Proof.Machine

open Sys2Proof

/-- Rings whose records are never dropped (R440). -/
def neverDrops (r : Nat) : Bool := r = 28 || r = 29

/-- A message written, or dropped at a ring that is full (R440). -/
def ringPut (c : Chip) (m : OutMsg) : Chip :=
  if ringRoom c m.ring (entriesOf m.len) then ringWrite c m
  else onRing c m.ring (fun g => { g with drop := inc g.drop, overflow := true, lost := true })

/-- What an event's report leaves when it is written or dropped: the slot of a one-shot event is free (02 R62, R63), a dropped report
counts in LINE_EVT_DROP or TTRIG_DROP (02 R62, 03 R91). -/
def afterReport (c : Chip) (m : OutMsg) (written : Bool) : Chip :=
  if m.opcode = 0x0280 then
    let k := ru m.payload 0 2
    let c := if written then c else c.onMb (fun b => { b with lineEvtDrop := inc b.lineEvtDrop })
    match findSlot c k with
    | some s => if s.st = .fired && s.ev.action ≠ 7 then freeSlot c k else c
    | none => c
  else if m.opcode = 0x0380 && !written then c.onMb (fun b => { b with ttrigDrop := inc b.ttrigDrop })
  else c

/-- The first message that can leave: one whose ring has room, or whose ring drops what finds it full. -/
def ready (c : Chip) : List OutMsg → Option (OutMsg × List OutMsg)
  | [] => none
  | m :: l =>
    if !neverDrops m.ring || ringRoom c m.ring (entriesOf m.len) then some (m, l)
    else match ready c l with
      | some (x, r) => some (x, m :: r)
      | none => none

/-- The oldest record or batch record held and not delivered whose ring has room (12 R380). -/
def nextRecord (c : Chip) : Option (Nat × Nat × Nat × Bytes × Bool) :=
  c.mlink.held.find? (fun h => !h.2.2.2.2 && ringRoom c h.1 (entriesOf h.2.2.2.1.length))

/-- Rings 28 and 29 that hold something back for lack of space show it in OVERFLOW (15 R431, R440). -/
def heldBack (c : Chip) : Chip :=
  [28, 29].foldl (fun c r =>
    let waits := c.mb.out.any (fun m => m.ring = r && !ringRoom c r (entriesOf m.len))
      || c.mlink.held.any (fun h => h.1 = r && !h.2.2.2.2 && !ringRoom c r (entriesOf h.2.2.2.1.length))
    if (vget c.mb.rings r).enable && waits then onRing c r (fun g => { g with overflow := true }) else c) c

/-- One entry or record is delivered. -/
def deliverOp (c : Chip) : Chip :=
  let c := heldBack c
  match ready c c.mb.out with
  | some (m, rest) =>
    let c := c.onMb (fun b => { b with out := rest })
    let written := ringRoom c m.ring (entriesOf m.len)
    afterReport (ringPut c m) m written
  | none =>
    match nextRecord c with
    | none => c
    | some h =>
      let c := ringWrite c { ring := h.1, opcode := h.2.1, cls := 6, payload := h.2.2.2.1, len := h.2.2.2.1.length }
      c.onMlink (fun m => { m with
        held := m.held.map (fun x => if x.1 = h.1 && x.2.2.1 = h.2.2.1 then (x.1, x.2.1, x.2.2.1, x.2.2.2.1, true) else x) })

def execDeliverEntry : State → Host.Outcome State Fault Refusal := run deliverOp

/-! ### Telemetry -/

/-- The head of a telemetry record (R441). -/
def teleHead (c : Chip) : Bytes :=
  le 4 c.count ++ le 1 (b2n c.pt.wide2) ++ zeros 3 ++ (if c.pt.wide2 then wide c.plant else le 4 (short c.plant) ++ zeros 6) ++ zeros 2

def sendTele (c : Chip) (kind : Nat) (body : Bytes) : Chip :=
  let b := teleHead c ++ body
  enqueue c { ring := 26, opcode := kind, cls := 5, payload := b, len := b.length }

/-- The class P counters of 01 R26. WSC_MISS is the arms' sum; what the others count is not in the model: each grows by a free value. -/
def classPTurn (c : Chip) : Chip :=
  let n := c.free
  let wsc := (List.range 12).foldl (fun s a => incBy s (c.sarm a).wscMiss) 0
  takeFree (c.onMb (fun b => { b with classP := vmapIdx b.classP (fun i x => if i = 2 then wsc else incBy x (Config.freeNat n i)) }))

/-- A telemetry period ends (R441). -/
def telemetryOp (c : Chip) : Chip :=
  if !c.active then c else
  let c := (List.range 18).foldl (fun c e =>
    let g := vget c.loops.eng e
    if g.st ≠ .inService then c else
    let miss := g.axes.foldl (fun n a => incBy n (c.axis a).missTotal) 0
    sendTele c 0x0580 (le 1 e ++ le 1 g.axes.length ++ zeros 2 ++ le 4 g.busy ++ le 4 g.last ++ le 4 g.latest ++ le 4 g.worst ++ le 4 miss)) c
  let c := (List.range 9).foldl (fun c t =>
    let x := c.tileOf t
    sendTele c 0x0680 (le 1 t ++ zeros 3 ++ le 4 x.last ++ le 4 x.busyP ++ le 4 x.ovf)) c
  let c := classPTurn c
  sendTele c 0x0780 (((List.range 6).map (fun i => le 4 (vget c.mb.classP i))).flatten)

def execTelemetryPeriod : State → Host.Outcome State Fault Refusal := run telemetryOp

end Sys2Proof.Machine
end

