-- ==== Sys2Proof/Machine/Dispatch.lean ====
section
/-!
DEFINITION. Every command and its meaning, one arm per constructor.
-/

namespace Sys2Proof.Machine

open Sys2Proof

def exec (i : Instr) (s : State) : Host.Outcome State Fault Refusal :=
  match i with
  | .cycleBoundary kat => Sys2Proof.Machine.execCycleBoundary kat s
  | .ssiFrame enc raw parityOk stuck => Sys2Proof.Machine.execSsiFrame enc raw parityOk stuck s
  | .predictionInstant => Sys2Proof.Machine.execPredictionInstant s
  | .lineHoldoverExpiry line => Sys2Proof.Machine.execLineHoldoverExpiry line s
  | .sourceFault enc cause => Sys2Proof.Machine.execSourceFault enc cause s
  | .eventFire slot => Sys2Proof.Machine.execEventFire slot s
  | .latchEdge latch rising t => Sys2Proof.Machine.execLatchEdge latch rising t s
  | .latchRecordWrite latch => Sys2Proof.Machine.execLatchRecordWrite latch s
  | .lineStatePublish line => Sys2Proof.Machine.execLineStatePublish line s
  | .lineStateReceive line link dgram => Sys2Proof.Machine.execLineStateReceive line link dgram s
  | .timeTriggerFire slot => Sys2Proof.Machine.execTimeTriggerFire slot s
  | .syncReceived port origin correction rx => Sys2Proof.Machine.execSyncReceived port origin correction rx s
  | .ptpPortSlave sel ownClock => Sys2Proof.Machine.execPtpPortSlave sel ownClock s
  | .ptpHoldoverExpiry => Sys2Proof.Machine.execPtpHoldoverExpiry s
  | .timeStep => Sys2Proof.Machine.execTimeStep s
  | .txTimestamp port id raw seqId host frame => Sys2Proof.Machine.execTxTimestamp port id raw seqId host frame s
  | .uplinkReceived node ch off frame => Sys2Proof.Machine.execUplinkReceived node ch off frame s
  | .axisDispatch eng off => Sys2Proof.Machine.execAxisDispatch eng off s
  | .inputMissingDispatch node => Sys2Proof.Machine.execInputMissingDispatch node s
  | .axisCommit eng off => Sys2Proof.Machine.execAxisCommit eng off s
  | .axisProtectionFault eng cause => Sys2Proof.Machine.execAxisProtectionFault eng cause s
  | .loopDeadline => Sys2Proof.Machine.execLoopDeadline s
  | .downlinkSend node => Sys2Proof.Machine.execDownlinkSend node s
  | .echoRequestSend => Sys2Proof.Machine.execEchoRequestSend s
  | .echoRespReceived node ch rtt frame => Sys2Proof.Machine.execEchoRespReceived node ch rtt frame s
  | .claimReceived node ch got => Sys2Proof.Machine.execClaimReceived node ch got s
  | .linkStateChange node ch up => Sys2Proof.Machine.execLinkStateChange node ch up s
  | .channelCountExpiry node ch => Sys2Proof.Machine.execChannelCountExpiry node ch s
  | .coldStartEnd => Sys2Proof.Machine.execColdStartEnd s
  | .claimRefusedExpiry node => Sys2Proof.Machine.execClaimRefusedExpiry node s
  | .claimReleaseDown node => Sys2Proof.Machine.execClaimReleaseDown node s
  | .acyclicBlockReceived node block => Sys2Proof.Machine.execAcyclicBlockReceived node block s
  | .acyclicRetry node => Sys2Proof.Machine.execAcyclicRetry node s
  | .nodeResponseTimeout node => Sys2Proof.Machine.execNodeResponseTimeout node s
  | .classCStart tile => Sys2Proof.Machine.execClassCStart tile s
  | .feedForwardDone arm part off => Sys2Proof.Machine.execFeedForwardDone arm part off s
  | .classPJobStart tile => Sys2Proof.Machine.execClassPJobStart tile s
  | .ikIteratePublished tile number t => Sys2Proof.Machine.execIkIteratePublished tile number t s
  | .solverJobDone tile t => Sys2Proof.Machine.execSolverJobDone tile t s
  | .solverJobDeadline job => Sys2Proof.Machine.execSolverJobDeadline job s
  | .solverResultExpiry job => Sys2Proof.Machine.execSolverResultExpiry job s
  | .plannerTick => Sys2Proof.Machine.execPlannerTick s
  | .plannerLoadWindow load => Sys2Proof.Machine.execPlannerLoadWindow load s
  | .plannerCoreRemoved core isFault => Sys2Proof.Machine.execPlannerCoreRemoved core isFault s
  | .streamGapExpiry stream => Sys2Proof.Machine.execStreamGapExpiry stream s
  | .homeSearchTimeout aux => Sys2Proof.Machine.execHomeSearchTimeout aux s
  | .holdCurrentDelay axis => Sys2Proof.Machine.execHoldCurrentDelay axis s
  | .enableTimeout owner => Sys2Proof.Machine.execEnableTimeout owner s
  | .brakeEngageExpiry owner => Sys2Proof.Machine.execBrakeEngageExpiry owner s
  | .powerOffTimeout owner => Sys2Proof.Machine.execPowerOffTimeout owner s
  | .stopOverdue owner => Sys2Proof.Machine.execStopOverdue owner s
  | .jointTestEnd arm => Sys2Proof.Machine.execJointTestEnd arm s
  | .offTimeElapsed owner => Sys2Proof.Machine.execOffTimeElapsed owner s
  | .separationPeriod checks astray => Sys2Proof.Machine.execSeparationPeriod checks astray s
  | .reportMissing byIron => Sys2Proof.Machine.execReportMissing byIron s
  | .classEffective => Sys2Proof.Machine.execClassEffective s
  | .scanPduReceived port dgram => Sys2Proof.Machine.execScanPduReceived port dgram s
  | .sensorTimeout port => Sys2Proof.Machine.execSensorTimeout port s
  | .safetyPduReceived conn pdu => Sys2Proof.Machine.execSafetyPduReceived conn pdu s
  | .safetyConnWatchdog conn => Sys2Proof.Machine.execSafetyConnWatchdog conn s
  | .sioLogicCycle chan => Sys2Proof.Machine.execSioLogicCycle chan s
  | .safeInputChange chan term level => Sys2Proof.Machine.execSafeInputChange chan term level s
  | .inputPairDiscrepancy chan pair => Sys2Proof.Machine.execInputPairDiscrepancy chan pair s
  | .pulseMissing chan term => Sys2Proof.Machine.execPulseMissing chan term s
  | .darkPulseStart out => Sys2Proof.Machine.execDarkPulseStart out s
  | .darkPulseEnd out low => Sys2Proof.Machine.execDarkPulseEnd out low s
  | .outTestOverdue out => Sys2Proof.Machine.execOutTestOverdue out s
  | .outExtVoltage out => Sys2Proof.Machine.execOutExtVoltage out s
  | .outOverload out => Sys2Proof.Machine.execOutOverload out s
  | .edmTimeout pair => Sys2Proof.Machine.execEdmTimeout pair s
  | .armedTimeout pair => Sys2Proof.Machine.execArmedTimeout pair s
  | .cat1Expiry pair => Sys2Proof.Machine.execCat1Expiry pair s
  | .operatorReset pair => Sys2Proof.Machine.execOperatorReset pair s
  | .resetStuck pair => Sys2Proof.Machine.execResetStuck pair s
  | .confirmResetTimeout => Sys2Proof.Machine.execConfirmResetTimeout s
  | .clearFaultTimeout => Sys2Proof.Machine.execClearFaultTimeout s
  | .metroMessageReceived msg => Sys2Proof.Machine.execMetroMessageReceived msg s
  | .weighWindowTimeout ch => Sys2Proof.Machine.execWeighWindowTimeout ch s
  | .messageGap => Sys2Proof.Machine.execMessageGap s
  | .selfCheckStart ch => Sys2Proof.Machine.execSelfCheckStart ch s
  | .selfCheckDone ch ok => Sys2Proof.Machine.execSelfCheckDone ch ok s
  | .zeroOverdue ch => Sys2Proof.Machine.execZeroOverdue ch s
  | .checkOverdue ch => Sys2Proof.Machine.execCheckOverdue ch s
  | .batchClose => Sys2Proof.Machine.execBatchClose s
  | .sealNChange low => Sys2Proof.Machine.execSealNChange low s
  | .metroPowerUp fwOk => Sys2Proof.Machine.execMetroPowerUp fwOk s
  | .metroSilent => Sys2Proof.Machine.execMetroSilent s
  | .interlockPulse widthNs => Sys2Proof.Machine.execInterlockPulse widthNs s
  | .heartbeatLost => Sys2Proof.Machine.execHeartbeatLost s
  | .pairSyncReceived frame off => Sys2Proof.Machine.execPairSyncReceived frame off s
  | .mirrorReceived frame => Sys2Proof.Machine.execMirrorReceived frame s
  | .pairLinkLost => Sys2Proof.Machine.execPairLinkLost s
  | .digestCompare => Sys2Proof.Machine.execDigestCompare s
  | .pairClassReceived frame => Sys2Proof.Machine.execPairClassReceived frame s
  | .sensorRelayReceived frame => Sys2Proof.Machine.execSensorRelayReceived frame s
  | .partnerWaitExpiry => Sys2Proof.Machine.execPartnerWaitExpiry s
  | .isolationExpiry => Sys2Proof.Machine.execIsolationExpiry s
  | .stateTransferDone => Sys2Proof.Machine.execStateTransferDone s
  | .swapConfirm => Sys2Proof.Machine.execSwapConfirm s
  | .sliceDue => Sys2Proof.Machine.execSliceDue s
  | .sliceSkipped => Sys2Proof.Machine.execSliceSkipped s
  | .plannedMigration => Sys2Proof.Machine.execPlannedMigration s
  | .sliceDone kind inst res => Sys2Proof.Machine.execSliceDone kind inst res s
  | .laneHoldEnd => Sys2Proof.Machine.execLaneHoldEnd s
  | .rxMismatch kind inst => Sys2Proof.Machine.execRxMismatch kind inst s
  | .doorbell ring v => Sys2Proof.Machine.execDoorbell ring v s
  | .mailboxEntryReceived ring reads => Sys2Proof.Machine.execMailboxEntryReceived ring reads s
  | .ringEnable ring v => Sys2Proof.Machine.execRingEnable ring v s
  | .consWrite ring v => Sys2Proof.Machine.execConsWrite ring v s
  | .w1cClear off v => Sys2Proof.Machine.execW1cClear off v s
  | .readClear off => Sys2Proof.Machine.execReadClear off s
  | .registerWrite off v width => Sys2Proof.Machine.execRegisterWrite off v width s
  | .deliverEntry => Sys2Proof.Machine.execDeliverEntry s
  | .telemetryPeriod => Sys2Proof.Machine.execTelemetryPeriod s
  | .interruptCoalesce ring => Sys2Proof.Machine.execInterruptCoalesce ring s
  | .dmaErr ring => Sys2Proof.Machine.execDmaErr ring s
  | .tunnelDatagram src port dgram => Sys2Proof.Machine.execTunnelDatagram src port dgram s
  | .tunnelResend ring => Sys2Proof.Machine.execTunnelResend ring s
  | .heartbeatTick => Sys2Proof.Machine.execHeartbeatTick s
  | .temperatureReading tCase tDie tSafe => Sys2Proof.Machine.execTemperatureReading tCase tDie tSafe s
  | .supplyRise sup mv t => Sys2Proof.Machine.execSupplyRise sup mv t s
  | .sequenceViolation rule sup t => Sys2Proof.Machine.execSequenceViolation rule sup t s
  | .brownout sup mv t => Sys2Proof.Machine.execBrownout sup mv t s
  | .supplyAbsent t => Sys2Proof.Machine.execSupplyAbsent t s
  | .safetySupplyLoss io t => Sys2Proof.Machine.execSafetySupplyLoss io t s
  | .fieldSupplyFault reversed mv => Sys2Proof.Machine.execFieldSupplyFault reversed mv s
  | .overtemp t => Sys2Proof.Machine.execOvertemp t s
  | .clockFault refclk t => Sys2Proof.Machine.execClockFault refclk t s
  | .safetyClockFault => Sys2Proof.Machine.execSafetyClockFault s
  | .resetRelease t => Sys2Proof.Machine.execResetRelease t s
  | .resetN low t => Sys2Proof.Machine.execResetN low t s
  | .resetNStuck t => Sys2Proof.Machine.execResetNStuck t s
  | .srstN low t => Sys2Proof.Machine.execSrstN low t s
  | .safetySubimageReload ok => Sys2Proof.Machine.execSafetySubimageReload ok s
  | .perstN low => Sys2Proof.Machine.execPerstN low s
  | .pcieRefclkLoss => Sys2Proof.Machine.execPcieRefclkLoss s
  | .encoderWiringFault enc kind => Sys2Proof.Machine.execEncoderWiringFault enc kind s
  | .epwrRetry enc => Sys2Proof.Machine.execEpwrRetry enc s
  | .bootRom => Sys2Proof.Machine.execBootRom s
  | .bootWatchdog t => Sys2Proof.Machine.execBootWatchdog t s
  | .safeIdleReached => Sys2Proof.Machine.execSafeIdleReached s
  | .imageActivation t => Sys2Proof.Machine.execImageActivation t s
  | .flashOperationDone sigs subs => Sys2Proof.Machine.execFlashOperationDone sigs subs s
  | .sysGetIdentity q => Sys2Proof.Machine.execSysGetIdentity q s
  | .sysGetVersion q => Sys2Proof.Machine.execSysGetVersion q s
  | .sysGetStatus q => Sys2Proof.Machine.execSysGetStatus q s
  | .setDeviceState q => Sys2Proof.Machine.execSetDeviceState q s
  | .clearFault q => Sys2Proof.Machine.execClearFault q s
  | .sysGetFaultLog q => Sys2Proof.Machine.execSysGetFaultLog q s
  | .sysGetEnv q => Sys2Proof.Machine.execSysGetEnv q s
  | .sysEcho q => Sys2Proof.Machine.execSysEcho q s
  | .sysReset q => Sys2Proof.Machine.execSysReset q s
  | .sysClearLatch q => Sys2Proof.Machine.execSysClearLatch q s
  | .lineGetState q => Sys2Proof.Machine.execLineGetState q s
  | .linePreset q => Sys2Proof.Machine.execLinePreset q s
  | .lineSelectSource q => Sys2Proof.Machine.execLineSelectSource q s
  | .lineVmasterSet q => Sys2Proof.Machine.execLineVmasterSet q s
  | .lineQuery q => Sys2Proof.Machine.execLineQuery q s
  | .linePublish q => Sys2Proof.Machine.execLinePublish q s
  | .eventArm q => Sys2Proof.Machine.execEventArm q s
  | .eventCancel q => Sys2Proof.Machine.execEventCancel q s
  | .eventGet q => Sys2Proof.Machine.execEventGet q s
  | .latchConfigure q => Sys2Proof.Machine.execLatchConfigure q s
  | .ptimeGet q => Sys2Proof.Machine.execPtimeGet q s
  | .ptimePortConfig q => Sys2Proof.Machine.execPtimePortConfig q s
  | .ptimeStep q => Sys2Proof.Machine.execPtimeStep q s
  | .ptimeFormatSelect q => Sys2Proof.Machine.execPtimeFormatSelect q s
  | .ptimeTxqRead q => Sys2Proof.Machine.execPtimeTxqRead q s
  | .ptimeFrameSend q => Sys2Proof.Machine.execPtimeFrameSend q s
  | .timeTriggerArm q => Sys2Proof.Machine.execTimeTriggerArm q s
  | .timeTriggerCancel q => Sys2Proof.Machine.execTimeTriggerCancel q s
  | .cellGetStatus q => Sys2Proof.Machine.execCellGetStatus q s
  | .cellGetPort q => Sys2Proof.Machine.execCellGetPort q s
  | .cellClearCounters q => Sys2Proof.Machine.execCellClearCounters q s
  | .cellResync q => Sys2Proof.Machine.execCellResync q s
  | .cellNodeRead q => Sys2Proof.Machine.execCellNodeRead q s
  | .cellNodeWrite q => Sys2Proof.Machine.execCellNodeWrite q s
  | .cellReleaseClaim q => Sys2Proof.Machine.execCellReleaseClaim q s
  | .loopGetEngine q => Sys2Proof.Machine.execLoopGetEngine q s
  | .loopGetAxis q => Sys2Proof.Machine.execLoopGetAxis q s
  | .loopClearCounters q => Sys2Proof.Machine.execLoopClearCounters q s
  | .loopGetProgram q => Sys2Proof.Machine.execLoopGetProgram q s
  | .armEnable q => Sys2Proof.Machine.execArmEnable q s
  | .armDisable q => Sys2Proof.Machine.execArmDisable q s
  | .armGetState q => Sys2Proof.Machine.execArmGetState q s
  | .jointCoefWrite q => Sys2Proof.Machine.execJointCoefWrite q s
  | .jointCoefRead q => Sys2Proof.Machine.execJointCoefRead q s
  | .jointBankSwap q => Sys2Proof.Machine.execJointBankSwap q s
  | .jointSetSupervision q => Sys2Proof.Machine.execJointSetSupervision q s
  | .jointGet q => Sys2Proof.Machine.execJointGet q s
  | .jointTest q => Sys2Proof.Machine.execJointTest q s
  | .armClearFault q => Sys2Proof.Machine.execArmClearFault q s
  | .solverGetArm q => Sys2Proof.Machine.execSolverGetArm q s
  | .solverSetTool q => Sys2Proof.Machine.execSolverSetTool q s
  | .solverSetPayload q => Sys2Proof.Machine.execSolverSetPayload q s
  | .solverSubmit q => Sys2Proof.Machine.execSolverSubmit q s
  | .solverResult q => Sys2Proof.Machine.execSolverResult q s
  | .solverCancel q => Sys2Proof.Machine.execSolverCancel q s
  | .solverWarmFlush q => Sys2Proof.Machine.execSolverWarmFlush q s
  | .solverGetTile q => Sys2Proof.Machine.execSolverGetTile q s
  | .solverClearCounters q => Sys2Proof.Machine.execSolverClearCounters q s
  | .planPick q => Sys2Proof.Machine.execPlanPick q s
  | .planCancelPick q => Sys2Proof.Machine.execPlanCancelPick q s
  | .planGetPick q => Sys2Proof.Machine.execPlanGetPick q s
  | .planGetSegment q => Sys2Proof.Machine.execPlanGetSegment q s
  | .planGetStatus q => Sys2Proof.Machine.execPlanGetStatus q s
  | .zoneGet q => Sys2Proof.Machine.execZoneGet q s
  | .planClearCounters q => Sys2Proof.Machine.execPlanClearCounters q s
  | .profGet q => Sys2Proof.Machine.execProfGet q s
  | .profSetLimits q => Sys2Proof.Machine.execProfSetLimits q s
  | .profMove q => Sys2Proof.Machine.execProfMove q s
  | .profHold q => Sys2Proof.Machine.execProfHold q s
  | .profTableLoad q => Sys2Proof.Machine.execProfTableLoad q s
  | .profTableStart q => Sys2Proof.Machine.execProfTableStart q s
  | .profGear q => Sys2Proof.Machine.execProfGear q s
  | .profStreamOpen q => Sys2Proof.Machine.execProfStreamOpen q s
  | .profStreamData q => Sys2Proof.Machine.execProfStreamData q s
  | .profHome q => Sys2Proof.Machine.execProfHome q s
  | .profRegister q => Sys2Proof.Machine.execProfRegister q s
  | .profStepTableWrite q => Sys2Proof.Machine.execProfStepTableWrite q s
  | .auxEnable q => Sys2Proof.Machine.execAuxEnable q s
  | .auxDisable q => Sys2Proof.Machine.execAuxDisable q s
  | .profClearFault q => Sys2Proof.Machine.execProfClearFault q s
  | .profTableClear q => Sys2Proof.Machine.execProfTableClear q s
  | .sepGetStatus q => Sys2Proof.Machine.execSepGetStatus q s
  | .sepGetArm q => Sys2Proof.Machine.execSepGetArm q s
  | .sepGetSensor q => Sys2Proof.Machine.execSepGetSensor q s
  | .sepSetCap q => Sys2Proof.Machine.execSepSetCap q s
  | .sepClearFault q => Sys2Proof.Machine.execSepClearFault q s
  | .sepReadField q => Sys2Proof.Machine.execSepReadField q s
  | .sepClearCounters q => Sys2Proof.Machine.execSepClearCounters q s
  | .sioGetStatus q => Sys2Proof.Machine.execSioGetStatus q s
  | .sioGetPair q => Sys2Proof.Machine.execSioGetPair q s
  | .sioGetOutput q => Sys2Proof.Machine.execSioGetOutput q s
  | .sioOutSet q => Sys2Proof.Machine.execSioOutSet q s
  | .sioClearFault q => Sys2Proof.Machine.execSioClearFault q s
  | .safetyGetConn q => Sys2Proof.Machine.execSafetyGetConn q s
  | .safetyClearCounters q => Sys2Proof.Machine.execSafetyClearCounters q s
  | .safetyConfirm q => Sys2Proof.Machine.execSafetyConfirm q s
  | .safetyUnconfirm q => Sys2Proof.Machine.execSafetyUnconfirm q s
  | .metroGetStatus q => Sys2Proof.Machine.execMetroGetStatus q s
  | .metroGetChannel q => Sys2Proof.Machine.execMetroGetChannel q s
  | .metroGetIdent q => Sys2Proof.Machine.execMetroGetIdent q s
  | .metroReadAudit q => Sys2Proof.Machine.execMetroReadAudit q s
  | .metroGetPubkey q => Sys2Proof.Machine.execMetroGetPubkey q s
  | .metroResend q => Sys2Proof.Machine.execMetroResend q s
  | .metroSvcReadParam req => Sys2Proof.Machine.execMetroSvcReadParam req s
  | .metroSvcWriteParam req => Sys2Proof.Machine.execMetroSvcWriteParam req s
  | .metroSvcAdjZero req => Sys2Proof.Machine.execMetroSvcAdjZero req s
  | .metroSvcAdjSpan req => Sys2Proof.Machine.execMetroSvcAdjSpan req s
  | .metroSvcWeigh req => Sys2Proof.Machine.execMetroSvcWeigh req s
  | .metroSvcFwLoad req sigOk => Sys2Proof.Machine.execMetroSvcFwLoad req sigOk s
  | .metroSvcDiscard req => Sys2Proof.Machine.execMetroSvcDiscard req s
  | .pairGetStatus q => Sys2Proof.Machine.execPairGetStatus q s
  | .pairSwap q => Sys2Proof.Machine.execPairSwap q s
  | .pairSolo q => Sys2Proof.Machine.execPairSolo q s
  | .pairClearCounters q => Sys2Proof.Machine.execPairClearCounters q s
  | .stestGetStatus q => Sys2Proof.Machine.execStestGetStatus q s
  | .stestGetBlock q => Sys2Proof.Machine.execStestGetBlock q s
  | .stestRun q => Sys2Proof.Machine.execStestRun q s
  | .stestSuspend q => Sys2Proof.Machine.execStestSuspend q s
  | .stestClearCounters q => Sys2Proof.Machine.execStestClearCounters q s
  | .imageGetStatus q => Sys2Proof.Machine.execImageGetStatus q s
  | .imageLoad q => Sys2Proof.Machine.execImageLoad q s
  | .imageActivate q => Sys2Proof.Machine.execImageActivate q s
  | .fwGetStatus q => Sys2Proof.Machine.execFwGetStatus q s
  | .fwLoad q => Sys2Proof.Machine.execFwLoad q s
  | .fwSwitch q => Sys2Proof.Machine.execFwSwitch q s
  | .attestGet q => Sys2Proof.Machine.execAttestGet q s
  | .keyRotate q keyOk sigOk => Sys2Proof.Machine.execKeyRotate q keyOk sigOk s
  | .encoderEdge enc a b t => Sys2Proof.Machine.execEncoderEdge enc a b t s
  | .announceReceived port utcOffset utcValid gmId stepsRemoved => Sys2Proof.Machine.execAnnounceReceived port utcOffset utcValid gmId stepsRemoved s
  | .delayRespReceived port times => Sys2Proof.Machine.execDelayRespReceived port times s
  | .crossCellHoldoverExpiry => Sys2Proof.Machine.execCrossCellHoldoverExpiry s
  | .arpRequestReceived port target sender => Sys2Proof.Machine.execArpRequestReceived port target sender s
  | .loadCellSample ch raw senseOk excOk => Sys2Proof.Machine.execLoadCellSample ch raw senseOk excOk s
  | .metroSupplyLoss => Sys2Proof.Machine.execMetroSupplyLoss s
  | .metroStreamReceived => Sys2Proof.Machine.execMetroStreamReceived s
  | .pairLaneStateChange lane up => Sys2Proof.Machine.execPairLaneStateChange lane up s
  | .pairUplinkReceived node frame => Sys2Proof.Machine.execPairUplinkReceived node frame s

end Sys2Proof.Machine
end

