-- ==== Sys2Proof/Safety.lean ====
section
/-!
DEFINITION. The terms claims are stated in: what a command leaves untouched, when a host command is heard, what its answer is,
and the invariants of the whole machine. The spec gives every command an effect, so a safe run is one that never stops; what is
claimed of a run is which state the next one is.
-/

namespace Sys2Proof.Machine

open Sys2Proof

/-- Everything the end of a command never touches: `e` is `d` there. Of the device word only GCOND_LATCH and the faults found
may differ (01 R23, R24), of the mailbox and the pair link nothing is said, and time has not run back behind `c`. -/
structure Rest (c d e : Chip) : Prop where
  now : e.now = max c.now d.now
  ptOff : e.ptOff = d.ptOff
  cyc : e.cyc = d.cyc
  t0 : e.t0 = d.t0
  cfg : e.cfg = d.cfg
  active : e.active = d.active
  sys : e.sys = { d.sys with latch := e.sys.latch, haltCauses := e.sys.haltCauses, due := e.sys.due }
  due : d.sys.due <+: e.sys.due
  pow : e.pow = d.pow
  anchor : e.anchor = d.anchor
  boot : e.boot = d.boot
  lt : e.lt = d.lt
  pt : e.pt = d.pt
  star : e.star = d.star
  loops : e.loops = d.loops
  joints : e.joints = d.joints
  solver : e.solver = d.solver
  planner : e.planner = d.planner
  prof : e.prof = d.prof
  sep : e.sep = d.sep
  sio : e.sio = d.sio
  metro : e.metro = d.metro
  mlink : e.mlink = d.mlink
  ster : e.ster = d.ster
  deferB : e.deferB = d.deferB
  deferP : e.deferP = d.deferP
  wire : e.wire = d.wire
  free : e.free = d.free

/-- `e` is the module `d` with nothing added but what ends every command: GCOND_LATCH, the faults it finds, the reports of a
change (appended to what waits for DELIVER_ENTRY) and the STATE_CHANGE cause with its vector. -/
structure Settled (c d e : Chip) : Prop where
  rest : Rest c d e
  mb : e.mb = { d.mb with out := e.mb.out, errStatus := e.mb.errStatus, irqOut := e.mb.irqOut, pba := e.mb.pba }
  out : d.mb.out <+: e.mb.out
  err : ∀ b, mbit d.mb.errStatus b = true → mbit e.mb.errStatus b = true
  pair : e.pair = d.pair

/-- The command runs to a next state that is `d`, settled; the waiting commands are untouched. -/
def Completes (i : Instr) (s : State) (d : Chip) : Prop :=
  ∃ t, exec i s = .next t ∧ t.pending = s.pending ∧ Settled s.chip d t.chip

/-- The command runs to a next state of which `P` holds; the waiting commands are untouched. -/
def Runs (i : Instr) (s : State) (P : Chip → Prop) : Prop :=
  ∃ t, exec i s = .next t ∧ t.pending = s.pending ∧ P t.chip

/-- A host command is heard (15 R434, R437, 16 R450 steps 1-3): its ring serves and accepts the opcode, no other message of
the ring is ahead of it, the response ring has room for the longest response, the unit holds the token where the opcode needs
it, and the payload has the command's layout. -/
def heard (op longest : Nat) (layout : Bytes → Bool) (q : Req) (c : Chip) : Bool :=
  (decide (q.ring < 8) || q.ring = 30 || q.ring = 31) && serves c q.ring && (vget c.mb.rings q.ring).msg.isNone
    && (!decide (q.ring < 8) || ringRoom c (q.ring + 8) (entriesOf longest))
    && ringAccepts c.sys.duhorn q.ring op && (pairGroup op = .unitLocal || holdsToken c) && layout q.payload

/-- The ring a command's response goes to (15 R433, R434). -/
def answerRing (ring : Nat) : Nat := if ring < 8 then ring + 8 else ring

/-- The response of a command (16 R449): status, three zero bytes, data, in entries of class 2 that carry the command's
sequence; behind what the response ring holds, or in place on rings 30 and 31. -/
def Told (op : Nat) (q : Req) (st : Status) (data : Bytes) (c e : Chip) : Prop :=
  (vget e.mb.rings (answerRing q.ring)).buf =
    (if q.ring < 8 then (vget c.mb.rings (q.ring + 8)).buf else [])
      ++ entries op 2 (4 + data.length) (le 1 st.code ++ zeros 3 ++ data) false (fun _ => q.seq)

/-- A host command is answered with `st` and `data`, and the module is `d` but for its two rings, the mailbox's signalling,
the pair link's sending side (an accepted mirrored command goes to the partner) and what ends every command. -/
def Answers (i : Instr) (op : Nat) (q : Req) (s : State) (st : Status) (data : Bytes) (d : Chip) : Prop :=
  ∃ t, exec i s = .next t ∧ t.pending = s.pending ∧ Told op q st data s.chip t.chip ∧ Rest s.chip d t.chip
    ∧ (∀ r, r ≠ q.ring → r ≠ answerRing q.ring → vget t.chip.mb.rings r = vget d.mb.rings r)
    ∧ d.mb.out <+: t.chip.mb.out ∧ t.chip.pair = { d.pair with tx := t.chip.pair.tx }

/-- The control die has entered RESET for `cause` (18 R493, R499, R501): its image, its rings and what waited are gone, COUNT has
risen, RSTOUT_N is low; the anchors, the flash, the persistent log and the metrology die are as they were. -/
def EnteredReset (cause : Cause) (c e : Chip) : Prop :=
  e.sys.dev = .reset ∧ e.sys.duhorn = false ∧ e.pow.cause = cause ∧ e.pow.count = min (c.pow.count + 1) 255
    ∧ e.pow.rstoutLow = true ∧ e.active = false ∧ e.mb = {} ∧ e.deferB = [] ∧ e.pair.st = none
    ∧ e.anchor = c.anchor ∧ e.metro = c.metro ∧ e.boot.fw = c.boot.fw ∧ e.boot.cfgSlot = c.boot.cfgSlot ∧ e.sys.nor = c.sys.nor

/-- How far a key slot has come (17 R465): STANDBY, ACTIVE, REVOKED. -/
def KeyState.rank : KeyState → Nat
  | .standby => 0 | .active => 1 | .revoked => 2

/-- Anchors only ever move forward (17 R464, R465): no key slot goes back a state, no security version counter falls. -/
def Anchors.forward (a b : Anchors) : Prop :=
  (∀ k : Fin 3, (vget a.keys k).rank ≤ (vget b.keys k).rank ∧ (vget a.safeKeys k).rank ≤ (vget b.safeKeys k).rank)
    ∧ a.secVer ≤ b.secVer ∧ a.safeSecVer ≤ b.safeSecVer

/-- The security version counters are within their 64 fuses (17 R464). -/
def Anchors.bounded (a : Anchors) : Prop := a.secVer ≤ 64 ∧ a.safeSecVer ≤ 64

/-- The commands of the metrology die: what happens on its own pins, supplies, service port and dies' link (12 R365, R386). -/
def metrologyCommand : Instr → Bool
  | .metroMessageReceived _ | .messageGap | .weighWindowTimeout _ | .selfCheckStart _ | .selfCheckDone _ _ | .zeroOverdue _ | .checkOverdue _ | .batchClose
  | .sealNChange _ | .metroPowerUp _ | .metroSvcReadParam _ | .metroSvcWriteParam _ | .metroSvcAdjZero _ | .metroSvcAdjSpan _
  | .metroSvcWeigh _ | .metroSvcFwLoad _ _ | .metroSvcDiscard _ | .loadCellSample _ _ _ _
  | .metroSupplyLoss => true
  | _ => false

/-- The scratch memory of an engine is in its one form: addresses strictly rising. An unlisted byte reads as a free value (log 11), which
no listed byte can be shown to equal. -/
def Memory.wf (m : List Host.Cell) : Bool := decide (m.Pairwise fun x y => x.1 < y.1)

/-- Wherever the command runs to, the module is `keep s.chip d` for some `d`, settled: it changes nothing else. -/
def Confined (i : Instr) (s : State) (keep : Chip → Chip → Chip) : Prop :=
  ∀ t, exec i s = .next t → ∃ d, d = keep s.chip d ∧ Settled s.chip d t.chip

end Sys2Proof.Machine
end

