-- ==== Sys2Proof/Certificates/Slice0/Obligations.lean ====
section
/-!
DEFINITION. The statements for the provers: what every command of the block does, by family; what no command changes; reset and the step.
-/

open Sys2Proof Sys2Proof.Machine

/-- What the unit is and holds, echo, latch clearing, reset and the fault log (16 R453, R457, R460, R461): the effect of each and its
answer in the layout of its rule.
Shown to complete: sysEcho, sysClearLatch, sysReset, sysGetFaultLog, clearFault, clearFaultTimeout, sysGetIdentity, sysGetVersion,
sysGetStatus, sysGetEnv. -/
def Obligations.SystemCommandsAct : Prop :=
  (∀ q s, heard 0x0108 1024 (fun b => b.length ≤ 1020) q s.chip → Answers (.sysEcho q) 0x0108 q s .ok q.payload s.chip)
  ∧ (∀ q s d, heard 0x010A 6 (lay 4 fun b => [bLe b 0 0x1F, rsv b 1 3]) q s.chip →
    d = s.chip.onSys (fun y => { y with latch := y.latch &&& (y.latch ^^^ byteN q.payload 0) }) →
    Answers (.sysClearLatch q) 0x010A q s .ok (le 2 (d.sys.gcond + 256 * d.sys.latch)) d)
  ∧ (∀ q s, heard 0x0109 4 laySysReset q s.chip → ¬ (s.chip.pair.st = some .primary ∧ s.chip.pair.partner = 2) →
    (s.chip.sys.dev = .safeIdle ∨ s.chip.sys.dev = .configured ∨ s.chip.sys.dev = .faultHalt) →
    allArms s.chip (fun a => a.st = .disabled || a.st = .faulted) → allAux s.chip (fun a => a.st = .disabled || a.st = .faulted) →
    nodesStopped s.chip → Answers (.sysReset q) 0x0109 q s .ok [] (s.chip.onSys fun y => { y with resetting := true }))
  ∧ (∀ q s log top more, heard 0x0106 144 layFaultLog q s.chip → ru q.payload 0 4 = 0xFFFFFFFF →
    log = (if byteN q.payload 5 = 0 then s.chip.sys.log else s.chip.sys.nor) → log = top :: more →
    Answers (.sysGetFaultLog q) 0x0106 q s .ok
      (le 1 (log.take (byteN q.payload 4)).length ++ zeros 3 ++ le 4 (log.getLastD top).index ++ le 4 top.index
        ++ ((log.take (byteN q.payload 4)).map faultBytes).flatten) s.chip)
  ∧ (∀ q s, heard 0x0105 4 layNone q s.chip → s.chip.sys.dev = .faultHalt → s.chip.sys.haltCauses = [] →
    allArms s.chip armRest → allAux s.chip armRest → s.chip.sys.clearPending = none →
    Answers (.clearFault q) 0x0105 q s .queued [] (s.chip.onSys fun y => { y with
      clearPending := some (⟨0x0105, q.ring, q.seq⟩, s.chip.now + 60000000000) }))
  ∧ (∀ s o e, s.chip.sys.clearPending = some (o, e) → Completes .clearFaultTimeout s
    (complete ((s.chip.atTime e).onSys fun y => { y with clearPending := none }) o.opcode .timeout o.ring o.seq))
  ∧ (∀ q s, heard 0x0101 60 layNone q s.chip → Answers (.sysGetIdentity q) 0x0101 q s .ok
    (le 2 0x0096 ++ le 1 Config.siliconRev ++ zeros 1 ++ fit 32 Config.unitId ++ fit 16 Config.serial ++ le 2 Config.madeYear
      ++ le 1 Config.madeWeek ++ zeros 1) s.chip)
  ∧ (∀ q s, heard 0x0102 40 layNone q s.chip → s.chip.sys.duhorn = false → Answers (.sysGetVersion q) 0x0102 q s .ok
    (ver3 Config.bootRomVersion ++ zeros 33) s.chip)
  ∧ (∀ q s f, heard 0x0102 40 layNone q s.chip → s.chip.sys.duhorn = true → f = vget s.chip.boot.fw s.chip.boot.running →
    Answers (.sysGetVersion q) 0x0102 q s .ok
      (ver3 Config.bootRomVersion ++ zeros 1 ++ ver3 f.version ++ le 1 s.chip.boot.running ++ le 4 f.build ++ ver3 f.subVersion
        ++ zeros 1 ++ (if s.chip.active then le 4 s.chip.cfg.generation ++ ver3 s.chip.cfg.glopo ++ zeros 1
          ++ le 4 s.chip.sio.scv ++ fit 8 s.chip.boot.imageDigest else zeros 20)) s.chip)
  ∧ (∀ q s, heard 0x0103 36 layNone q s.chip → s.chip.sys.duhorn = false → Answers (.sysGetStatus q) 0x0103 q s .ok
    (le 1 2 ++ le 1 0xFF ++ zeros 30) s.chip)
  ∧ (∀ q s y, heard 0x0103 36 layNone q s.chip → y = s.chip.sys → y.duhorn = true → Answers (.sysGetStatus q) 0x0103 q s .ok
    (le 1 y.dev.code ++ le 1 (pairCode s.chip.pair.st) ++ le 2 (y.gcond + 256 * y.latch) ++ le 4 (s.chip.cyc % 2 ^ 32)
      ++ le 4 ((s.chip.now - y.releasedAt) / 1000000000)
      ++ le 1 (bits [y.safetyDefaults, y.clearPending.isSome, y.autoLatched.isSome, !y.fallback.isEmpty])
      ++ le 1 (degradeByte s.chip) ++ le 2 y.haltCode ++ le 1 y.haltObject ++ zeros 3 ++ le 4 y.haltCycle ++ le 4 y.logged
      ++ le 4 (msLeft s.chip.now y.autoOffEnd)) s.chip)
  ∧ (∀ q s, heard 0x0107 28 layNone q s.chip → Answers (.sysGetEnv q) 0x0107 q s .ok
    (leI 2 s.chip.sys.tDie ++ leI 2 s.chip.sys.tSafe ++ leI 2 s.chip.sys.tCase ++ leI 2 s.chip.sys.tPeak
      ++ le 2 (maskOf 14 (supplyIn s.chip)) ++ zeros 2 ++ le 4 (Config.powerEstimate 0 s.chip.free)
      ++ le 4 (Config.powerEstimate 1 s.chip.free) ++ le 4 (Config.powerEstimate 2 s.chip.free)) (takeFree s.chip))

/-- SET_DEVICE_STATE (16 R458): where the target may be entered from the present state (01 R33), the change waits for the next
boundary and the answer names its cycle; a request for the present state is answered at once; a target the state bars is refused
and nothing changes. A cycle boundary (01 R13) counts the cycle, starts it, and serves what fell due; none comes in RESET.
Shown to complete: setDeviceState, cycleBoundary. -/
def Obligations.DeviceStateRequests : Prop :=
  (∀ q s, heard 0x0104 12 laySetState q s.chip →
    ((byteN q.payload 0 = 4 ∧ s.chip.sys.dev = .commissioning ∧ allArms s.chip (·.st = .disabled))
      ∨ (byteN q.payload 0 = 5 ∧ s.chip.sys.dev = .configured ∧ s.chip.sys.haltCauses = [])
      ∨ (byteN q.payload 0 = 6 ∧ (s.chip.sys.dev = .configured ∨ s.chip.sys.dev = .commissioning) ∧ s.chip.sys.confirmed
          ∧ s.chip.sys.allOk)
      ∨ (byteN q.payload 0 = 7 ∧ s.chip.sys.dev = .ready ∧ autoOffRuns s.chip = false ∧ s.chip.sys.confirmed ∧ s.chip.sys.allOk
          ∧ s.chip.sys.safetyDefaults = false)) →
    Answers (.setDeviceState q) 0x0104 q s .queued
      (le 1 s.chip.sys.dev.code ++ zeros 3 ++ le 4 ((s.chip.cyc + ahead s.chip 0x0104) % 2 ^ 32))
      { s.chip with deferB := s.chip.deferB ++ [⟨s.chip.cyc + ahead s.chip 0x0104, q.ring, q.seq, 0x0104, q.payload⟩] })
  ∧ (∀ q s, heard 0x0104 12 laySetState q s.chip → byteN q.payload 0 = s.chip.sys.dev.code → s.chip.sys.autoLatched = none →
    Answers (.setDeviceState q) 0x0104 q s .ok (le 1 s.chip.sys.dev.code ++ zeros 3 ++ le 4 (s.chip.cyc % 2 ^ 32)) s.chip)
  ∧ (∀ q s, heard 0x0104 12 laySetState q s.chip →
    ((byteN q.payload 0 = 4 ∧ s.chip.sys.dev = .ready) ∨ (byteN q.payload 0 = 5 ∧ s.chip.sys.dev = .automatic)
      ∨ (byteN q.payload 0 = 7 ∧ s.chip.sys.dev = .configured)) →
    Answers (.setDeviceState q) 0x0104 q s .refusedState [] s.chip)
  ∧ (∀ q s, heard 0x0104 12 laySetState q s.chip → byteN q.payload 0 = 6 → s.chip.sys.dev = .configured →
    s.chip.sys.confirmed = false → Answers (.setDeviceState q) 0x0104 q s .unconfirmed [] s.chip)
  ∧ (∀ s kat, s.chip.sys.duhorn = false ∨ s.chip.sys.dev = .off ∨ s.chip.sys.dev = .reset → Completes (.cycleBoundary kat) s s.chip)
  ∧ (∀ s kat t, s.chip.sys.duhorn = true → s.chip.sys.dev ≠ .off → s.chip.sys.dev ≠ .reset → s.chip.pair.st = none → t = nextStart s.chip →
    Runs (.cycleBoundary kat) s fun e => e.cyc = s.chip.cyc + 1 ∧ e.t0 = t ∧ max s.chip.now t ≤ e.now
      ∧ e.ptOff = (((s.chip.cyc + 1) * s.chip.period : Nat) : Int) - t ∧ ∀ d ∈ e.deferB, d ∈ s.chip.deferB ∧ e.cyc < d.due)

/-- PROD and CONS (15 R431-R434): a doorbell on a host ring within the depth moves PROD, one further ahead is ignored with
BAD_DOORBELL, one on a KX96-produced ring or one attached to the tunnel is ignored with PRODUCER_VIOLATION; CONS within PROD frees what was read and is ignored
beyond it, and is refused with BAD_ACCESS on a host ring.
Shown to complete: doorbell, consWrite. -/
def Obligations.IndicesMoveWithinTheDepth : Prop :=
  (∀ (r : Fin 32) v s, ringsServed s.chip → r.val < 30 → hostRing r → attached s.chip r = false →
    (v + 65536 - (vget s.chip.mb.rings r).cons) % 65536 ≤ (vget s.chip.mb.rings r).depth →
    Completes (.doorbell r v) s (moveRing s.chip r fun g => { g with prod := v % 65536 }))
  ∧ (∀ (r : Fin 32) v s, ringsServed s.chip → r.val < 30 → hostRing r → attached s.chip r = false →
    (vget s.chip.mb.rings r).depth < (v + 65536 - (vget s.chip.mb.rings r).cons) % 65536 →
    Completes (.doorbell r v) s (errSet s.chip 1))
  ∧ (∀ (r : Fin 32) v s, ringsServed s.chip → hostRing r = false ∨ attached s.chip r = true → Completes (.doorbell r v) s (errSet s.chip 2))
  ∧ (∀ (r : Fin 32) v s, ringsServed s.chip → 30 ≤ r.val → (vget s.chip.mb.rings r).cons = (vget s.chip.mb.rings r).prod →
    (v + 65536 - (vget s.chip.mb.rings r).cons) % 65536 ≤ (vget s.chip.mb.rings r).depth / 2 →
    Completes (.doorbell r v) s (moveRing s.chip r fun g => { g with
      prod := v % 65536, expectAtBell := g.expect, part := [] }))
  ∧ (∀ (r : Fin 32) v s, ringsServed s.chip → hostRing r = false → attached s.chip r = false → (vget s.chip.mb.rings r).held = [] →
    (v + 65536 - (vget s.chip.mb.rings r).cons) % 65536 ≤ (vget s.chip.mb.rings r).used →
    Completes (.consWrite r v) s (moveRing s.chip r fun g => { g with
      cons := v % 65536, buf := g.buf.drop ((v + 65536 - (vget s.chip.mb.rings r).cons) % 65536) }))
  ∧ (∀ (r : Fin 32) v s, ringsServed s.chip → hostRing r = true → Completes (.consWrite r v) s (errSet s.chip 3))

/-- CTRL (15 R431, R432): ENABLE written 1 puts a ring in service with the base and depth of that moment and empty indices; the ring
keeps its interrupt and coalescing settings (a tunnelled ring is the tunnel's, log 45); ENABLE written 0 takes it out of service.
Shown to complete: ringEnable. -/
def Obligations.RingEnableTakesBaseAndDepth : Prop :=
  (∀ (r : Fin 32) v s, ringsServed s.chip → attached s.chip r = false → mbit v 4 = true → (vget s.chip.mb.rings r).enable = false → keepsContent r = false →
    Runs (.ringEnable r v) s fun e => ∃ g h, g = vget e.mb.rings r ∧ h = vget s.chip.mb.rings r ∧
      g.enable = true ∧ g.base = h.baseHi * 4294967296 + h.baseLo ∧ g.depthTaken = (if 4 ≤ v % 16 ∧ v % 16 ≤ 12 then v % 16 else 4)
      ∧ g.prod = 0 ∧ g.cons = 0 ∧ g.expect = 0 ∧ g.buf = [] ∧ g.msg = none ∧ g.part = [] ∧ g.stopped = false
      ∧ g.irqEn = mbit v 5 ∧ g.coalesce = v / 65536 % 256 ∧ g.drop = h.drop ∧ g.nextSeq = h.nextSeq)
  ∧ (∀ (r : Fin 32) v s, ringsServed s.chip → attached s.chip r = false → mbit v 4 = true → (vget s.chip.mb.rings r).enable = false → keepsContent r = true →
    Runs (.ringEnable r v) s fun e => ∃ g h, g = vget e.mb.rings r ∧ h = vget s.chip.mb.rings r ∧
      g.enable = true ∧ g.cons = 0 ∧ g.prod = g.buf.length ∧ g.buf ++ g.held = h.buf ++ h.held)
  ∧ (∀ (r : Fin 32) v s, ringsServed s.chip → attached s.chip r = false → mbit v 4 = false → (vget s.chip.mb.rings r).enable = true →
    Runs (.ringEnable r v) s fun e => (vget e.mb.rings r).enable = false ∧ (vget e.mb.rings r).buf = (vget s.chip.mb.rings r).buf)

/-- Registers of the page (15 R431): a whole word written to an RW register is stored, a narrower write and a write to a reserved or
RO location are ignored with BAD_ACCESS, and a read returns the word, with what was last written in the bits it has;
DROP and CRC_ERR clear when they are read; a vector that waits (the model's, log 80) leaves when its mask bit falls.
Shown to complete: registerWrite, readClear. -/
def Obligations.PageReadsAndWrites : Prop :=
  (∀ (r : Fin 32) v s, ringsServed s.chip → Completes (.registerWrite (0x1000 + 64 * r.val) v 4) s
    (onRing s.chip r fun g => { g with baseLo := v - v % 4096 }))
  ∧ (∀ (r : Fin 32) v s, ringsServed s.chip → Completes (.registerWrite (0x1004 + 64 * r.val) v 4) s
    (onRing s.chip r fun g => { g with baseHi := v }))
  ∧ (∀ v s, ringsServed s.chip → Completes (.registerWrite 0x24 v 4) s (s.chip.onMb fun m => { m with intMask := v })
      ∧ Completes (.registerWrite 0x2C v 4) s (s.chip.onMb fun m => { m with errMask := v % 32 })
      ∧ Completes (.registerWrite 0x30 v 4) s (s.chip.onMb fun m => { m with wbLo := v / 256, wbEn := mbit v 0 })
      ∧ Completes (.registerWrite 0x34 v 4) s (s.chip.onMb fun m => { m with wbHi := v }))
  ∧ (∀ (k : Fin 132) v s, ringsServed s.chip → mbit s.chip.mb.pba (k / 4) = false ∨ (k.val % 4 = 3 ∧ mbit v 0 = true) →
    Completes (.registerWrite (0x8000 + 4 * k.val) v 4) s (s.chip.onMb fun m => { m with msix := vset m.msix k v }))
  ∧ (∀ (n : Fin 33) v s, ringsServed s.chip → mbit s.chip.mb.pba n = true → mbit v 0 = false →
    Runs (.registerWrite (0x800C + 16 * n.val) v 4) s fun e => mbit e.mb.pba n = false ∧ n.val ∈ e.mb.irqOut)
  ∧ (∀ off v width s, ringsServed s.chip → width ≠ 4 ∨ off = 0 ∨ off = 4 ∨ off = 0xC ∨ off = 0x10 ∨ off = 0x18 →
    Completes (.registerWrite off v width) s (errSet s.chip 3))
  ∧ (∀ off s, pageServed s.chip → ringOf (off - off % 4) = none → Completes (.readClear off) s
    (s.chip.onMb fun m => { m with rdata := readPage s.chip (off - off % 4) }))
  ∧ (∀ (r : Fin 32) s, pageServed s.chip → Completes (.readClear (0x1018 + 64 * r.val)) s
    (onRing (s.chip.onMb fun m => { m with rdata := (vget s.chip.mb.rings r).drop }) r fun g => { g with drop := 0 }))
  ∧ (∀ (r : Fin 32) s, pageServed s.chip → Completes (.readClear (0x101C + 64 * r.val)) s
    (onRing (s.chip.onMb fun m => { m with rdata := (vget s.chip.mb.rings r).crcErr }) r fun g => { g with crcErr := 0 }))
  ∧ (∀ s off v, ringsServed s.chip → v < 2 ^ 32 →
      (off = 0x24 ∨ off = 0x2C ∨ off = 0x34 ∨ (∃ r : Fin 32, off = 0x1000 + 64 * r.val ∨ off = 0x1004 + 64 * r.val)
        ∨ ∃ k : Fin 132, off = 0x8000 + 4 * k.val) →
      ∃ t u, exec (.registerWrite off v 4) s = .next t ∧ exec (.readClear off) t = .next u ∧ u.chip.mb.rdata =
        (if off = 0x2C then v % 32 else if 0x1000 ≤ off ∧ off < 0x1800 ∧ off % 64 = 0 then v - v % 4096 else v))

/-- The bits that writing 1 clears (15 R431, 01 R23, 18 R501): INT_STATUS, ERR_STATUS, GCOND_LATCH, ring STATUS and RSTSTAT.
Shown to complete: w1cClear. -/
def Obligations.WritingOneClears : Prop :=
  (∀ v s, ringsServed s.chip → v < 2 ^ 32 →
    Completes (.w1cClear 0x20 v) s (s.chip.onMb fun m => { m with intStatus := m.intStatus &&& (m.intStatus ^^^ v) }))
  ∧ (∀ v s, ringsServed s.chip →
    Completes (.w1cClear 0x28 v) s (s.chip.onMb fun m => { m with errStatus := m.errStatus &&& (m.errStatus ^^^ (v % 32)) }))
  ∧ (∀ v s, ringsServed s.chip →
    Completes (.w1cClear 0x08 v) s (s.chip.onSys fun y => { y with latch := y.latch &&& (y.latch ^^^ (v / 256 % 32)) }))
  ∧ (∀ (r : Fin 32) v s, ringsServed s.chip → Completes (.w1cClear (0x1014 + 64 * r.val) v) s (moveRing s.chip r fun g => { g with
      badEntry := g.badEntry && !mbit v 0, overflow := g.overflow && !mbit v 1, msgAborted := g.msgAborted && !mbit v 3,
      resendLimit := g.resendLimit && !mbit v 4, dmaFault := g.dmaFault && !mbit v 5 }))
  ∧ (∀ v s, pageServed s.chip → Completes (.w1cClear 0x14 v) s (s.chip.onPow fun p => { p with
      resetStuck := p.resetStuck && !mbit v 5, safeReset := p.safeReset && !mbit v 4, refclkBad := p.refclkBad && !mbit v 2 }))

/-- Interrupts, a failed ring DMA and the tunnel (15 R431, R439, R443, R445): what each does where it applies. That a masked
vector waits in the pending-bit array is MSI-X as the model presumes it (log 80).
Shown to complete: interruptCoalesce, dmaErr, tunnelDatagram, tunnelResend. -/
def Obligations.SignallingAndTunnel : Prop :=
  (∀ (r : Fin 32) s, 0 < (vget s.chip.mb.rings r).unsignalled → Completes (.interruptCoalesce r) s (ringInt s.chip r))
  ∧ (∀ (r : Fin 32) s, (vget s.chip.mb.rings r).irqEn = true → 0 < (vget s.chip.mb.rings r).unsignalled →
    Runs (.interruptCoalesce r) s fun e => mbit e.mb.intStatus r = true ∧ (vget e.mb.rings r).unsignalled = 0)
  ∧ (∀ (r : Fin 32) s, (vget s.chip.mb.rings r).enable = true → Completes (.dmaErr r) s
    (errSet (moveRing s.chip r fun g => { g with dmaFault := true, stopped := true }) 0))
  ∧ (∀ src port d s, s.chip.cfg.sys.tunnel ≠ 0 → s.chip.active = true → (src, port) ≠ s.chip.cfg.sys.peer →
    Completes (.tunnelDatagram src port d) s (s.chip.onMb fun m => { m with tunDiscard := inc m.tunDiscard }))
  ∧ (∀ src port d s, s.chip.cfg.sys.tunnel ≠ 0 → s.chip.active = true → (src, port) = s.chip.cfg.sys.peer → d.length = 16 →
    ru d 0 2 = 1 → byteN d 3 = 3 → byteN d 6 = 0 → ru d 8 4 = 0 → ru d 12 4 = crc32c (slice d 0 12) →
    Runs (.tunnelDatagram src port d) s fun e => e.mb.tunOpen = true ∧ e.mb.session ≠ 0 ∧ e.mb.sessions = s.chip.mb.sessions + 1
      ∧ ∀ r : Fin 30, attached s.chip r → (vget e.mb.rings r).enable = true ∧ (hostRing r → (vget e.mb.rings r).expect = 0))
  ∧ (∀ (r : Fin 32) s, attached s.chip r → hostRing r = false → s.chip.mb.tunOpen = true → (vget s.chip.mb.rings r).buf ≠ [] →
    4 ≤ vget s.chip.mb.tunTries r → Completes (.tunnelResend r) s
      ((s.chip.atTime (vget s.chip.mb.tunSent r + 2000000)).onMb fun m => { m with tunOpen := false }))
  ∧ (∀ (r : Fin 32) s, attached s.chip r → hostRing r = false → s.chip.mb.tunOpen = true → (vget s.chip.mb.rings r).buf ≠ [] →
    vget s.chip.mb.tunTries r < 4 → Completes (.tunnelResend r) s
      (tunSend ((s.chip.atTime (vget s.chip.mb.tunSent r + 2000000)).onMb fun m => { m with
        tunTries := vmod m.tunTries r (· + 1) }) r (vget s.chip.mb.rings r).buf true))
  ∧ (∀ c (n : Fin 33), masked c.mb n = true → c.pow.linkUp = true → c.pow.perstLow = false →
    (vector c n).mb.irqOut = c.mb.irqOut ∧ mbit (vector c n).mb.pba n = true)
  ∧ (∀ c (n : Fin 33), masked c.mb n = false → mbit c.mb.pba n = true → c.pow.linkUp = true → c.pow.perstLow = false →
    (msixWrite c (4 * n.val) 0).mb.irqOut = n.val :: c.mb.irqOut ∧ mbit (msixWrite c (4 * n.val) 0).mb.pba n = false)

/-- Entries into the rings and out of them (15 R435-R437, R440, R441): an accepted whole message waits to be validated, a read that
fails its check four times is rejected with BAD_ENTRY and EXPECT kept, the oldest report is written to its ring, and a telemetry
period reports every engine in service, every tile and the module.
Shown to complete: mailboxEntryReceived, deliverEntry, telemetryPeriod. -/
def Obligations.EntriesAndReports : Prop :=
  (∀ (r : Fin 32) s e, r.val < 8 → attached s.chip r = false → serves s.chip r → (vget s.chip.mb.rings r).msg = none →
    (vget s.chip.mb.rings r).used ≠ 0 → (vget s.chip.mb.rings r).abandoned = false → (vget s.chip.mb.rings r).await = false →
    (vget s.chip.mb.rings r).part = [] → e.checkOk = true → e.seq = (vget s.chip.mb.rings r).expect → e.first = true →
    e.last = true → e.ackreq = false → e.cls = 1 → e.len ≤ 52 → listedOpcode e.opcode → ringAccepts s.chip.sys.duhorn r e.opcode →
    Runs (.mailboxEntryReceived r [e]) s fun x =>
      (vget x.mb.rings r).msg = some ⟨e.opcode, e.seq, 1, e.payload.take e.len⟩
      ∧ (vget x.mb.rings r).expect = (e.seq + 1) % 65536
      ∧ (vget x.mb.rings r).cons = ((vget s.chip.mb.rings r).cons + 1) % 65536)
  ∧ (∀ (r : Fin 32) s a b c e, r.val < 8 → attached s.chip r = false → serves s.chip r → (vget s.chip.mb.rings r).msg = none →
    (vget s.chip.mb.rings r).used ≠ 0 → (vget s.chip.mb.rings r).abandoned = false → (vget s.chip.mb.rings r).await = false →
    (vget s.chip.mb.rings r).rejects = 0 → a.checkOk = false → b.checkOk = false → c.checkOk = false → e.checkOk = false →
    Runs (.mailboxEntryReceived r [a, b, c, e]) s fun x =>
      (vget x.mb.rings r).badEntry = true ∧ (vget x.mb.rings r).await = true ∧ (vget x.mb.rings r).rejects = 1
      ∧ (vget x.mb.rings r).expect = (vget s.chip.mb.rings r).expect
      ∧ (vget x.mb.rings r).crcErr = inc (vget s.chip.mb.rings r).crcErr
      ∧ (vget x.mb.rings r).cons = ((vget s.chip.mb.rings r).cons + 1) % 65536 ∧ (vget x.mb.rings r).msg = none)
  ∧ (∀ s m l g, s.chip.mb.out = m :: l → m.ring < 32 → m.opcode ≠ 0x0280 → g = vget s.chip.mb.rings m.ring →
    ringRoom s.chip m.ring (entriesOf m.len) → Runs .deliverEntry s fun x =>
      l <+: x.mb.out ∧ (vget x.mb.rings m.ring).buf
        = g.buf ++ entries m.opcode m.cls m.len m.payload g.lost (fun k => g.nextSeq + k)
      ∧ (vget x.mb.rings m.ring).nextSeq = (g.nextSeq + entriesOf m.len) % 65536 ∧ (vget x.mb.rings m.ring).lost = false)
  ∧ (∀ s m l, s.chip.mb.out = m :: l → m.ring < 28 → m.opcode ≠ 0x0280 → m.opcode ≠ 0x0380 →
    ringRoom s.chip m.ring (entriesOf m.len) = false → Completes .deliverEntry s
      (onRing (s.chip.onMb fun b => { b with out := l }) m.ring fun g => { g with
        drop := inc g.drop, overflow := true, lost := true }))
  ∧ (∀ s, s.chip.active = true → Runs .telemetryPeriod s fun x => ∃ l, (s.chip.mb.out ++ l) <+: x.mb.out
      ∧ (∀ m ∈ l, m.ring = 26 ∧ m.cls = 5)
      ∧ (l.map (·.opcode)) = List.replicate (indices 18 fun e => (vget s.chip.loops.eng e).st = .inService).length 0x0580
          ++ List.replicate 9 0x0680 ++ [0x0780])

/-- Supplies (18 R488-R492): a supply is judged by its thresholds, SUPPLY_OK follows from all of them, a rise that breaks a rule of R490
holds the die with SEQ_HOLD, and 10 ms of every control supply absent release the hold.
Shown to complete: supplyRise, supplyAbsent, fieldSupplyFault. -/
def Obligations.SuppliesAreJudged : Prop :=
  (∀ (k : Fin 14) mv t s, Runs (.supplyRise k mv t) s fun e =>
    vget e.pow.sup k = supplyAt k mv (max s.chip.now t) (vget s.chip.pow.sup k)
    ∧ (e.sys.supplyOk = true ↔ e.sys.dev ≠ .reset ∧ e.sys.dev ≠ .off ∧ e.pow.fieldReversed = false ∧ ∀ j < 14, ¬ (10 ≤ j ∧ j ≤ 12) →
        (vget e.pow.sup j).up = true ∧ (vget e.pow.sup j).overV = false))
  ∧ (∀ mv t s, s.chip.sys.dev = .reset → s.chip.pow.valid = true → s.chip.pow.nextPowerOn = false →
    (vget s.chip.pow.sup 1).present = false → (vget s.chip.pow.sup 0).up = false → 85 ≤ mv → s.chip.pow.cause = .powerOn →
    Runs (.supplyRise 1 mv t) s fun e => e.pow.seqHold = true ∧ e.pow.cause = .sequence ∧ e.pow.rule = 1 ∧ e.pow.supplyIx = 1)
  ∧ (∀ t s a, s.chip.pow.absentSince = some a → controlAbsent s.chip → a + 10000000 ≤ t → Completes (.supplyAbsent t) s
    ((s.chip.atTime t).onPow fun p => { p with seqHold := false, nextPowerOn := p.valid }))
  ∧ (∀ mv s, Runs (.fieldSupplyFault true mv) s fun e => e.pow.fieldReversed = true ∧ e.sys.supplyOk = false
    ∧ ∀ k : Fin 4, (vget e.lt.enc k).epwr = false)

/-- What takes the control die to RESET (18 R493, R495, R497, R499, R501, 16 R461, 17 R472), with the cause each records.
Shown to complete: overtemp, clockFault, resetN, sequenceViolation, brownout, bootWatchdog, heartbeatTick, safetySupplyLoss. -/
def Obligations.CausesOfReset : Prop :=
  (∀ s t, s.chip.sys.dev ≠ .reset → s.chip.sys.dev ≠ .off → Runs (.overtemp t) s fun e =>
    EnteredReset .overtemp s.chip e ∧ e.pow.hot = true)
  ∧ (∀ s b t, s.chip.sys.dev ≠ .reset → s.chip.sys.dev ≠ .off → Runs (.clockFault b t) s fun e =>
    EnteredReset .clock s.chip e ∧ e.pow.clockOk = false ∧ e.pow.refclkBad = (s.chip.pow.refclkBad || b))
  ∧ (∀ s t, s.chip.sys.dev ≠ .reset → s.chip.sys.dev ≠ .off → Runs (.resetN true t) s fun e =>
    EnteredReset .resetN s.chip e ∧ e.pow.resetLow = true)
  ∧ (∀ s (k : Fin 14) r t, s.chip.sys.dev ≠ .reset → s.chip.sys.dev ≠ .off → s.chip.pow.valid = true → k.val < 8 →
    Runs (.sequenceViolation r k t) s fun e => EnteredReset .sequence s.chip e ∧ e.pow.seqHold = true ∧ e.pow.rule = r
      ∧ e.pow.supplyIx = k)
  ∧ (∀ s (k : Fin 14) mv t, s.chip.sys.dev ≠ .reset → s.chip.sys.dev ≠ .off → s.chip.pow.valid = true → k.val < 8 →
    (vget s.chip.pow.sup k).up = true → (Config.supplyRow k).2.2.2 ≤ mv → mv < (Config.supplyRow k).1 →
    Runs (.brownout k mv t) s fun e => EnteredReset .brownout s.chip e ∧ e.pow.supplyIx = k ∧ (vget e.pow.sup k).up = false)
  ∧ (∀ s w t, s.chip.boot.watchdog = some w → s.chip.sys.dev = .boot → w + 10000000000 ≤ t →
    Runs (.bootWatchdog t) s fun e => EnteredReset .bootWatchdog s.chip e)
  ∧ (∀ s, s.chip.sys.duhorn = true → s.chip.sys.resetting = true → s.chip.sys.dev ≠ .reset → s.chip.sys.dev ≠ .off →
    Runs .heartbeatTick s fun e => EnteredReset .sysReset s.chip e)
  ∧ (∀ s io t, (vget s.chip.pow.sup 0).present = true → Runs (.safetySupplyLoss io t) s fun e => e.sys.dev = .reset ∧ e.pow.valid = false
    ∧ e.pow.safeRun = false ∧ vget e.pow.sup (if io then 9 else 8) = {}
    ∧ ∀ o : Fin 8, (vget (vget e.sio.chan 1).out o).sw = Vector.replicate 2 false)

/-- The reset lands (18 R493, R499-R501): the release after 10 ms of its conditions, RESET_N and its stuck bit, SRST_N and the reload
of the safety sub-image, PERST_N and the link.
Shown to complete: resetRelease, resetN, resetNStuck, srstN, safetySubimageReload, perstN, pcieRefclkLoss, safetyClockFault. -/
def Obligations.ResetLandsAct : Prop :=
  (∀ s a t, s.chip.pow.releaseSince = some a → s.chip.sys.dev = .reset → releaseOk s.chip → a + 10000000 ≤ t →
    s.chip.sys.resetting = false → Completes (.resetRelease t) s
      (judgeSupply (((s.chip.atTime t).onPow fun p => { p with rstoutLow := false, clockOk := true, releaseSince := none }).onSys
        fun y => { y with dev := .boot, releasedAt := max s.chip.now t })))
  ∧ (∀ s t, Runs (.resetN false t) s fun e => e.pow.resetLow = false ∧ e.sys.dev = s.chip.sys.dev ∧ e.pow.cause = s.chip.pow.cause)
  ∧ (∀ s t, s.chip.pow.resetLow = true → s.chip.pow.resetLowAt + 10000000000 ≤ t → Completes (.resetNStuck t) s
    ((s.chip.atTime t).onPow fun p => { p with resetStuck := true }))
  ∧ (∀ s t, s.chip.sys.dev ≠ .reset → s.chip.sys.dev ≠ .off → Runs (.srstN true t) s fun e =>
    e.pow.srstLow = true ∧ e.pow.safeReset = true ∧ e.pow.safeRun = false ∧ e.sep.ironFail = true ∧ e.sys.dev = s.chip.sys.dev
    ∧ (∀ h ∈ [(0x0A0C, 1), (0x0907, 0xFF)], h ∈ e.sys.haltCauses))
  ∧ (∀ s t, Runs (.srstN false t) s fun e => e.pow.srstLow = false ∧ e.pow.safeRun = s.chip.pow.safeRun)
  ∧ (∀ s, s.chip.sys.duhorn = true → s.chip.pow.safeRun = false → s.chip.pow.srstLow = false → safetyUp s.chip →
    Runs (.safetySubimageReload true) s fun e => e.pow.safeRun = true ∧ e.sep.ironFail = false ∧ (vget e.sio.chan 1).fault = false
      ∧ (0x0907, 0xFF) ∉ e.sys.haltCauses)
  ∧ (∀ s, Completes (.safetySubimageReload false) s s.chip)
  ∧ (∀ s, Runs (.perstN true) s fun e => e.pow.perstLow = true ∧ e.pow.linkUp = false ∧ e.mb.intMask = 0xFFFFFFFF ∧ e.mb.wbEn = false
    ∧ ∀ r : Fin 32, attached s.chip r = false → (vget e.mb.rings r).enable = false)
  ∧ (∀ s, Completes (.perstN false) s (s.chip.onPow fun p => { p with perstLow := false, linkUp := true }))
  ∧ (∀ s, Completes .pcieRefclkLoss s (s.chip.onPow fun p => { p with linkUp := false }))
  ∧ (∀ s, Runs .safetyClockFault s fun e => (vget e.sio.chan 1).fault = true ∧ (vget e.sio.chan 1).selfFail = true
    ∧ (0x0A0C, 1) ∈ e.sys.haltCauses)

/-- Beats and readings (15 R431, 19 R511): BEAT counts while Duhorn serves; TEMP_OK falls with the tenth case reading in succession above
100 °C and comes back with the first at or below it.
Shown to complete: heartbeatTick, temperatureReading. -/
def Obligations.BeatsAndTemperatures : Prop :=
  (∀ s, s.chip.sys.duhorn = true → s.chip.sys.resetting = false → Completes .heartbeatTick s
    (s.chip.onSys fun y => { y with heartbeat := (y.heartbeat + 1) % 2 ^ 32 }))
  ∧ (∀ s a b c, s.chip.sys.dev ≠ .reset → s.chip.sys.dev ≠ .off → a ≤ 25600 → Runs (.temperatureReading a b c) s fun e =>
    e.sys.tempOk = true ∧ e.sys.hotRun = 0 ∧ e.sys.tCase = a ∧ e.sys.tDie = b ∧ e.sys.tSafe = c ∧ e.sys.tPeak = max s.chip.sys.tPeak a)
  ∧ (∀ s a b c, s.chip.sys.dev ≠ .reset → s.chip.sys.dev ≠ .off → 25600 < a → Runs (.temperatureReading a b c) s fun e =>
    e.sys.hotRun = s.chip.sys.hotRun + 1 ∧ e.sys.tempOk = (if 9 ≤ s.chip.sys.hotRun then false else s.chip.sys.tempOk)
    ∧ e.sys.tCase = a ∧ e.sys.tPeak = max s.chip.sys.tPeak a)

/-- Boot (17 R468-R472, R480): the boot ROM starts the preferred image if all of R470 holds for it, else the other, else it serves ring 31
for recovery; a trial counts its attempt; Duhorn then reaches SAFE_IDLE with the automatic activation of the active slot.
Shown to complete: bootRom, safeIdleReached. -/
def Obligations.BootPicksAnImage : Prop :=
  (∀ s, s.chip.sys.dev = .boot → s.chip.boot.watchdog = none → s.chip.boot.recovery = false → s.chip.boot.trial = false →
    s.chip.boot.swapAtBoot = false → s.chip.boot.preferred < 2 →
    packageValid (completeBurn s.chip.anchor) (vget s.chip.boot.fw s.chip.boot.preferred) →
    Runs .bootRom s fun e => e.boot.running = s.chip.boot.preferred ∧ e.boot.watchdog = some s.chip.now ∧ e.pow.safeRun = true
      ∧ e.boot.recSeq = s.chip.boot.recSeq ∧ e.anchor = completeBurn s.chip.anchor)
  ∧ (∀ s, s.chip.sys.dev = .boot → s.chip.boot.watchdog = none → s.chip.boot.recovery = false → s.chip.boot.trial = true →
    s.chip.boot.attempts < 2 → s.chip.boot.swapAtBoot = false → s.chip.boot.preferred < 2 →
    packageValid (completeBurn s.chip.anchor) (vget s.chip.boot.fw s.chip.boot.preferred) →
    Runs .bootRom s fun e => e.boot.running = s.chip.boot.preferred ∧ e.boot.runTrial = true
      ∧ e.boot.attempts = s.chip.boot.attempts + 1 ∧ e.boot.recSeq = (s.chip.boot.recSeq + 1) % 2 ^ 32)
  ∧ (∀ s, s.chip.sys.dev = .boot → s.chip.boot.watchdog = none → s.chip.boot.recovery = false →
    (∀ k : Fin 2, packageValid (completeBurn s.chip.anchor) (vget s.chip.boot.fw k) = false) →
    Runs .bootRom s fun e => e.boot.recovery = true ∧ e.boot.watchdog = none ∧ e.sys.dev = .boot)
  ∧ (∀ s w, s.chip.sys.dev = .boot → s.chip.boot.watchdog = some w → Runs .safeIdleReached s fun e =>
    e.sys.dev = .safeIdle ∧ e.sys.duhorn = true ∧ e.boot.watchdog = none
    ∧ e.boot.activation = (if s.chip.boot.activeSlot < 2 ∧ (vget s.chip.boot.cfgSlot s.chip.boot.activeSlot).complete
        ∧ (vget s.chip.boot.cfgSlot s.chip.boot.activeSlot).autoActivate then some s.chip.boot.activeSlot else none))

/-- Activating an image (17 R478): the slot named is judged from its bytes; an image that fails steps 1-4 leaves the device as it was and
is reported with the status of its step; one that passes is in force in CONFIGURED from cycle 0, with its digest, its SCV recomputed, and
IMAGE_OK 0 where a section fell back.
Shown to complete: imageActivation. -/
def Obligations.ImagesActivate : Prop :=
  (∀ s t n o, s.chip.sys.dev = .safeIdle → s.chip.boot.activation = some n → o = vget s.chip.boot.cfgSlot n →
    (o.complete = false ∨ o.wellFormed = false ∨ o.certOk = false ∨ mbit (activeMask s.chip.anchor.keys) o.certSlot = false
      ∨ o.imgSig = false) →
    Completes (.imageActivation t) s (imageEvent ((s.chip.atTime t).onBoot fun b => { b with activation := none }) 3 .checkFail 0 o.generation))
  ∧ (∀ s t n o, s.chip.sys.dev = .safeIdle → s.chip.boot.activation = some n → o = vget s.chip.boot.cfgSlot n → o.complete = true →
    o.wellFormed = true → o.certOk = true → mbit (activeMask s.chip.anchor.keys) o.certSlot = true → o.imgSig = true →
    verLe o.minDuhorn (vget s.chip.boot.fw s.chip.boot.running).version = false →
    Completes (.imageActivation t) s (imageEvent ((s.chip.atTime t).onBoot fun b => { b with activation := none }) 3 .notPermitted 0 o.generation))
  ∧ (∀ s t n o, s.chip.sys.dev = .safeIdle → s.chip.boot.activation = some n → o = vget s.chip.boot.cfgSlot n →
    slotBars s.chip o = none → (∀ e ∈ o.dir, e.num ≠ 0x0C00) → Runs (.imageActivation t) s fun e =>
      e.sys.dev = .configured ∧ e.active = true ∧ e.cyc = 0 ∧ e.t0 = max s.chip.now t ∧ e.boot.activation = none
      ∧ e.cfg = (judgedImage o).2.2 ∧ e.sio.scv = o.scvComputed ∧ e.boot.imageDigest = o.digest.take 32
      ∧ (e.sys.imageOk = true ↔ (judgedImage o).1 = [] ∧ (judgedImage o).2.1 = false)
      ∧ (o.scvComputed ≠ o.scv → e.sys.safetyDefaults = true ∧ e.sys.confirmed = false))

/-- Flash and firmware (17 R474, R479, R484, R485): the status readings, a load that names its chunk and is answered when the chunk is
programmed, and the activation orders.
Shown to complete: fwGetStatus, imageGetStatus, imageLoad, fwLoad, flashOperationDone, imageActivate. -/
def Obligations.FlashCommandsAct : Prop :=
  (∀ q s b, heard 0x0E10 44 layNone q s.chip → b = s.chip.boot → Answers (.fwGetStatus q) 0x0E10 q s .ok
    (le 1 b.running ++ le 1 b.preferred ++ le 1 (bits [b.trial, b.recovery]) ++ le 1 b.attempts ++ le 1 s.chip.anchor.secVer
      ++ keyBytes s.chip.anchor.keys ++ fwBytes s.chip.anchor (vget b.fw 0) ++ fwBytes s.chip.anchor (vget b.fw 1)) s.chip)
  ∧ (∀ q s x, heard 0x0E01 66 layNone q s.chip → x = vget s.chip.boot.cfgSlot (stagedSlot s.chip.boot) → slotBars s.chip x = none →
    Answers (.imageGetStatus q) 0x0E01 q s .ok
      (le 1 s.chip.boot.activeSlot ++ le 1 (bits [s.chip.boot.swapAtBoot, true]) ++ zeros 2
        ++ le 4 (if s.chip.active then s.chip.cfg.generation else 0) ++ le 4 x.generation ++ fit 32 s.chip.boot.imageDigest
        ++ le 16 s.chip.sys.fallbackMap ++ le 2 s.chip.boot.firstFailed) s.chip)
  ∧ (∀ q s x n, heard 0x0E02 8 (fun b => chunkLay b && ru b 4 4 ≤ 33554432 && bLe b 8 1 && rsv b 9 7) q s.chip →
    n = stagedSlot s.chip.boot → x = vget s.chip.boot.cfgSlot n → s.chip.boot.op = none → s.chip.boot.swapAtBoot = false →
    (ru q.payload 0 4 = 0 ∨ (ru q.payload 0 4 = x.data.length ∧ ru q.payload 4 4 = x.total)) →
    Completes (.imageLoad q) s (onRing (s.chip.onBoot fun b => { b with
        op := some ⟨false, q.ring, q.seq, n, ru q.payload 0 4, q.payload.drop 16, ru q.payload 4 4, mbit (byteN q.payload 8) 0⟩,
        cfgSlot := if ru q.payload 0 4 = 0 then vset b.cfgSlot n { total := ru q.payload 4 4 } else b.cfgSlot })
      q.ring fun g => { g with msg := none }))
  ∧ (∀ q s n, heard 0x0E11 9 (fun b => chunkLay b && ru b 4 4 ≤ 67108864 && (bLe b 8 1 || byteN b 8 = 0xFF) && bLe b 9 1 && rsv b 10 6)
      q s.chip → n = (if byteN q.payload 8 = 0xFF then otherImage s.chip else byteN q.payload 8) → n ≠ s.chip.boot.running →
    s.chip.boot.op = none → s.chip.boot.trial = false → ru q.payload 0 4 = 0 → s.chip.anchor.secVer ≤ byteN q.payload 22 →
    Completes (.fwLoad q) s (onRing (s.chip.onBoot fun b => { b with
        op := some ⟨true, q.ring, q.seq, n, 0, q.payload.drop 16, ru q.payload 4 4, mbit (byteN q.payload 9) 0⟩,
        fw := vset b.fw n { total := ru q.payload 4 4 } }) q.ring fun g => { g with msg := none }))
  ∧ (∀ s sigs subs o f, s.chip.boot.op = some o → o.isFw = true → o.target < 2 → (o.ring = 30 ∨ o.ring = 31) →
    f = vget s.chip.boot.fw o.target → Runs (.flashOperationDone sigs subs) s fun e =>
      e.boot.op = none ∧ (vget e.boot.fw o.target).data = f.data ++ o.data
      ∧ (vget e.boot.fw o.target).complete = (o.last && o.offset + o.data.length = o.total)
      ∧ (vget e.mb.rings o.ring).buf = entries 0x0E11 2 9 (le 1 0 ++ zeros 3 ++ le 4 (o.offset + o.data.length)
          ++ le 1 (b2n (o.last && packageOk e.anchor (vget e.boot.fw o.target)))) false (fun _ => o.seq))
  ∧ (∀ s sigs subs o f, s.chip.boot.op = some o → o.isFw = false → o.target < 2 → (o.ring = 30 ∨ o.ring = 31) →
    f = vget s.chip.boot.cfgSlot o.target → Runs (.flashOperationDone sigs subs) s fun e =>
      e.boot.op = none ∧ (vget e.boot.cfgSlot o.target).data = f.data ++ o.data
      ∧ (vget e.boot.cfgSlot o.target).complete = (o.last && o.offset + o.data.length = o.total)
      ∧ (vget e.mb.rings o.ring).buf = entries 0x0E02 2 8 (le 1 0 ++ zeros 3 ++ le 4 (o.offset + o.data.length)) false (fun _ => o.seq))
  ∧ (∀ q s, heard 0x0E03 5 (lay 4 fun b => [bLe b 0 2, rsv b 1 3]) q s.chip → byteN q.payload 0 = 0 → s.chip.sys.dev = .safeIdle →
    s.chip.boot.activation = none → s.chip.boot.op = none →
    slotBars s.chip (vget s.chip.boot.cfgSlot (stagedSlot s.chip.boot)) = none →
    Answers (.imageActivate q) 0x0E03 q s .ok (le 1 (stagedSlot s.chip.boot)) (s.chip.onBoot fun b => { writeRec b with
      activeSlot := stagedSlot b, activation := some (stagedSlot b) }))
  ∧ (∀ q s, heard 0x0E03 5 (lay 4 fun b => [bLe b 0 2, rsv b 1 3]) q s.chip → byteN q.payload 0 = 1 → s.chip.boot.op = none →
    slotBars s.chip (vget s.chip.boot.cfgSlot (stagedSlot s.chip.boot)) = none →
    Answers (.imageActivate q) 0x0E03 q s .ok (le 1 s.chip.boot.activeSlot) (s.chip.onBoot fun b => { writeRec b with swapAtBoot := true }))

/-- Trust (17 R464, R465, R473, R480, R481): FW_SWITCH tries, confirms with the counters raised and never lowered, or reverts; KEY_ROTATE
moves one slot to ACTIVE and one to REVOKED on both dies; ATTEST_GET signs the report over the nonce it was given.
Shown to complete: fwSwitch, keyRotate, attestGet. -/
def Obligations.TrustCommandsAct : Prop :=
  (∀ q s f, heard 0x0E12 6 (lay 4 fun b => [bLe b 0 2, rsv b 1 3]) q s.chip → byteN q.payload 0 = 0 → s.chip.boot.op = none →
    s.chip.active = false → f = vget s.chip.boot.fw (otherImage s.chip) → packageOk s.chip.anchor f → verLe (0, 0, 0) f.version →
    Answers (.fwSwitch q) 0x0E12 q s .ok (le 1 (otherImage s.chip) ++ le 1 s.chip.anchor.secVer)
      (s.chip.onBoot fun b => { writeRec b with preferred := otherImage s.chip, trial := true, attempts := 0 }))
  ∧ (∀ q s v, heard 0x0E12 6 (lay 4 fun b => [bLe b 0 2, rsv b 1 3]) q s.chip → byteN q.payload 0 = 1 → s.chip.boot.op = none →
    s.chip.sys.duhorn = true → s.chip.boot.runTrial = true → s.chip.boot.trial = true →
    v = min 64 (vget s.chip.boot.fw s.chip.boot.running).secVer → Runs (.fwSwitch q) s fun e =>
      e.anchor = { s.chip.anchor with secVer := max s.chip.anchor.secVer v, safeSecVer := max s.chip.anchor.safeSecVer v }
      ∧ e.boot.trial = false ∧ e.boot.runTrial = false ∧ e.boot.preferred = s.chip.boot.preferred
      ∧ Told 0x0E12 q .ok (le 1 s.chip.boot.preferred ++ le 1 (max s.chip.anchor.secVer v)) s.chip e)
  ∧ (∀ q s on off, heard 0x0E21 7 (lay 3112 fun b => [1 ≤ byteN b 0 && byteN b 0 ≤ 2, byteN b 1 ≤ 2 || byteN b 1 = 0xFF, rsv b 2 2,
      rsv b 1829 3]) q s.chip → on = byteN q.payload 0 → off = byteN q.payload 1 →
    (s.chip.sys.dev = .safeIdle ∨ s.chip.sys.dev = .configured) → slice q.payload 4 32 = fit 32 Config.unitId →
    vget s.chip.anchor.keys on = .standby → off < 3 → off ≠ on → vget s.chip.anchor.keys off = .active → s.chip.active = false →
    (∀ k : Fin 2, (vget s.chip.boot.fw k).complete = true →
      (vget s.chip.boot.fw k).signing s.chip.anchor &&& activeMask (rotated s.chip.anchor.keys on off) ≠ 0) → s.chip.boot.op = none →
    shake256 (slice q.payload 36 1793) 32 = vget s.chip.anchor.keyDigest on → Runs (.keyRotate q true true) s fun e =>
      vget e.anchor.keys on = .active ∧ vget e.anchor.keys off = .revoked ∧ vget e.anchor.safeKeys off = .revoked ∧ (∀ k : Fin 3, k.val ≠ on → k.val ≠ off →
          vget e.anchor.keys k = vget s.chip.anchor.keys k ∧ vget e.anchor.safeKeys k = vget s.chip.anchor.safeKeys k)
      ∧ e.anchor.secVer = s.chip.anchor.secVer ∧ Told 0x0E21 q .ok (keyBytes e.anchor.keys) s.chip e)
  ∧ (∀ q s x y, heard 0x0E21 7 (lay 3112 fun b => [1 ≤ byteN b 0 && byteN b 0 ≤ 2, byteN b 1 ≤ 2 || byteN b 1 = 0xFF, rsv b 2 2,
      rsv b 1829 3]) q s.chip → vget s.chip.anchor.keys (byteN q.payload 0) ≠ .standby →
    Answers (.keyRotate q x y) 0x0E21 q s .refusedState [] s.chip)
  ∧ (∀ q s, heard 0x0E20 3208 (fun b => bLe b 0 1 && rsv b 1 3 && b.length = (if byteN b 0 = 0 then 36 else 4)) q s.chip →
    byteN q.payload 0 = 0 → s.chip.sys.duhorn = true → Answers (.attestGet q) 0x0E20 q s .ok
      (le 2 1536 ++ zeros 2 ++ attestReport (slice q.payload 4 32) s.chip
        ++ fit 1280 (Config.falconSign 0 (shake256 (attestReport (slice q.payload 4 32) s.chip) 64))) s.chip)
  ∧ (∀ q s, heard 0x0E20 3208 (fun b => bLe b 0 1 && rsv b 1 3 && b.length = (if byteN b 0 = 0 then 36 else 4)) q s.chip →
    byteN q.payload 0 = 1 → Answers (.attestGet q) 0x0E20 q s .ok (le 2 3200 ++ zeros 2 ++ fit 3200 Config.deviceCert) s.chip)

/-- Encoder inputs (02 R37, R38; 18 R503): a Gray step counts and shows the source healthy; a double change, and an edge less than 25 ns
after the one before it, add no count and are a fault; an SSI frame under way is taken when it passes its checks and is a fault when it
does not; faults and supplies as the wiring reports them. What the input held at t_in stays at hand (02 R41).
Shown to complete: encoderEdge, ssiFrame, sourceFault, encoderWiringFault, epwrRetry. -/
def Obligations.EncodersCount : Prop :=
  (∀ s (e : Fin 4) x (t : Nat), x = vget s.chip.lt.enc e → (∀ u, x.seenEdge = some u → u + 25 ≤ s.chip.plantAt t) →
    Completes (.encoderEdge e (!x.a) x.b t) s (onEnc (s.chip.atTime t) e fun y => ({ keepTin s.chip t y with
      a := !x.a, seenEdge := some (s.chip.plantAt t), count := y.count + (if x.a = x.b then 1 else -1),
      lastEdge := some (s.chip.plantAt t) }).resolves))
  ∧ (∀ s (e : Fin 4) x (t : Nat), x = vget s.chip.lt.enc e → (∀ u, x.seenEdge = some u → u + 25 ≤ s.chip.plantAt t) →
    Completes (.encoderEdge e x.a (!x.b) t) s (onEnc (s.chip.atTime t) e fun y => ({ keepTin s.chip t y with
      b := !x.b, seenEdge := some (s.chip.plantAt t), count := y.count + (if x.a = x.b then -1 else 1),
      lastEdge := some (s.chip.plantAt t) }).resolves))
  ∧ (∀ s (e : Fin 4) x (t : Nat), x = vget s.chip.lt.enc e →
    Completes (.encoderEdge e (!x.a) (!x.b) t) s (onEnc (s.chip.atTime t) e fun y => ({ keepTin s.chip t y with
      a := !x.a, b := !x.b, seenEdge := some (s.chip.plantAt t) }).fails))
  ∧ (∀ s (e : Fin 4) x a b (t : Nat) u, x = vget s.chip.lt.enc e → (a ≠ x.a ∨ b ≠ x.b) → x.seenEdge = some u →
    s.chip.plantAt t < u + 25 → Completes (.encoderEdge e a b t) s (onEnc (s.chip.atTime t) e fun y =>
      ({ keepTin s.chip t y with a := a, b := b, seenEdge := some (s.chip.plantAt t) }).fails))
  ∧ (∀ s (e : Fin 4) x t, x = vget s.chip.lt.enc e → Completes (.encoderEdge e x.a x.b t) s (s.chip.atTime t))
  ∧ (∀ s (e : Fin 4) l n d t raw, ssiLine s.chip e = some (l, n, d) → (vget s.chip.lt.enc e).frameAt = some t →
    raw < 2 ^ (s.chip.lcfg l).ssiBits → (s.chip.lcfg l).parity = false → (vget s.chip.lt.enc e).ssi = none →
    Completes (.ssiFrame e raw true false) s (onEnc (s.chip.atTime (t + ssiFrameNs (s.chip.lcfg l))) e fun y =>
      ({ y with frameAt := none, ssi := some (if (s.chip.lcfg l).gray then ↑(grayToBin ((s.chip.lcfg l).ssiBits - 1) raw) else ↑raw,
          s.chip.plantAt t) }).resolves))
  ∧ (∀ s (e : Fin 4) l n d t raw p k, ssiLine s.chip e = some (l, n, d) → (vget s.chip.lt.enc e).frameAt = some t →
    (k = true ∨ ((s.chip.lcfg l).parity = true ∧ p = false) ∨ 2 ^ (s.chip.lcfg l).ssiBits ≤ raw) →
    Completes (.ssiFrame e raw p k) s (onEnc (s.chip.atTime (t + ssiFrameNs (s.chip.lcfg l))) e fun y =>
      ({ y with frameAt := none }).fails))
  ∧ (∀ s (e : Fin 4) raw p k, (ssiLine s.chip e = none ∨ (vget s.chip.lt.enc e).frameAt = none) →
    Completes (.ssiFrame e raw p k) s s.chip)
  ∧ (∀ s (e : Fin 4) k, Completes (.sourceFault e k) s (onEnc s.chip e Encoder.fails))
  ∧ (∀ s (e : Fin 4), Completes (.encoderWiringFault e 0) s (onEnc s.chip e Encoder.fails)
    ∧ Completes (.encoderWiringFault e 1) s (onEnc s.chip e fun y => { y.fails with
      epwr := false, retryAt := some (s.chip.now + 1000000000) })
    ∧ Completes (.encoderWiringFault e 2) s (onEnc s.chip e fun y => { y.fails with ssiClock := false }))
  ∧ (∀ s (e : Fin 4) t, (vget s.chip.lt.enc e).retryAt = some t → Completes (.epwrRetry e) s
    (onEnc (s.chip.atTime t) e fun y => { y with epwr := true, retryAt := none }))
  ∧ (∀ s (e : Fin 4), (vget s.chip.lt.enc e).retryAt = none → Completes (.epwrRetry e) s s.chip)

/-- Lines between cycles (02 R45, R51, R68, R69): the holdover limit, publishing, a newer record of a REMOTE line, and t_pr with nothing
armed, with a command that waited for it, and always with the snapshot of the four states.
Shown to complete: lineHoldoverExpiry, lineStatePublish, lineStateReceive, predictionInstant. -/
def Obligations.LinesAdvance : Prop :=
  (∀ s (l : Fin 4) e, (s.chip.line l).st = .holdover → (s.chip.line l).holdEnd = some e → Runs (.lineHoldoverExpiry l) s fun x =>
    (x.line l).st = .lost ∧ (x.line l).holdEnd = none ∧ e ≤ x.now ∧ (∀ k : Fin 4, k ≠ l → x.line k = s.chip.line k)
    ∧ (∀ v ∈ x.lt.events, v.ev.line = l → v.st = .fired ∨ (v.st = .suspended ∧ v.due = none)))
  ∧ (∀ s (l : Fin 4), ((s.chip.line l).st ≠ .holdover ∨ (s.chip.line l).holdEnd = none) → Completes (.lineHoldoverExpiry l) s s.chip)
  ∧ (∀ s (l : Fin 4) n, n = s.chip.line l → s.chip.active = true → holdsToken s.chip → n.pubMask = 1 → n.st ≠ .idle → n.source ≠ 4 →
    s.chip.cyc % 2 ^ n.pubE = 0 → Completes (.lineStatePublish l) s
      (onLine (s.chip.emit 0 0 (le 4 (s.chip.lcfg l).pubAddr ++ le 2 (s.chip.lcfg l).pubPort ++ le 4 n.pubId ++ lineRecord s.chip l (n.state.moved (s.chip.t0 + s.chip.ptOff + 1500)))) l
        fun y => { y with pubSeq := (y.pubSeq + 1) % 65536 }))
  ∧ (∀ s (l : Fin 4), (s.chip.active = false ∨ (s.chip.line l).pubMask = 0 ∨ s.chip.cyc % 2 ^ (s.chip.line l).pubE ≠ 0) →
    Completes (.lineStatePublish l) s s.chip)
  ∧ (∀ s (l : Fin 4) (k : Fin 2) d n, n = s.chip.line l → s.chip.active = true → n.st ≠ .idle → n.source = 4 → mbit n.input k →
    n.rxSeq = none → d.length = 52 → ru d 0 4 = (s.chip.lcfg l).plantId → ru (slice d 4 48) 44 4 = crc32c (slice (slice d 4 48) 0 44) →
    Runs (.lineStateReceive l k d) s fun x => (x.line l).rxSeq = some (ru (slice d 4 48) 4 2) ∧ (x.line l).rxAt = s.chip.now
      ∧ (x.line l).rxState = byteN (slice d 4 48) 1 ∧ (x.line l).zAt = ofWide (slice d 4 48) 8
      ∧ (x.line l).rawSeen = ri (slice d 4 48) 18 8)
  ∧ (∀ s (l : Fin 4) (k : Fin 2) d, (d.length ≠ 52 ∨ ru d 0 4 ≠ (s.chip.lcfg l).plantId) → Completes (.lineStateReceive l k d) s
    (stampRx s.chip (4 + k) false s.chip.now))
  ∧ (∀ s, Runs .predictionInstant s fun x => x.lt.snaps.head? = some (Vector.ofFn fun i : Fin 4 => (x.line i).state))
  ∧ (∀ s, s.chip.deferP = [] → s.chip.lt.events = [] → s.chip.pt.trigs = [] → (∀ l : Fin 4, lineEnabled s.chip l = false) →
    (∀ l : Fin 4, (s.chip.line l).switching = none) → Completes .predictionInstant s ((s.chip.atOff 2000).onLt fun t => { t with
      enc := vmapIdx t.enc fun _ e => { e with faultSeen := false }, stepped := false,
      snaps := ((Vector.ofFn fun i : Fin 4 => (vget t.line i).state) :: t.snaps).take 4 }))
  ∧ (∀ s d (l : Fin 4), s.chip.deferP = [d] → d.due ≤ s.chip.cyc → d.opcode = 0x0204 → byteN d.payload 0 = l → (s.chip.line l).source = 3 →
    s.chip.lt.events = [] → s.chip.pt.trigs = [] → (∀ k : Fin 4, lineEnabled s.chip k = false) →
    (∀ k : Fin 4, (s.chip.line k).switching = none) → Runs .predictionInstant s fun x => x.deferP = []
      ∧ (x.line l).vmaster = some (ri d.payload 8 8, ru d.payload 16 8, ru d.payload 24 8))

/-- Line commands (02 R47-R49, R67, R68, R71): the readings, and the orders that wait for the next t_pr or start a comparison.
Shown to complete: lineGetState, linePreset, lineSelectSource, lineVmasterSet, lineQuery, linePublish. -/
def Obligations.LineCommandsAct : Prop :=
  (∀ q s, heard 0x0201 52 (lay 1 fun b => [isLine (byteN b 0)]) q s.chip → Answers (.lineGetState q) 0x0201 q s .ok
    (lineRecord s.chip (byteN q.payload 0) (s.chip.line (byteN q.payload 0)).state) s.chip)
  ∧ (∀ q s l, heard 0x0202 4 (lay 16 fun b => [isLine (byteN b 0), bLe b 1 1, rsv b 2 6]) q s.chip → l = byteN q.payload 0 →
    lineEnabled s.chip l → (s.chip.line l).st ≠ .idle → presetBars s.chip l = false →
    (lineMod s.chip l = 0 ∨ (0 ≤ ri q.payload 8 8 ∧ ri q.payload 8 8 < lineMod s.chip l)) →
    Answers (.linePreset q) 0x0202 q s .ok [] { s.chip with
      deferP := s.chip.deferP ++ [⟨nextTpr s.chip + (ahead s.chip 0x0202 - 1), q.ring, q.seq, 0x0202, q.payload⟩] })
  ∧ (∀ q s l, heard 0x0202 4 (lay 16 fun b => [isLine (byteN b 0), bLe b 1 1, rsv b 2 6]) q s.chip → l = byteN q.payload 0 →
    lineEnabled s.chip l → lineMod s.chip l = 0 → (s.chip.line l).st = .idle → Answers (.linePreset q) 0x0202 q s .refusedState [] s.chip)
  ∧ (∀ q s l n, heard 0x0203 4 (lay 24 fun b => [isLine (byteN b 0), bLe b 1 4, rsv b 3 5]) q s.chip → l = byteN q.payload 0 →
    n = s.chip.line l → lineEnabled s.chip l → byteN q.payload 1 = 3 → byteN q.payload 2 < 4 → ri q.payload 16 8 = 0 →
    n.switching = none → n.usable = false → Answers (.lineSelectSource q) 0x0203 q s .ok [] { s.chip with
      deferP := s.chip.deferP ++ [⟨nextTpr s.chip + (ahead s.chip 0x0203 - 1), q.ring, q.seq, 0x0203, q.payload⟩] })
  ∧ (∀ q s l n, heard 0x0203 4 (lay 24 fun b => [isLine (byteN b 0), bLe b 1 4, rsv b 3 5]) q s.chip → l = byteN q.payload 0 →
    n = s.chip.line l → lineEnabled s.chip l → byteN q.payload 1 = 3 → byteN q.payload 2 < 4 → ri q.payload 16 8 = 0 →
    n.switching = none → n.usable = true → Answers (.lineSelectSource q) 0x0203 q s .queued []
      (onLine s.chip l fun y => { y with switching := some {
        source := 3, input := byteN q.payload 2, num := max 1 (ru q.payload 8 4), den := max 1 (ru q.payload 12 4), offset := 0,
        left := 8, base := none, t0 := s.chip.plant, ring := q.ring, seq := q.seq } }))
  ∧ (∀ q s l, heard 0x0204 4 (lay 32 fun b => [isLine (byteN b 0), rsv b 1 7, decide (0 < ri b 16 8), ru b 24 8 ≠ 0]) q s.chip →
    l = byteN q.payload 0 → lineEnabled s.chip l → (s.chip.line l).st ≠ .idle → (s.chip.line l).source = 3 →
    Answers (.lineVmasterSet q) 0x0204 q s .ok [] { s.chip with
      deferP := s.chip.deferP ++ [⟨nextTpr s.chip + (ahead s.chip 0x0204 - 1), q.ring, q.seq, 0x0204, q.payload⟩] })
  ∧ (∀ q s l e t, heard 0x0205 32 (lay 18 fun b => [isLine (byteN b 0), rsv b 1 7, ru b 14 4 < 1000000000]) q s.chip →
    l = byteN q.payload 0 → e = (s.chip.line l).state → t = ofWide q.payload 8 → lineEnabled s.chip l → (s.chip.line l).st ≠ .idle →
    e.t ≤ t → t ≤ e.t + 1000000000 → Answers (.lineQuery q) 0x0205 q s .ok
      (le 1 (b2n (e.t < t)) ++ zeros 3 ++ leI 8 (reported s.chip l (e.pos t)) ++ leI 8 (e.vel t) ++ leI 8 e.a) s.chip)
  ∧ (∀ q s l, heard 0x0206 4 (lay 8 fun b => [isLine (byteN b 0), bLe b 1 3, bLe b 2 5, rsv b 3 1]) q s.chip → l = byteN q.payload 0 →
    lineEnabled s.chip l → 2 ^ byteN q.payload 2 * s.chip.period ≤ 1000000 → (s.chip.line l).st ≠ .idle → (s.chip.line l).source ≠ 4 →
    Answers (.linePublish q) 0x0206 q s .ok [] (onLine s.chip l fun y => { y with
      pubMask := byteN q.payload 1, pubE := byteN q.payload 2, pubId := ru q.payload 4 4 }))

/-- Line events (02 R53-R63, R70): arming, cancelling and reading a slot, and a loaded comparator that reaches its value.
Shown to complete: eventArm, eventCancel, eventGet, eventFire. -/
def Obligations.LineEventsAct : Prop :=
  (∀ q s v k, heard 0x0210 16 layEvent q s.chip → v = parseEv q.payload → k = ru q.payload 0 2 → k < reserveBase s.chip →
    k ≠ 0xFFFF → lineEnabled s.chip v.line → lineMod s.chip v.line = 0 → behind s.chip v = false → v.action ≠ 4 → v.action ≠ 5 →
    v.action ≠ 7 → (s.chip.line v.line).st ≠ .idle → findSlot s.chip k = none →
    Answers (.eventArm q) 0x0210 q s .ok (le 2 k ++ wideOpt (newSlot s.chip k v).due)
      (s.chip.onLt fun t => { t with events := putSlot { newSlot s.chip k v with past := false } t.events }))
  ∧ (∀ q s v k, heard 0x0210 16 layEvent q s.chip → v = parseEv q.payload → k = ru q.payload 0 2 → k < reserveBase s.chip →
    lineEnabled s.chip v.line → lineMod s.chip v.line = 0 → behind s.chip v = true → v.fireIfPast = false →
    Answers (.eventArm q) 0x0210 q s .badParam [] s.chip)
  ∧ (∀ q s x, heard 0x0211 6 (lay 2 fun b => [ru b 0 2 < 1024]) q s.chip → ru q.payload 0 2 < reserveBase s.chip →
    findSlot s.chip (ru q.payload 0 2) = some x → Answers (.eventCancel q) 0x0211 q s .queued (le 2 x.fires) { s.chip with
      deferP := s.chip.deferP ++ [⟨nextTpr s.chip + (ahead s.chip 0x0211 - 1), q.ring, q.seq, 0x0211, q.payload⟩] })
  ∧ (∀ q s, heard 0x0212 52 (lay 2 fun b => [ru b 0 2 < 1024]) q s.chip → findSlot s.chip (ru q.payload 0 2) = none →
    Answers (.eventGet q) 0x0212 q s .ok (zeros 4 ++ List.replicate 10 0xFF ++ zeros 34) s.chip)
  ∧ (∀ q s x, heard 0x0212 52 (lay 2 fun b => [ru b 0 2 < 1024]) q s.chip → findSlot s.chip (ru q.payload 0 2) = some x → x.ev.pitch = 0 →
    x.st ≠ .fired → Answers (.eventGet q) 0x0212 q s .ok
      (le 1 x.st.code ++ zeros 3 ++ wideOpt x.due ++ le 4 1 ++ slice (evRecBytes x.slot x.ev) 8 30) s.chip)
  ∧ (∀ s (k : Fin 1024) x d, s.chip.lt.events = [x] → (∀ t ∈ s.chip.pt.trigs, t.loaded = false) → x.slot = k.val → x.st = .loaded → x.due = some d → x.ev.pitch = 0 → x.ev.action = 1 →
    x.ev.report = true → x.ev.line < 4 → x.ev.dirPos = true → x.ev.dirNeg = false → x.refire = 0 →
    (s.chip.line x.ev.line).st = .valid → Runs (.eventFire k) s fun e =>
      e.lt.events = [{ x with fires := x.fires + 1, due := none, st := .fired }]
      ∧ (s.chip.mb.out ++ [⟨vget s.chip.cfg.sys.evRing 1, 0x0280, 3, le 2 k ++ le 1 x.ev.line ++ le 1 1 ++ le 1 16 ++ zeros 1
          ++ le 2 ((x.fires + 1) % 65536) ++ wide d ++ leI 4 0 ++ leI 8 (reported s.chip x.ev.line x.aim)
          ++ leI 8 ((s.chip.line x.ev.line).state.vel d) ++ le 4 x.ev.tag ++ zeros 2, 44⟩]) <+: e.mb.out)

/-- Latch inputs (02 R64-R66): an edge that is selected and not gated out is stored while 16 records have room, with its sequence, and is
lost with OVERFLOW beyond; the oldest record leaves for its ring; the settings wait for the boundary.
Shown to complete: latchEdge, latchRecordWrite, latchConfigure. -/
def Obligations.LatchesCapture : Prop :=
  (∀ s (i : Fin 16) t h, h = vget s.chip.lt.latch i → mbit h.edge 0 = true → (h.gated = false ∨ h.gate = true) →
    comparators s.chip = [] → h.buf.length < 16 →
    Runs (.latchEdge i true t) s fun e => ∃ r, (vget e.lt.latch i).buf = h.buf ++ [r] ∧ r.t = s.chip.plantAt t ∧ r.seq = h.seq
      ∧ r.line = h.line ∧ mbit r.flags 0 = true ∧ mbit r.flags 1 = h.ovf ∧ (vget e.lt.latch i).seq = (h.seq + 1) % 65536
      ∧ (vget e.lt.latch i).ovf = false ∧ (lineEnabled s.chip h.line → (s.chip.line h.line).st ≠ .idle →
        r.pos = reported s.chip h.line ((s.chip.line h.line).state.pos r.t) ∧ mbit r.flags 3 = !(s.chip.line h.line).usable))
  ∧ (∀ s (i : Fin 16) t h, h = vget s.chip.lt.latch i → mbit h.edge 0 = true → (h.gated = false ∨ h.gate = true) →
    comparators s.chip = [] → 16 ≤ h.buf.length →
    Runs (.latchEdge i true t) s fun e => vget e.lt.latch i = { h with ovf := true })
  ∧ (∀ s (i : Fin 16) r t, comparators s.chip = [] → mbit (vget s.chip.lt.latch i).edge (if r then 0 else 1) = false → Completes (.latchEdge i r t) s (s.chip.atTime t))
  ∧ (∀ s (i : Fin 16) r l g, (vget s.chip.lt.latch i).buf = r :: l → vget s.chip.cfg.sys.evRing 1 = g → g < 32 → ringRoom s.chip g 1 →
    Runs (.latchRecordWrite i) s fun e => (vget e.lt.latch i).buf = l ∧ (vget e.mb.rings g).buf = (vget s.chip.mb.rings g).buf
      ++ entries 0x0281 3 40 (latchBytes i r) (vget s.chip.mb.rings g).lost (fun k => (vget s.chip.mb.rings g).nextSeq + k))
  ∧ (∀ q s, heard 0x0220 4 (lay 8 fun b => [bLe b 0 15, 1 ≤ byteN b 1 % 4, bLe b 1 7, ru b 2 2 ≤ 1000, isLine (byteN b 4), rsv b 5 3])
      q s.chip → Answers (.latchConfigure q) 0x0220 q s .ok [] { s.chip with
        deferB := s.chip.deferB ++ [⟨s.chip.cyc + ahead s.chip 0x0220, q.ring, q.seq, 0x0220, q.payload⟩] })

/-- Plant time (03 R74, R83, R85-R87): an offset of the slave port is measured and judged, masters come and go, the limits of holdover,
an Announce, a path delay by either mechanism, and the step. Every plant port stamps what it receives (R77).
Shown to complete: syncReceived, ptpPortSlave, ptpHoldoverExpiry, crossCellHoldoverExpiry, announceReceived, delayRespReceived,
timeStep. -/
def Obligations.PlantTimeFollowsTheMaster : Prop :=
  (∀ s (k : Fin 4) origin corr rx o, s.chip.pt.slave = some k.val → s.chip.pt.stNext = .locked → s.chip.pt.step = none →
    holdsToken s.chip → o = syncOffset s.chip k origin corr rx → o.natAbs ≤ 100 →
    Completes (.syncReceived k origin corr rx) s ((stampRx (s.chip.atTime rx) k false rx).onPt fun p => { p with
      syncDiff := vset p.syncDiff k (some (syncRaw s.chip k origin corr rx)),
      offset := o, goodRun := p.goodRun + 1, badRun := 0, corrNext := some (corrFor s.chip o true) }))
  ∧ (∀ s (k : Fin 4) origin corr rx o, s.chip.pt.slave = some k.val → s.chip.pt.stNext = .locked → s.chip.pt.step = none →
    holdsToken s.chip → o = syncOffset s.chip k origin corr rx → 1000 < o.natAbs → 3 ≤ s.chip.pt.badRun →
    Runs (.syncReceived k origin corr rx) s fun e => e.pt.next = some .acquiring ∧ e.pt.offset = o ∧ e.pt.badRun = s.chip.pt.badRun + 1)
  ∧ (∀ s (k : Fin 4) origin corr rx o, s.chip.pt.slave = some k.val → s.chip.pt.stNext = .acquiring → s.chip.pt.step = none →
    holdsToken s.chip → o = syncOffset s.chip k origin corr rx → o.natAbs ≤ 100 → o.natAbs ≤ s.chip.cfg.ptime.slewWindow →
    15 ≤ s.chip.pt.goodRun → Runs (.syncReceived k origin corr rx) s fun e => e.pt.next = some .locked ∧ e.pt.stepPending = false)
  ∧ (∀ s (k : Fin 4) origin corr rx, s.chip.pt.slave ≠ some k.val → Completes (.syncReceived k origin corr rx) s ((stampRx (s.chip.atTime rx) k false rx).onPt fun p => { p with
      syncDiff := vset p.syncDiff k (some (syncRaw s.chip k origin corr rx)) }))
  ∧ (∀ s (k : Fin 4), s.chip.active = true → (vget s.chip.pt.ports k).profile ≠ 0 → follows s.chip.pt.stNext = false →
    Completes (.ptpPortSlave (some k) false) s (s.chip.onPt fun p => { p with slave := some k.val, next := some .acquiring }))
  ∧ (∀ s, s.chip.active = true → s.chip.pt.stNext = .locked → Completes (.ptpPortSlave none false) s
    (s.chip.onPt fun p => { p with slave := none, next := some .holdover }))
  ∧ (∀ s e, s.chip.pt.holdEnd = some e → s.chip.pt.stNext = .holdover → Completes .ptpHoldoverExpiry s
    ((s.chip.atTime e).onPt fun p => { p with holdEnd := none, next := some .freerun }))
  ∧ (∀ s e, s.chip.pt.crossEnd = some e → s.chip.pt.st = .holdover → Completes .crossCellHoldoverExpiry s
    ((s.chip.atTime e).onPt fun p => { p with crossEnd := none, crossGone := true }))
  ∧ (∀ s (k : Fin 4) u v gm n, s.chip.pt.slave = some k.val → follows s.chip.pt.st → Completes (.announceReceived k u v gm n) s
    ((stampRx s.chip k false s.chip.now).onPt fun p => { p with
      announced := some (u, v), gmId := gm, stepsRemoved := (n + 1) % 65536, utcOffset := u, utcValid := v }))
  ∧ (∀ s (k : Fin 4) u v gm n, s.chip.pt.slave ≠ some k.val → Completes (.announceReceived k u v gm n) s
    (stampRx s.chip k false s.chip.now))
  ∧ (∀ s (k : Fin 4) tx far rx d, (vget s.chip.pt.ports k).profile = 1 → vget s.chip.pt.syncDiff k = some d →
    Completes (.delayRespReceived k ⟨tx, far, rx⟩) s ((stampRx (s.chip.atTime rx) k false rx).onPt fun p => { p with
      pathDelay := vset p.pathDelay k (quot 12 (d + far * 10 - txLand s.chip k tx) 20) }))
  ∧ (∀ s (k : Fin 4) tx far rx, 2 ≤ (vget s.chip.pt.ports k).profile → Completes (.delayRespReceived k ⟨tx, far, rx⟩) s
    ((stampRx (s.chip.atTime rx) k false rx).onPt fun p => { p with
      pathDelay := vset p.pathDelay k (quot 12 (rxLand s.chip k false rx - txLand s.chip k tx - far * 10) 20) }))
  ∧ (∀ s (k : Fin 4) tx far rx, (vget s.chip.pt.ports k).profile = 0 → Completes (.delayRespReceived k ⟨tx, far, rx⟩) s
    (stampRx (s.chip.atTime rx) k false rx))
  ∧ (∀ s d b T, s.chip.pt.step = some (d, b) → T = s.chip.period → Runs .timeStep s fun e => e.ptOff = s.chip.ptOff + d
    ∧ e.cyc = ((((s.chip.cyc + 1) * T : Nat) + d + T - 1) / (T : Int)).toNat - 1 ∧ e.pt.step = none ∧ e.pt.stepPending = false
    ∧ ∃ m ∈ e.mb.out, m.opcode = 0x0102 ∧ m.payload = le 2 0x0102 ++ le 1 0xFF ++ le 1 0xFF
        ++ le 4 (((((s.chip.cyc + 1) * T : Nat) + d + T - 1) / (T : Int)).toNat % 2 ^ 32) ++ leI 8 d)

/-- Transmit time-stamps and host frames (03 R79-R82, R93): a queue of sixteen, an entry beyond it lost and marked; the frame leaves, with
its egress time where the port inserts it; a stamped host frame waits for its egress; reading takes the oldest host entries out of the queue.
Shown to complete: txTimestamp, ptimeTxqRead, ptimeFrameSend. -/
def Obligations.TransmitStampsAreQueued : Prop :=
  (∀ s (k : Fin 6) id raw q f o x, id < 0x80 → o = inserts (vget s.chip.pt.ports k) f → x = txLand s.chip k raw →
    (vget s.chip.pt.txq k).length < 16 → Completes (.txTimestamp k id raw q false f) s
    ((s.chip.emit 6 k (if o then rewritten x (vget s.chip.pt.rxStamp k) f else f)).onPt fun p => { p with
      txq := vmod p.txq k (· ++ [⟨id, bits [vget p.wide0 k, vget p.txLostBefore k, o], roundDiv x 655360, q⟩]),
      txLostBefore := vset p.txLostBefore k false }))
  ∧ (∀ s (k : Fin 6) id raw q f o x, id < 0x80 → o = inserts (vget s.chip.pt.ports k) f → x = txLand s.chip k raw →
    16 ≤ (vget s.chip.pt.txq k).length → Completes (.txTimestamp k id raw q false f) s
    ((s.chip.emit 6 k (if o then rewritten x (vget s.chip.pt.rxStamp k) f else f)).onPt fun p => { p with
      txLost := vmod p.txLost k inc, txLostBefore := vset p.txLostBefore k true }))
  ∧ (∀ s (k : Fin 6) id raw q f h t, txFrameOf s.chip k id = some h → t = roundDiv (txLand s.chip k raw) 655360 →
    (vget s.chip.pt.txq k).length < 16 → Completes (.txTimestamp k id raw q true f) s
    ((s.chip.emit 6 k (if mbit h.2.1 1 then patch h.2.2.2.2 h.2.2.2.1 (ptpStamp t) else h.2.2.2.2)).onPt fun p => { p with
      txFrames := p.txFrames.erase h, txAsked := vmod p.txAsked k (· - 1),
      txq := vmod p.txq k (· ++ [⟨id, bits [vget p.wide0 k, vget p.txLostBefore k, mbit h.2.1 1], t, 0⟩]),
      txLostBefore := vset p.txLostBefore k false }))
  ∧ (∀ q s k l, heard 0x0305 44 (lay 2 fun b => [bLe b 0 5, 1 ≤ byteN b 1 && byteN b 1 ≤ 2]) q s.chip → k = byteN q.payload 0 →
    l = (vget s.chip.pt.txq k).filter (fun e => 0x80 ≤ e.id) → Runs (.ptimeTxqRead q) s fun e =>
      Told 0x0305 q .ok (le 1 (l.take (byteN q.payload 1)).length ++ le 1 (l.drop (byteN q.payload 1)).length ++ zeros 2
        ++ fit 32 (((l.take (byteN q.payload 1)).map (txEntryBytes k)).flatten) ++ le 4 (vget s.chip.pt.txLost k)) s.chip e
      ∧ (vget e.pt.txq k).filter (fun e => 0x80 ≤ e.id) = l.drop (byteN q.payload 1))
  ∧ (∀ q s k, heard 0x0306 4 layFrame q s.chip → k = byteN q.payload 0 → s.chip.active = true → mbit s.chip.cfg.ptime.hostPorts k →
    mbit (byteN q.payload 1) 0 = true → vget s.chip.pt.txAsked k + ((vget s.chip.pt.txq k).filter (fun e => 0x80 ≤ e.id)).length < 4 →
    Answers (.ptimeFrameSend q) 0x0306 q s .ok [] (s.chip.onPt fun p => { p with
      txFrames := p.txFrames ++ [(k, byteN q.payload 1, byteN q.payload 2, ru q.payload 4 2, q.payload.drop 8)],
      txAsked := vmod p.txAsked k (· + 1) }))
  ∧ (∀ q s k, heard 0x0306 4 layFrame q s.chip → k = byteN q.payload 0 → (s.chip.active = false ∨ mbit s.chip.cfg.ptime.hostPorts k = false) →
    Answers (.ptimeFrameSend q) 0x0306 q s .notPermitted [] s.chip)

/-- Commands and triggers of plant time (03 R89-R93).
Shown to complete: ptimeGet, ptimePortConfig, ptimeFormatSelect, ptimeStep, timeTriggerArm, timeTriggerCancel, timeTriggerFire. -/
def Obligations.PlantTimeCommandsAct : Prop :=
  (∀ q s p, heard 0x0301 44 layNone q s.chip → p = s.chip.pt → Answers (.ptimeGet q) 0x0301 q s .ok
    (le 1 p.st.code ++ le 1 (bits [p.traceable, p.stepPending, p.utcValid]) ++ leI 2 p.utcOffset ++ wide (s.chip.t0 + s.chip.ptOff)
      ++ le 4 (s.chip.cyc % 2 ^ 32) ++ fit 8 p.gmId ++ le 2 p.stepsRemoved ++ leI 4 (satI 32 p.offset) ++ leI 4 p.corr
      ++ le 1 (p.slave.getD 0xFF) ++ zeros 3) s.chip)
  ∧ (∀ q s, heard 0x0302 4 layPort q s.chip → portBreach s.chip (byteN q.payload 0) (parsePort q.payload) = false →
    Answers (.ptimePortConfig q) 0x0302 q s .ok [] { s.chip with
      deferB := s.chip.deferB ++ [⟨s.chip.cyc + ahead s.chip 0x0302, q.ring, q.seq, 0x0302, q.payload⟩] })
  ∧ (∀ q s, heard 0x0304 4 layFormat q s.chip → Answers (.ptimeFormatSelect q) 0x0304 q s .ok [] { s.chip with
      deferB := s.chip.deferB ++ [⟨s.chip.cyc + ahead s.chip 0x0304, q.ring, q.seq, 0x0304, q.payload⟩] })
  ∧ (∀ q s, heard 0x0303 12 layNone q s.chip → stepPermitted s.chip true → s.chip.pt.step = none → s.chip.pt.stepPending = true →
    Answers (.ptimeStep q) 0x0303 q s .ok (leI 8 (-s.chip.pt.offset)) (s.chip.onPt fun p => { p with step := some (-p.offset, true) }))
  ∧ (∀ q s, heard 0x0303 12 layNone q s.chip → s.chip.pt.stepPending = false → s.chip.pt.step = none →
    Answers (.ptimeStep q) 0x0303 q s .refusedState [] s.chip)
  ∧ (∀ q s k, heard 0x0310 5 layTrig q s.chip → k = byteN q.payload 0 → k < 32 → findTrig s.chip k = none →
    nextTprAt s.chip ≤ ofWide q.payload 8 → Answers (.timeTriggerArm q) 0x0310 q s .ok (le 1 k) (s.chip.onPt fun p => { p with
      trigs := putTrig { parseTrig k (nextTpr s.chip) q.payload with past := false } p.trigs }))
  ∧ (∀ q s k t, heard 0x0310 5 layTrig q s.chip → k = byteN q.payload 0 → k < 32 → findTrig s.chip k = some t →
    nextTprAt s.chip ≤ ofWide q.payload 8 → Answers (.timeTriggerArm q) 0x0310 q s .busy [] s.chip)
  ∧ (∀ q s t, heard 0x0311 8 (lay 1 fun b => [bLe b 0 31]) q s.chip → findTrig s.chip (byteN q.payload 0) = some t →
    Answers (.timeTriggerCancel q) 0x0311 q s .queued (le 4 t.fires) { s.chip with
      deferP := s.chip.deferP ++ [⟨nextTpr s.chip + (ahead s.chip 0x0311 - 1), q.ring, q.seq, 0x0311, q.payload⟩] })
  ∧ (∀ s (k : Fin 32) t, s.chip.pt.trigs = [t] → (∀ x ∈ s.chip.lt.events, x.st ≠ .loaded) → t.slot = k.val → t.loaded = true → t.action = 1 → t.report = true → t.period = 0 →
    Runs (.timeTriggerFire k) s fun e => e.pt.trigs = [] ∧ (∀ d ∈ s.chip.deferP, d.opcode = 0x0311 → byteN d.payload 0 = k →
        (∀ f ∈ s.chip.pt.freed, f.1 ≠ d.ring ∨ f.2.1 ≠ d.seq) → (d.ring, d.seq, t.fires + 1, true) ∈ e.pt.freed)
      ∧ ((s.chip.mb.out ++ [⟨vget s.chip.cfg.sys.evRing 7, 0x0380, 3, le 1 k ++ le 1 1 ++ le 1 (2 + 4 * b2n s.chip.pt.wide1) ++ zeros 1
          ++ le 4 (t.fires + 1) ++ (if s.chip.pt.wide1 then wide t.point else le 4 (short t.point) ++ zeros 6) ++ le 4 t.tag ++ zeros 2, 24⟩])
        <+: e.mb.out))

/-- Frames of the star (04 R99-R101, R114-R117): a valid uplink inside its window on an ACTIVE channel is the node's input of the cycle;
one whose offset is beyond 14 ns is blocked and counted, a frame that fails its check is only counted; a downlink leaves at t_dn.
Shown to complete: uplinkReceived, downlinkSend. -/
def Obligations.StarFramesActs : Prop :=
  (∀ s (k : Fin 24) (h : Fin 2) off f sl n, s.chip.star.run = true → n = s.chip.node k → (s.chip.ch k h).st = .active → n.slot = some sl →
    frameFault f 2 (k + 1) sl s.chip.count (fun f => ru f 8 2 = s.chip.count % 65536 && uplinkBody (s.chip.port k) f) = 0 →
    off.natAbs ≤ 512 → 5 * off + 256 * (f.length : Int) ≤ 70400 → n.copy = none → n.fresh = false → s.chip.pair.st = none →
    s.chip.cfg.slot.fwd = [] → (s.chip.port k).pdu = false → Runs (.uplinkReceived k h off f) s fun e =>
      (e.node k).copy = some (h.val, max s.chip.now (((s.chip.t0 + Config.slotStart sl : Nat) : Int) + off / 64).toNat, f)
      ∧ (e.node k).fresh = true ∧ (e.node k).state = byteN f 16 ∧ (e.node k).reception = byteN f 17 ∧ (e.node k).fault = ru f 24 2
      ∧ (e.node k).sample = ru f 18 2 ∧ (e.node k).samplePrev = n.sample
      ∧ (e.node k).axes = (List.range (s.chip.port k).a).map (axisIn f) ∧ (e.ch k h).got = true
      ∧ vget (e.ch k h).cnt 0 = inc (vget (s.chip.ch k h).cnt 0) ∧ (e.ch k h).offLast = off)
  ∧ (∀ s (k : Fin 24) (h : Fin 2) off f sl, s.chip.star.run = true → (s.chip.ch k h).st = .active → (s.chip.node k).slot = some sl →
    frameFault f 2 (k + 1) sl s.chip.count (fun f => ru f 8 2 = s.chip.count % 65536 && uplinkBody (s.chip.port k) f) = 0 →
    896 < off.natAbs → Runs (.uplinkReceived k h off f) s fun e => (e.node k).copy = (s.chip.node k).copy
      ∧ (e.ch k h).blocked = s.chip.cyc :: (s.chip.ch k h).blocked ∧ vget (e.ch k h).cnt 4 = inc (vget (s.chip.ch k h).cnt 4)
      ∧ (e.ch k h).next = (if 15 ≤ (s.chip.ch k h).blocked.length then some .excluded else (s.chip.ch k h).next))
  ∧ (∀ s (k : Fin 24) (h : Fin 2) off f sl, s.chip.star.run = true → (s.chip.ch k h).st = .active → (s.chip.node k).slot = some sl →
    32 ≤ f.length → f.length ≤ 256 → ru f (f.length - 4) 4 ≠ crc32c (f.take (f.length - 4)) → Completes (.uplinkReceived k h off f) s
      (countCh (noteOffset (s.chip.atTime (((s.chip.t0 + Config.slotStart sl : Nat) : Int) + off / 64).toNat) k h off) k h 1))
  ∧ (∀ s (k : Fin 24) (h : Fin 2), s.chip.star.run = true → 0 < (s.chip.port k).a → sendsDownlinks s.chip → chSends s.chip k h →
    (s.chip.ch k h).st = .active → Runs (.downlinkSend k) s fun e =>
      (∃ f, (3, k.val + 1, h.val, Config.tDn s.chip.cfg.sys.period (k.val + 1), f) ∈ e.star.sent
        ∧ f.take 8 = le 1 3 ++ le 1 (k.val + 1) ++ le 1 ((s.chip.node k).slot.getD 0xFF) ++ zeros 1 ++ le 4 s.chip.count)
      ∧ (e.node k).command = (if (s.chip.node k).command = 2 then 0 else (s.chip.node k).command))

/-- Channels (04 R119-R121, R125): links, counts, whose changes wait for the boundary, ranging, and the end of a cold start.
Shown to complete: linkStateChange, channelCountExpiry, echoRequestSend, echoRespReceived, coldStartEnd. -/
def Obligations.ChannelsChangeState : Prop :=
  (∀ s (k : Fin 24) (h : Fin 2), laneOut s.chip k h = false → (s.chip.ch k h).st = .down → Runs (.linkStateChange k h true) s fun e =>
    (e.ch k h).st = .lock ∧ (e.ch k h).linkUp = true ∧ (e.ch k h).count = 0)
  ∧ (∀ s (k : Fin 24) (h : Fin 2), laneOut s.chip k h = false → (s.chip.ch k h).st = .active →
    Runs (.linkStateChange k h false) s fun e => (e.ch k h).st = .down ∧ (e.ch k h).linkUp = false
      ∧ vget (e.ch k h).cnt 8 = inc (vget (s.chip.ch k h).cnt 8) ∧ ∃ m ∈ e.mb.out, m.opcode = 0x0405)
  ∧ (∀ s (k : Fin 24) (h : Fin 2), (s.chip.ch k h).st = .lock → 64 ≤ (s.chip.ch k h).count → (s.chip.node k).slot.isSome →
    Completes (.channelCountExpiry k h) s (onCh s.chip k h fun x => { x with next := some .ranging }))
  ∧ (∀ s (k : Fin 24) (h : Fin 2), (s.chip.ch k h).st = .active → (s.chip.ch k h).got = false → 63 ≤ (s.chip.ch k h).silent →
    Completes (.channelCountExpiry k h) s (onCh s.chip k h fun x => { x with next := some .lock }))
  ∧ (∀ s (k : Fin 24) (h : Fin 2), (s.chip.ch k h).st = .excluded → 63 ≤ (s.chip.ch k h).count →
    Completes (.channelCountExpiry k h) s (onCh s.chip k h fun x => { x with next := some .ranging }))
  ∧ (∀ s (k : Fin 24) (h : Fin 2), (s.chip.ch k h).st = .ranging → (s.chip.ch k h).retry = 1 →
    Completes (.channelCountExpiry k h) s (onCh s.chip k h fun x => { x with retry := 0 }))
  ∧ (∀ s (k : Fin 24) (h : Fin 2), chSends s.chip k h → (s.chip.ch k h).st = .ranging → (s.chip.ch k h).retry = 0 →
    (s.chip.ch k h).next = none → Runs .echoRequestSend s fun e => (e.ch k h).echo = ((s.chip.ch k h).echo + 1) % 65536
      ∧ (e.ch k h).echoAt = some (s.chip.t0 + Config.tOut s.chip.cfg.sys.period)
      ∧ ∃ f, (4, k.val + 1, h.val, Config.tOut s.chip.cfg.sys.period, f) ∈ e.star.sent)
  ∧ (∀ s (k : Fin 24) (h : Fin 2) rtt f t x, x = s.chip.ch k h → s.chip.star.run = true → x.st = .ranging → x.echoAt = some t →
    frameFault f 5 (k + 1) 0xFF s.chip.count (fun f => f.length = 32 && ru f 8 2 = x.echo && rsv f 20 8) = 0 →
    64 * (s.chip.t0 + Config.tUpEnd s.chip.cfg.sys.period) ≤ 64 * t + rtt →
    64 * t + rtt ≤ 64 * (s.chip.t0 + Config.tUpEnd s.chip.cfg.sys.period + 2000) →
    x.samples.length < 15 → Runs (.echoRespReceived k h rtt f) s fun e => (e.ch k h).echoAt = none
      ∧ (e.ch k h).samples = x.samples ++ [satU 16 (quot 4 ((rtt : Int) - ru f 16 4) 2)] ∧ vget (e.ch k h).cnt 0 = inc (vget x.cnt 0))
  ∧ (∀ s e, s.chip.star.coldEnd = some e → Runs .coldStartEnd s fun x => x.star.coldEnd = none
    ∧ ∃ m ∈ x.mb.out, m.opcode = 0x0401 ∧ m.payload = evBytes s.chip 0x0401 0 0xFF (le 3 (maskOf 24 (fullyUp s.chip))))

/-- Claims and requests to nodes (04 R123-R128, R131).
Shown to complete: claimReceived, claimRefusedExpiry, claimReleaseDown, acyclicBlockReceived, acyclicRetry, nodeResponseTimeout. -/
def Obligations.ClaimsAndNodeRequests : Prop :=
  (∀ s (k : Fin 24) (h : Fin 2) off f u, s.chip.star.run = true → (s.chip.ch k h).st = .claiming → (s.chip.ch k h).claimOpen = true →
    inService s.chip (64 * s.chip.t0 + off) → u = (s.chip.cyc, ru f 8 2) →
    frameFault f 6 (k + 1) 0xFF s.chip.count (fun f => f.length = 48 && rsv f 29 1 && rsv f 36 8) = 0 →
    (s.chip.node k).refused = 0 → (s.chip.node k).claimWait = none → (s.chip.node k).claimSeq ≠ some u →
    (k.val + 1, byteN f 28, ru f 16 4, ru f 20 4) ∈ s.chip.cfg.slot.claims → ru f 30 2 ≤ (s.chip.port k).tPrep →
    Runs (.claimReceived k h ⟨off, f⟩) s fun e => (e.node k).claimWait = some (ru f 24 4) ∧ (e.node k).refused = 0
      ∧ (e.node k).claimSeq = some u ∧ vget (e.ch k h).cnt 0 = inc (vget (s.chip.ch k h).cnt 0))
  ∧ (∀ s (k : Fin 24) (h : Fin 2) off f u, s.chip.star.run = true → (s.chip.ch k h).st = .claiming → (s.chip.ch k h).claimOpen = true →
    inService s.chip (64 * s.chip.t0 + off) → u = (s.chip.cyc, ru f 8 2) →
    frameFault f 6 (k + 1) 0xFF s.chip.count (fun f => f.length = 48 && rsv f 29 1 && rsv f 36 8) = 0 →
    (s.chip.node k).refused = 0 → (s.chip.node k).claimWait = none → (s.chip.node k).claimSeq ≠ some u →
    (k.val + 1, byteN f 28, ru f 16 4, ru f 20 4) ∉ s.chip.cfg.slot.claims →
    Runs (.claimReceived k h ⟨off, f⟩) s fun e => (e.node k).claimWait = none ∧ (e.node k).refused = 1025 ∧ ∃ m ∈ e.mb.out, m.opcode = 0x0408)
  ∧ (∀ s (k : Fin 24) (h : Fin 2) off f u, s.chip.star.run = true → (s.chip.ch k h).st = .claiming → (s.chip.ch k h).claimOpen = true →
    inService s.chip (64 * s.chip.t0 + off) → u = (s.chip.cyc, ru f 8 2) →
    frameFault f 6 (k + 1) 0xFF s.chip.count (fun f => f.length = 48 && rsv f 29 1 && rsv f 36 8) = 0 →
    (s.chip.node k).claimSeq = some u → Completes (.claimReceived k h ⟨off, f⟩) s
      (countCh (s.chip.atTime (s.chip.t0 + off / 64)) k h 0))
  ∧ (∀ s (k : Fin 24) (h : Fin 2) (off : Nat) f, s.chip.star.run = true → (s.chip.ch k h).st = .claiming → (s.chip.ch k h).claimOpen = false →
    frameFault f 6 (k + 1) 0xFF s.chip.count (fun f => f.length = 48 && rsv f 29 1 && rsv f 36 8) = 0 →
    Completes (.claimReceived k h ⟨off, f⟩) s (blockedAt (s.chip.atTime (s.chip.t0 + off / 64)) k h))
  ∧ (∀ s (k : Fin 24), (s.chip.node k).refused = 1 → Completes (.claimRefusedExpiry k) s (onNode s.chip k fun n => { n with refused := 0 }))
  ∧ (∀ s (k : Fin 24) sl, chUsed s.chip k 0 = true → chUsed s.chip k 1 = false → (s.chip.ch k 0).st = .down → 64 ≤ (s.chip.ch k 0).downFor →
    (s.chip.node k).slot = some sl → (s.chip.node k).claimed = true → Completes (.claimReleaseDown k) s
      (postCell (onNode s.chip k fun n => { n with slot := none, claimed := false, serial := 0 }) 0x0409 k 0xFF (le 1 sl)))
  ∧ (∀ s (k : Fin 24) b t n, n = s.chip.node k → n.transfer = some t → acycValid b → mbit (byteN b 1) 0 = true → mbit (byteN b 1) 1 = false →
    ru b 4 2 = t.id → Completes (.acyclicBlockReceived k b) s (onNode s.chip k fun n => { n with
      rxSeq := ru b 2 2, transfer := some { t with begun := true, got := slice b 8 52, total := ru b 6 2 } }))
  ∧ (∀ s (k : Fin 24) t, (s.chip.node k).transfer = some t → (∀ b ∈ t.blocks, b.overdue s.chip.cyc → b.tries < 4) →
    Completes (.acyclicRetry k) s (onNode s.chip k fun n => { n with transfer := some { t with
      blocks := t.blocks.map fun b => { b with due := b.due || b.overdue s.chip.cyc } } }))
  ∧ (∀ s (k : Fin 24) t b, (s.chip.node k).transfer = some t → b ∈ t.blocks → b.overdue s.chip.cyc → 4 ≤ b.tries → t.ring < 8 →
    ringRoom s.chip (t.ring + 8) 1 → Runs (.acyclicRetry k) s fun e => (e.node k).transfer = none ∧ (vget e.mb.rings (t.ring + 8)).buf
      = (vget s.chip.mb.rings (t.ring + 8)).buf ++ entries t.opcode 2 4 (le 1 7 ++ zeros 3) false (fun _ => t.seq))
  ∧ (∀ s (k : Fin 24) t, (s.chip.node k).transfer = some t → t.begun = false → t.ring < 8 → ringRoom s.chip (t.ring + 8) 1 →
    Runs (.nodeResponseTimeout k) s fun e => (e.node k).transfer = none ∧ (vget e.mb.rings (t.ring + 8)).buf
      = (vget s.chip.mb.rings (t.ring + 8)).buf ++ entries t.opcode 2 4 (le 1 7 ++ zeros 3) false (fun _ => t.seq))

/-- Cell commands (04 R125, R128, R130, R131).
Shown to complete: cellGetStatus, cellGetPort, cellClearCounters, cellResync, cellNodeRead, cellNodeWrite, cellReleaseClaim. -/
def Obligations.CellCommandsAct : Prop :=
  (∀ q s, heard 0x0401 36 layNone q s.chip → Answers (.cellGetStatus q) 0x0401 q s .ok
    (le 1 (b2n s.chip.star.coldEnd.isNone) ++ le 1 s.chip.cfg.slot.slots.length ++ zeros 2 ++ le 4 s.chip.cfg.slot.tableId
      ++ (List.range 24).map (fun k => byte ((s.chip.ch k 0).st.code + 16 * (s.chip.ch k 1).st.code))) s.chip)
  ∧ (∀ q s k h x, heard 0x0402 52 (lay 2 fun b => [isNode (byteN b 0), bLe b 1 1]) q s.chip → k = byteN q.payload 0 - 1 →
    h = byteN q.payload 1 → x = s.chip.ch k h → chUsed s.chip k h → Answers (.cellGetPort q) 0x0402 q s .ok
      (le 1 x.st.code ++ le 1 ((s.chip.node k).slot.getD 0xFF) ++ le 2 x.delay
        ++ ((List.range 9).map (fun i => le 4 (vget x.cnt i))).flatten
        ++ leI 2 (satI 16 x.offLast) ++ leI 2 (satI 16 x.offMin) ++ leI 2 (satI 16 x.offMax) ++ le 2 (min x.blocked.length 65535)) s.chip)
  ∧ (∀ q s, heard 0x0403 4 (lay 2 fun b => [bLe b 0 24, bLe b 1 3]) q s.chip → byteN q.payload 0 = 0 → byteN q.payload 1 = 3 →
    Runs (.cellClearCounters q) s fun e => Told 0x0403 q .ok [] s.chip e ∧ ∀ (k : Fin 24) (h : Fin 2),
      (e.ch k h).cnt = Vector.replicate 9 0 ∧ (e.ch k h).offMin = 0 ∧ (e.ch k h).st = (s.chip.ch k h).st)
  ∧ (∀ q s k, heard 0x0404 4 (lay 2 fun b => [isNode (byteN b 0), bLe b 1 3]) q s.chip → k = byteN q.payload 0 - 1 →
    maskUsed s.chip k (byteN q.payload 1) → (chUsed s.chip k 0 ∨ chUsed s.chip k 1) → nodeInUse s.chip k = false →
    Answers (.cellResync q) 0x0404 q s .ok [] { s.chip with
      deferB := s.chip.deferB ++ [⟨s.chip.cyc + ahead s.chip 0x0404, q.ring, q.seq, 0x0404, q.payload⟩] })
  ∧ (∀ q s k, heard 0x0410 (8 + ru q.payload 10 2) (lay 12 fun b => [isNode (byteN b 0), rsv b 1 3, 1 ≤ ru b 10 2 && ru b 10 2 ≤ 4084])
      q s.chip → k = byteN q.payload 0 - 1 → (chUsed s.chip k 0 ∨ chUsed s.chip k 1) → chCount s.chip k .active ≠ 0 →
    (s.chip.node k).transfer = none → Runs (.cellNodeRead q) s fun e => ∃ t, (e.node k).transfer = some t ∧ t.opcode = 0x0410
      ∧ t.ring = q.ring ∧ t.seq = q.seq ∧ t.id = (s.chip.node k).nextId ∧ t.deadline = s.chip.now + 100000000
      ∧ t.blocks.map (fun b => (b.seq, b.data))
        = acycBlocks (s.chip.node k).txSeq (s.chip.node k).nextId (le 2 1 ++ zeros 2 ++ slice q.payload 4 8)
      ∧ (∀ b ∈ t.blocks, b.tries = 0 ∧ b.due = true))
  ∧ (∀ q s k, heard 0x0411 4 layNodeWrite q s.chip → k = byteN q.payload 0 - 1 → (chUsed s.chip k 0 ∨ chUsed s.chip k 1) →
    chCount s.chip k .active ≠ 0 → (s.chip.node k).transfer = none → Runs (.cellNodeWrite q) s fun e => ∃ t,
      (e.node k).transfer = some t ∧ t.opcode = 0x0411 ∧ t.blocks.map (fun b => (b.seq, b.data)) = acycBlocks (s.chip.node k).txSeq
        (s.chip.node k).nextId (le 2 2 ++ zeros 2 ++ slice q.payload 4 8 ++ q.payload.drop 12))
  ∧ (∀ q s k, heard 0x0411 4 layNodeWrite q s.chip → k = byteN q.payload 0 - 1 → (chUsed s.chip k 0 ∨ chUsed s.chip k 1) →
    chCount s.chip k .active = 0 → Answers (.cellNodeWrite q) 0x0411 q s .refusedState [] s.chip)
  ∧ (∀ q s k sl, heard 0x0420 5 (lay 1 fun b => [isNode (byteN b 0)]) q s.chip → k = byteN q.payload 0 - 1 →
    (s.chip.node k).claimed = true → (s.chip.node k).slot = some sl → chCount s.chip k .active = 0 →
    Answers (.cellReleaseClaim q) 0x0420 q s .ok (le 1 sl)
      (postCell (onNode s.chip k fun n => { n with slot := none, claimed := false, serial := 0 }) 0x0409 k 0xFF (le 1 sl)))

/-- Loop engines in a cycle (05 R134, R138, R156, R158-R161; 06 R168, R170): an engine dispatches its next axis on complete inputs, a
built-in program leaves the law's result in the staging block, COMMIT before t_dl makes it count, and t_dl closes the cycle, once; nothing is
dispatched after it.
Shown to complete: axisDispatch, inputMissingDispatch, axisCommit, axisProtectionFault, loopDeadline. -/
def Obligations.EnginesDispatchAndCommit : Prop :=
  (∀ s (e : Fin 18) off a g p k r out, s.chip.active = true → s.chip.loops.closed = false →
    (s.chip.atOff off).now < s.chip.t0 + Config.tDl s.chip.cfg.sys.period → running s.chip e = none → inputsReady s.chip a = true →
    (vget s.chip.loops.eng e).axes.find? (fun a => !(s.chip.axis a).dispatched) = some a → s.chip.acfg a = some g →
    findProgram s.chip (programId g (s.chip.axis a)) = some p → p.custom = false → p.identity ≠ 0x00010032 →
    k = (if p.q15 then coefsQ15 p (fit 4096 (s.chip.axis a).coef) else coefsBf p (fit 4096 (s.chip.axis a).coef)) →
    r = law k (s.chip.axis a).sp (s.chip.axis a).state (s.chip.axis a).inp
      (sampleMissing (s.chip.node (g.node - 1)) (s.chip.axis a)) p.observer →
    out = le 2 ((s.chip.axis a).sp.control % 8) ++ leI 2 (satI 16 (r.2.1 + excite s.chip a)) ++ zeros 4 →
    Runs (.axisDispatch e off) s fun x => (x.axis a).dispatched = true
      ∧ (x.axis a).lastDispatch = (s.chip.atOff off).now - s.chip.t0 ∧ (x.axis a).stateNext = r.1
      ∧ (x.axis a).staged = some out ∧ (x.axis a).outb = patch (fit 64 (s.chip.axis a).outb) 0 out
      ∧ (x.axis a).stagedSat = (r.2.2 || Config.lawSat s.chip.free a) ∧ (x.axis a).state = (s.chip.axis a).state)
  ∧ (∀ s (e : Fin 18) off a g p out, s.chip.active = true → s.chip.loops.closed = false →
    (s.chip.atOff off).now < s.chip.t0 + Config.tDl s.chip.cfg.sys.period → running s.chip e = none → inputsReady s.chip a = true →
    (vget s.chip.loops.eng e).axes.find? (fun a => !(s.chip.axis a).dispatched) = some a → s.chip.acfg a = some g →
    findProgram s.chip (programId g (s.chip.axis a)) = some p → p.custom = false → p.identity = 0x00010032 →
    out = le 2 ((s.chip.axis a).sp.control % 8 + 8) ++ leI 2 (s.chip.axis a).sp.phA ++ leI 2 (s.chip.axis a).sp.phB ++ zeros 2 →
    Runs (.axisDispatch e off) s fun x => (x.axis a).dispatched = true ∧ (x.axis a).staged = some out ∧ (x.axis a).stagedSat = false
      ∧ (x.axis a).stateNext = phaseState (s.chip.axis a).sp (s.chip.axis a).state (s.chip.axis a).inp
        (sampleMissing (s.chip.node (g.node - 1)) (s.chip.axis a)))
  ∧ (∀ s (e : Fin 18) off, s.chip.active = true → (s.chip.loops.closed = true ∨
    s.chip.t0 + Config.tDl s.chip.cfg.sys.period ≤ (s.chip.atOff off).now) → Completes (.axisDispatch e off) s (s.chip.atOff off))
  ∧ (∀ s (e : Fin 18) off a, s.chip.active = true → running s.chip e = some a →
    Completes (.axisDispatch e off) s (s.chip.atOff off))
  ∧ (∀ s (k : Fin 24), s.chip.active = true → (s.chip.node k).fresh = false → Runs (.inputMissingDispatch k) s fun x =>
    x.now = (s.chip.atOff (Config.slotStart (missSlot s.chip k) + 350)).now
      ∧ ∀ (a : Fin 128) g, s.chip.acfg a = some g → g.node = k + 1 → mbit (x.axis a).inFlags 0 = true)
  ∧ (∀ s (k : Fin 24), (s.chip.node k).fresh = true → Completes (.inputMissingDispatch k) s s.chip)
  ∧ (∀ s (e : Fin 18) off a out x, running s.chip e = some a → a < 128 → x = s.chip.axis a → x.staged = some out →
    off < Config.tDl s.chip.cfg.sys.period → s.chip.now ≤ s.chip.t0 + off → Runs (.axisCommit e off) s fun t =>
      t.axis a = { x with
        out := some out, staged := none, committed := true, state := x.stateNext, stateNext := x.state, half := 1 - x.half,
        sat := x.stagedSat, satTotal := if x.stagedSat then inc x.satTotal else x.satTotal, lastCommit := off }
      ∧ (vget t.loops.eng e).last = off ∧ (vget t.loops.eng e).latest = max (vget s.chip.loops.eng e).latest off
      ∧ ∀ b, b ≠ a → t.axis b = s.chip.axis b)
  ∧ (∀ s (e : Fin 18) off a, running s.chip e = some a → Config.tDl s.chip.cfg.sys.period ≤ off →
    Completes (.axisCommit e off) s s.chip)
  ∧ (∀ s (e : Fin 18) cause a, running s.chip e = some a →
    Completes (.axisProtectionFault e cause) s (onEng (onAxis s.chip a fun x => { x with abandoned := cause, staged := none }) e
      fun g => { g with busyNow := g.busyNow + cyclesSince s.chip a }))
  ∧ (∀ s (e : Fin 18) a g, s.chip.loops.closed = false → s.chip.acfg a = some g → (vget s.chip.loops.eng e).axes.count a = 1 →
    (∀ j : Fin 18, j ≠ e → a ∉ (vget s.chip.loops.eng j).axes) → (s.chip.axis a).committed = true →
    Runs .loopDeadline s fun x => (x.axis a).dlmiss = false ∧ (x.axis a).misses = 0
      ∧ (x.axis a).missTotal = (s.chip.axis a).missTotal ∧ (x.axis a).faultedDl = (s.chip.axis a).faultedDl)
  ∧ (∀ s (e : Fin 18) a g, s.chip.loops.closed = false → s.chip.acfg a = some g → (vget s.chip.loops.eng e).axes.count a = 1 →
    (∀ j : Fin 18, j ≠ e → a ∉ (vget s.chip.loops.eng j).axes) → (s.chip.axis a).committed = false →
    Runs .loopDeadline s fun x => (x.axis a).dlmiss = true ∧ (x.axis a).misses = (s.chip.axis a).misses + 1
      ∧ (x.axis a).missTotal = inc (s.chip.axis a).missTotal
      ∧ (x.axis a).cause = (if (s.chip.axis a).abandoned = 0 then 1 else (s.chip.axis a).abandoned)
      ∧ (x.axis a).faultedDl = ((s.chip.axis a).faultedDl || decide (g.missLimit < (s.chip.axis a).misses + 1))
      ∧ (x.axis a).out = (s.chip.axis a).out ∧ ∃ m ∈ x.mb.out, m.opcode = 0x0501)
  ∧ (∀ s, s.chip.loops.closed = true → Completes .loopDeadline s s.chip)

/-- Loop commands (05 R162, R164, R165).
Shown to complete: loopGetEngine, loopGetAxis, loopClearCounters, loopGetProgram. -/
def Obligations.LoopCommandsAct : Prop :=
  (∀ q s g, heard 0x0501 48 (lay 1 fun b => [bLe b 0 17]) q s.chip → g = vget s.chip.loops.eng (byteN q.payload 0) →
    Answers (.loopGetEngine q) 0x0501 q s .ok (le 1 g.st.code ++ le 1 g.axes.length ++ zeros 2 ++ le 4 g.busy ++ le 4 g.last
      ++ le 4 g.latest ++ le 4 g.worst ++ le 4 (g.axes.foldl (fun n a => incBy n (s.chip.axis a).missTotal) 0) ++ le 4 g.ecc
      ++ (List.range 16).map (fun i => byte (g.axes.getD i 0xFF))) s.chip)
  ∧ (∀ q s a x g p, heard 0x0502 36 (lay 1 fun b => [bLe b 0 127]) q s.chip → a = byteN q.payload 0 → x = s.chip.axis a →
    s.chip.acfg a = some g → findProgram s.chip (programId g x) = some p → Answers (.loopGetAxis q) 0x0502 q s .ok
      (le 1 ((engineOf s.chip a).getD 0xFF) ++ le 1 (bits [x.dlmiss, x.sat, x.missing, x.faultedDl]) ++ le 1 x.misses ++ le 1 x.cause
        ++ le 4 (programId g x) ++ le 4 p.version ++ le 4 p.wcet ++ le 4 x.missTotal ++ le 4 x.satTotal ++ le 4 x.lastDispatch
        ++ le 4 x.lastCommit) s.chip)
  ∧ (∀ q s, heard 0x0502 36 (lay 1 fun b => [bLe b 0 127]) q s.chip → s.chip.acfg (byteN q.payload 0) = none →
    Answers (.loopGetAxis q) 0x0502 q s .ok (le 1 0xFF ++ zeros 31) s.chip)
  ∧ (∀ q s k, heard 0x0503 4 (lay 1 fun b => [byteN b 0 < 18 || byteN b 0 = 0xFF]) q s.chip → k = byteN q.payload 0 → k < 18 →
    Runs (.loopClearCounters q) s fun e => Told 0x0503 q .ok [] s.chip e
      ∧ (vget e.loops.eng k).latest = 0 ∧ (vget e.loops.eng k).ecc = 0 ∧ (vget e.loops.eng k).axes = (vget s.chip.loops.eng k).axes
      ∧ (∀ j, j ≠ k → vget e.loops.eng j = vget s.chip.loops.eng j)
      ∧ ∀ a ∈ (vget s.chip.loops.eng k).axes, (e.axis a).missTotal = 0 ∧ (e.axis a).satTotal = 0
        ∧ (e.axis a).misses = (s.chip.axis a).misses ∧ (e.axis a).faultedDl = (s.chip.axis a).faultedDl)
  ∧ (∀ q s p, heard 0x0504 68 (lay 4 fun _ => []) q s.chip → findProgram s.chip (ru q.payload 0 4) = some p →
    Answers (.loopGetProgram q) 0x0504 q s .ok (programHeader p) s.chip)
  ∧ (∀ q s, heard 0x0504 68 (lay 4 fun _ => []) q s.chip → findProgram s.chip (ru q.payload 0 4) = none →
    Answers (.loopGetProgram q) 0x0504 q s .badParam [] s.chip)

/-- Timers of the enable, disable and stop sequences (06 R188-R190, R194; 01 R29, R31): an exceeded limit stops the owner's group with
its cause and sends STOP to the group's nodes; brakes and off-times end as the rules say.
Shown to complete: enableTimeout, brakeEngageExpiry, powerOffTimeout, stopOverdue, jointTestEnd, offTimeElapsed. -/
def Obligations.SequenceTimersEnd : Prop :=
  (∀ s (o : Fin 44) g, s.chip.ocfg o = some g → (s.chip.seq o).st = .enabling → (s.chip.seq o).fault = none →
    ((s.chip.seq o).step = .power ∨ (s.chip.seq o).step = .release ∨ (s.chip.seq o).step = .settle) →
    o.val ∈ stopGroup s.chip o → Runs (.enableTimeout o) s fun e => (e.seq o).st = .stopping ∧ (e.seq o).stop = .fault
      ∧ (∃ a, (e.seq o).fault = some (8, a, s.chip.count)) ∧ (∀ k : Fin 24, k.val ∈ groupNodes s.chip o → (e.node k).command = 1)
      ∧ ∃ m ∈ e.mb.out, m.opcode = 0x0511)
  ∧ (∀ s (o : Fin 44) g x, s.chip.ocfg o = some g → x = s.chip.seq o → x.st = .stopping → x.stop = .disable → x.step = .brake →
    x.brakeStuck = false → x.tool.step ≠ .brake → (seqAxes s.chip o).any (fun a => !noBrake s.chip a && brakeOpen s.chip a) = false →
    Completes (.brakeEngageExpiry o) s (onSeq (s.chip.atTime (x.since + g.tBeng * 1000000)) o fun q =>
      powerOff q (max s.chip.now (x.since + g.tBeng * 1000000))))
  ∧ (∀ s (o : Fin 44) g x, s.chip.ocfg o = some g → x = s.chip.seq o → x.st = .stopping → x.stop = .disable → x.step = .brake →
    x.brakeStuck = false → x.tool.step ≠ .brake → (seqAxes s.chip o).any (fun a => !noBrake s.chip a && brakeOpen s.chip a) = true →
    Runs (.brakeEngageExpiry o) s fun e => e.seq o = { x with brakeStuck := true } ∧ ∃ m ∈ e.mb.out, m.opcode = 0x0515)
  ∧ (∀ s (o : Fin 44) g x, s.chip.ocfg o = some g → x = s.chip.seq o → x.st = .hold → x.tool.step = .brake → x.tool.stuck = false →
    x.tool.axes.any (fun a => !noBrake s.chip a && brakeOpen s.chip a) = false →
    Completes (.brakeEngageExpiry o) s (onSeq (s.chip.atTime (x.tool.since + g.tBeng * 1000000)) o fun q => { q with
      tool := toolOff (max s.chip.now (x.tool.since + g.tBeng * 1000000)) q.tool }))
  ∧ (∀ s (o : Fin 44) g x, s.chip.ocfg o = some g → x = s.chip.seq o → x.st = .stopping → x.stop = .disable → x.step = .off →
    x.tool.step ≠ .off → x.fault = none → o.val ∈ stopGroup s.chip o → (seqAxes s.chip o).any (powerOn s.chip) = true →
    Runs (.powerOffTimeout o) s fun e => (e.seq o).st = .stopping ∧ (e.seq o).stop = .fault
      ∧ (∃ a, (e.seq o).fault = some (6, a, s.chip.count)) ∧ ∀ k : Fin 24, k.val ∈ groupNodes s.chip o → (e.node k).command = 1)
  ∧ (∀ s (o : Fin 44) g x t, s.chip.ocfg o = some g → x = s.chip.seq o → x.st = .stopping → x.stop = .fault → x.stopSent = some t →
    x.overdue = false → (notStopped s.chip o).isEmpty = false → Runs (.stopOverdue o) s fun e => e.seq o = { x with overdue := true }
      ∧ e.now = max s.chip.now (t + g.tSs1 * 1000000) ∧ (0x0503, ownerTarget o) ∈ e.sys.haltCauses
      ∧ ∃ m ∈ e.mb.out, m.opcode = 0x0516)
  ∧ (∀ c o g x, o < 44 → c.ocfg o = some g → x = c.seq o → x.st = .stopping → x.stop = .fault → x.overdue = true →
    ∀ e, e = (seqTurn c o).seq o → e.st = .faulted ∧ e.enable = false ∧ e.release = false ∧ e.fault = x.fault
      ∧ e.offEnd = some (c.now + offTime c o))
  ∧ (∀ s (a : Fin 12) t, (s.chip.seq a).test = some t → t.endsAt ≤ s.chip.now → Runs (.jointTestEnd a) s fun e =>
    (e.seq a).test = none ∧ (e.seq a).testEnded = true ∧ (e.seq a).st = (s.chip.seq a).st ∧ ∃ m ∈ e.mb.out, m.opcode = 0x0510)
  ∧ (∀ s (o : Fin 44) t, (s.chip.seq o).offEnd = some t →
    Completes (.offTimeElapsed o) s (onSeq (s.chip.atTime t) o fun x => { x with offEnd := none }))

/-- Enabling, disabling and clearing arms and auxiliary axes (01 R28-R30; 06 R186-R189, R195; 09 R290): the answer, and the sequence
as it starts at the boundary. That latching comes before the other conditions is the model's choice (log 22).
Shown to complete: armEnable, auxEnable, armDisable, auxDisable, armClearFault, profClearFault. -/
def Obligations.OwnersEnableAndDisable : Prop :=
  (∀ q s, heard 0x0510 5 (lay 2 fun b => [isArm (byteN b 0), bLe b 1 1]) q s.chip → (s.chip.ocfg (byteN q.payload 0)).isSome →
    shutsDown s.chip (s.chip.seq (byteN q.payload 0)) = false → toolStops (s.chip.seq (byteN q.payload 0)) = false →
    enableBars s.chip (byteN q.payload 0) (mbit (byteN q.payload 1) 0) = false →
    Answers (.armEnable q) 0x0510 q s .ok (le 1 0) (deferB (endLatched s.chip (byteN q.payload 0) .refusedState) 0x0510 q))
  ∧ (∀ q s o, heard 0x0510 5 (lay 2 fun b => [isArm (byteN b 0), bLe b 1 1]) q s.chip → o = byteN q.payload 0 →
    (s.chip.ocfg o).isSome → shutsDown s.chip (s.chip.seq o) = true → (s.chip.seq o).fault = none →
    (s.chip.seq o).latched = none → Answers (.armEnable q) 0x0510 q s .queued (le 1 (s.chip.seq o).st.code)
      (onSeq s.chip o fun x => { x with latched := some (0x0510, q.ring, q.seq), latchedTool := mbit (byteN q.payload 1) 0 }))
  ∧ (∀ q s o, heard 0x0510 5 (lay 2 fun b => [isArm (byteN b 0), bLe b 1 1]) q s.chip → o = byteN q.payload 0 →
    (s.chip.ocfg o).isSome → (s.chip.seq o).st ≠ .hold → shutsDown s.chip (s.chip.seq o) = false → toolStops (s.chip.seq o) = false →
    enableBars s.chip o (mbit (byteN q.payload 1) 0) = true → Answers (.armEnable q) 0x0510 q s .refusedState [] s.chip)
  ∧ (∀ q s o, heard 0x080D 5 (lay 1 fun b => [bLe b 0 31]) q s.chip → o = 12 + byteN q.payload 0 → (s.chip.ocfg o).isSome →
    shutsDown s.chip (s.chip.seq o) = false → enableBars s.chip o false = false →
    Answers (.auxEnable q) 0x080D q s .ok (le 1 0) (deferB (endLatched s.chip o .refusedState) 0x080D q))
  ∧ (∀ q s o, heard 0x0511 5 (lay 2 fun b => [isArm (byteN b 0), bLe b 1 3]) q s.chip → o = byteN q.payload 0 → byteN q.payload 1 = 0 →
    (s.chip.ocfg o).isSome → (s.chip.seq o).st ≠ .faulted → ((s.chip.seq o).st = .stopping → (s.chip.seq o).stop = .disable) →
    Answers (.armDisable q) 0x0511 q s .ok (le 1 (s.chip.seq o).st.code) (deferB (endLatched s.chip o .refusedState) 0x0511 q))
  ∧ (∀ q s o, heard 0x0511 5 (lay 2 fun b => [isArm (byteN b 0), bLe b 1 3]) q s.chip → o = byteN q.payload 0 → byteN q.payload 1 = 1 →
    (s.chip.ocfg o).isSome → (s.chip.seq o).brakeStuck = false → (s.chip.seq o).tool.stuck = false → Answers (.armDisable q) 0x0511 q s .refusedState [] s.chip)
  ∧ (∀ q s o, heard 0x080E 5 (lay 2 fun b => [bLe b 0 31, bLe b 1 1]) q s.chip → o = 12 + byteN q.payload 0 → byteN q.payload 1 = 0 →
    (s.chip.ocfg o).isSome → (s.chip.seq o).st ≠ .faulted → ((s.chip.seq o).st = .stopping → (s.chip.seq o).stop = .disable) →
    Answers (.auxDisable q) 0x080E q s .ok (le 1 (s.chip.seq o).st.code) (deferB (endLatched s.chip o .refusedState) 0x080E q))
  ∧ (∀ q s o, heard 0x0519 5 (lay 1 fun b => [isArm (byteN b 0)]) q s.chip → o = byteN q.payload 0 → (s.chip.ocfg o).isSome →
    clearBars s.chip o = false → Answers (.armClearFault q) 0x0519 q s .ok (le 1 (s.chip.seq o).st.code) (deferB s.chip 0x0519 q))
  ∧ (∀ q s o, heard 0x080F 4 (lay 1 fun b => [(targetOwner (byteN b 0)).isSome]) q s.chip → targetOwner (byteN q.payload 0) = some o →
    (s.chip.ocfg o).isSome → ownerAtRest s.chip o = true → (s.chip.seq o).st ≠ .faulted →
    Answers (.profClearFault q) 0x080F q s .ok [] (deferB s.chip 0x080F q))
  ∧ (∀ c o, o < 44 → enableBars c o false = false → shutsDown c (c.seq o) = false → (c.seq o).st = .disabled → ∀ x,
    x = (applyEnable o false [] c).seq o → x.st = .enabling ∧ x.step = .power ∧ x.since = c.now ∧ x.enable = true ∧ x.release = false
      ∧ x.ramp = 0)
  ∧ (∀ c o, o < 44 → (c.seq o).st = .faulted → clearBars c o = false → ∀ e, e = applyClear o c →
    (e.seq o).st = .disabled ∧ (e.seq o).fault = none ∧ ∀ k : Fin 24, k.val ∈ groupNodes c o → (e.node k).command = 2)

/-- Coefficients, supervision, tests and readings of joints (06 R174, R175, R181-R183, R192, R193).
Shown to complete: armGetState, jointCoefWrite, jointCoefRead, jointBankSwap, jointSetSupervision, jointGet, jointTest. -/
def Obligations.JointCommandsAct : Prop :=
  (∀ q s o x xs f, heard 0x0512 24 (lay 1 fun b => [isArm (byteN b 0)]) q s.chip → o = byteN q.payload 0 → (s.chip.ocfg o).isSome →
    x = s.chip.seq o → xs = ownerAxes s.chip o → f = x.fault.getD (0, 0, 0) → Answers (.armGetState q) 0x0512 q s .ok (le 1 x.st.code
      ++ le 1 (bits [x.fault.isSome, x.latched.isSome, xs.any (fun a => (s.chip.axis a).q15), x.recovery.isSome,
        !(toolAxes s.chip o).isEmpty, x.brakeStuck || x.tool.stuck])
      ++ le 1 (match xs with | a :: _ => (s.chip.axis a).bank | [] => 0) ++ le 1 (b2n x.swap.isSome) ++ le 1 f.1 ++ le 1 f.2.1 ++ zeros 2
      ++ le 4 f.2.2 ++ le 2 (maskOf 12 fun i => match xs[i]? with | some a => mbit (byteN (s.chip.axis a).state 13) 0 | none => false)
      ++ le 2 (maskOf 12 fun i => match xs[i]? with | some a => (s.chip.sup a).warned | none => false)
      ++ le 4 (msLeft s.chip.now x.offEnd)) s.chip)
  ∧ (∀ q s a b x, heard 0x0513 4 (fun b => 8 ≤ b.length && layBlock b && b.length = 8 + ru b 4 2 && bLe b 0 127 && bLe b 1 1 && rsv b 6 2)
      q s.chip → b = q.payload → a = byteN b 0 → x = s.chip.axis a → (s.chip.acfg a).isSome → swapPending s.chip a = false →
    byteN b 1 = 0 → x.bank = 0 → Answers (.jointCoefWrite q) 0x0513 q s .ok []
      (onAxis s.chip a fun x => { x with bankB := patch (fit 4096 x.bankB) (ru b 2 2) (b.drop 8) }))
  ∧ (∀ q s a b x, heard 0x0513 4 (fun b => 8 ≤ b.length && layBlock b && b.length = 8 + ru b 4 2 && bLe b 0 127 && bLe b 1 1 && rsv b 6 2)
      q s.chip → b = q.payload → a = byteN b 0 → x = s.chip.axis a → (s.chip.acfg a).isSome → swapPending s.chip a = false →
    byteN b 1 = 1 → x.bank = 1 → Answers (.jointCoefWrite q) 0x0513 q s .ok []
      (onAxis s.chip a fun x => { x with bankA := patch (fit 4096 x.bankB) (ru b 2 2) (b.drop 8) }))
  ∧ (∀ q s a b, heard 0x0514 4104 (fun b => b.length = 6 && layBlock b && bLe b 0 127 && bLe b 1 1) q s.chip → b = q.payload →
    a = byteN b 0 → (s.chip.acfg a).isSome → Answers (.jointCoefRead q) 0x0514 q s .ok (le 2 (ru b 4 2) ++ zeros 2
      ++ slice (if byteN b 1 = 0 then (s.chip.axis a).bankA else (s.chip.axis a).bankB) (ru b 2 2) (ru b 4 2)) s.chip)
  ∧ (∀ q s o gen d, heard 0x0515 12 (lay 8 fun b => [byteN b 0 < 12 && byteN b 1 = 0 || byteN b 0 = 0xFF && bLe b 1 127, rsv b 2 2])
      q s.chip → swapTarget s.chip q.payload = some o → (s.chip.ocfg o).isSome → gen = ru q.payload 4 4 →
    swapChecks s.chip (ownerAxes s.chip o) gen = none → (s.chip.seq o).swap = none → d = s.chip.cyc + ahead s.chip 0x0515 + 1 →
    Answers (.jointBankSwap q) 0x0515 q s .ok
      (le 1 (match ownerAxes s.chip o with | a :: _ => (s.chip.axis a).bank | [] => 0) ++ zeros 3 ++ le 4 (d % 4294967296))
      (onSeq (deferB s.chip 0x0515 q 1) o fun x => { x with swap := some (d, gen) }))
  ∧ (∀ q s o gen, heard 0x0515 12 (lay 8 fun b => [byteN b 0 < 12 && byteN b 1 = 0 || byteN b 0 = 0xFF && bLe b 1 127, rsv b 2 2])
      q s.chip → swapTarget s.chip q.payload = some o → (s.chip.ocfg o).isSome → gen = ru q.payload 4 4 →
    swapChecks s.chip (ownerAxes s.chip o) gen = some .checkFail → Answers (.jointBankSwap q) 0x0515 q s .checkFail [] s.chip)
  ∧ (∀ q s o, heard 0x0516 4 (lay 24 fun b => [bLe b 0 127, bLe b 1 4, ru b 2 2 ≤ 3200, 1 ≤ ru b 4 4 && ru b 4 4 ≤ 2147483647,
      ru b 8 4 ≤ ru b 4 4, 66 ≤ ru b 12 4 && ru b 12 4 ≤ 6553600, 1 ≤ ru b 16 2 && ru b 16 2 ≤ 100, ru b 18 2 < 0x8000,
      1 ≤ ru b 20 2 && ru b 20 2 ≤ 100, rsv b 22 2]) q s.chip → axisOwner s.chip (byteN q.payload 0) = some o → s.chip.sys.dev ≠ .automatic →
    ((s.chip.seq o).st = .disabled ∨ (s.chip.seq o).st = .hold) →
    Answers (.jointSetSupervision q) 0x0516 q s .ok [] (deferB s.chip 0x0516 q))
  ∧ (∀ q s a x y, heard 0x0517 32 (lay 1 fun b => [bLe b 0 127]) q s.chip → a = byteN q.payload 0 → (axisOwner s.chip a).isSome →
    x = s.chip.axis a → y = s.chip.sup a → Answers (.jointGet q) 0x0517 q s .ok
      (le 1 (b2n x.q15) ++ slice x.state 13 1 ++ slice x.state 12 1 ++ zeros 1 ++ slice x.state 0 4 ++ leI 4 (satI 32 y.peak)
        ++ slice x.state 8 4 ++ slice x.state 24 4 ++ le 4 y.bridged ++ le 4 y.faults) s.chip)
  ∧ (∀ q s o, heard 0x0518 4 (lay 16 fun b => [bLe b 0 127, 1 ≤ byteN b 1 && byteN b 1 ≤ 3, 10 ≤ ru b 12 4 && ru b 12 4 ≤ 60000])
      q s.chip → axisOwner s.chip (byteN q.payload 0) = some o → o < 12 → s.chip.sys.dev = .commissioning → (s.chip.seq o).st = .hold →
    (s.chip.seq o).test = none → Answers (.jointTest q) 0x0518 q s .ok [] (deferB s.chip 0x0518 q))
  ∧ (∀ b c o, axisOwner c (byteN b 0) = some o → o < 12 → c.sys.dev = .commissioning → (c.seq o).st = .hold → (c.seq o).test = none →
    ((applyTest b c).seq o).test = some {
      axis := byteN b 0, shape := byteN b 1, amp := ru b 2 2, f0 := ru b 4 4, f1 := ru b 8 4,
      endsAt := c.now + ru b 12 4 * 1000000 })

/-- Tiles (07 R206-R208, R210): class C work suspends the tile's class P job, the arms of a tile take their turns, part 1 writes the
torques and part 2 the inertia ratios of the inactive halves before t_dl. The dynamics are computed up to the tile's own rounding
(log 35).
Shown to complete: classCStart, feedForwardDone. -/
def Obligations.FeedForwardIsWritten : Prop :=
  (∀ s (t : Fin 9), s.chip.active = true → (s.chip.tileOf t).st = .inService → (s.chip.tileOf t).started = false →
    Completes (.classCStart t) s (onTile ((tileRests (s.chip.atOff Config.tIn) t).atOff Config.tCs) t fun x => { x with
      started := true, suspended := s.chip.solver.jobs.any (fun j => j.tile = some t.val && j.done.isNone) }))
  ∧ (∀ s (t : Fin 9), (s.chip.active = false ∨ (s.chip.tileOf t).st ≠ .inService ∨ (s.chip.tileOf t).started = true) →
    Completes (.classCStart t) s s.chip)
  ∧ (∀ s (a : Fin 12) off m t, s.chip.mcfg a = some m → m.valid = false → tileFor s.chip a = some t →
    (s.chip.tileOf t).started = true → (s.chip.sarm a).part = 0 → s.chip.loops.closed = false →
    off < Config.tDl s.chip.cfg.sys.period → jobsBefore s.chip t a → Runs (.feedForwardDone a false off) s fun e =>
      (e.sarm a).part = 1 ∧ ∀ j ∈ (rigOf s.chip a m).joints, j.joint < 128 → (e.axis j.joint).spNext =
        { (s.chip.axis j.joint).spNext with tau := 0, ffFlags := 0 })
  ∧ (∀ s (a : Fin 12) off m t (g : Rig) (r : List Int × Bool), s.chip.mcfg a = some m → m.valid = true → tileFor s.chip a = some t →
    (s.chip.tileOf t).started = true → (s.chip.sarm a).part = 0 → s.chip.loops.closed = false →
    off < Config.tDl s.chip.cfg.sys.period → jobsBefore s.chip t a → g = rigOf s.chip a m → (g.joints.map (·.joint)).Nodup →
    r = ffTorque g (armState s.chip g.joints) → Runs (.feedForwardDone a false off) s fun e =>
      (e.sarm a).part = 1 ∧ (e.sarm a).overflow = r.2 ∧ ∀ p ∈ g.joints.zip r.1, p.1.joint < 128 →
        (e.axis p.1.joint).spNext = { (s.chip.axis p.1.joint).spNext with tau := p.2, ffFlags := 1 })
  ∧ (∀ s (a : Fin 12) off m t (g : Rig) (r : List Nat × Bool), s.chip.mcfg a = some m → m.valid = true → tileFor s.chip a = some t →
    (s.chip.tileOf t).started = true → (s.chip.sarm a).part = 1 → s.chip.loops.closed = false →
    off < Config.tDl s.chip.cfg.sys.period → classCEnd s.chip t a ≤ off → jobsBefore s.chip t a → g = rigOf s.chip a m →
    (g.joints.map (·.joint)).Nodup → r = ffRatio g (armState s.chip g.joints) → Runs (.feedForwardDone a true off) s fun e =>
      (e.sarm a).part = 2 ∧ (e.sarm a).overflow = ((s.chip.sarm a).overflow || r.2)
      ∧ ∀ p ∈ g.joints.zip r.1, p.1.joint < 128 →
        (e.axis p.1.joint).spNext = { (s.chip.axis p.1.joint).spNext with inertia := p.2 })
  ∧ (∀ s (a : Fin 12) part off, (s.chip.mcfg a = none ∨ s.chip.loops.closed = true ∨ Config.tDl s.chip.cfg.sys.period ≤ off) →
    Completes (.feedForwardDone a part off) s s.chip)

/-- Class P jobs (07 R209-R211, R214-R216, R219, R222, R224, R225, R227): a free tile takes the next job with its seed and load, iterates
become visible, and a job ends with its result, at its deadline with what it has.
Shown to complete: classPJobStart, ikIteratePublished, solverJobDone, solverJobDeadline, solverResultExpiry. -/
def Obligations.JobsRunAndEnd : Prop :=
  (∀ s (t : Fin 9) j y, s.chip.active = true → (s.chip.tileOf t).st = .inService →
    s.chip.solver.jobs.any (fun j => j.tile = some t.val && j.done.isNone) = false → classCNow s.chip t 0 = false →
    nextWaiting s.chip = some j → (j.type ≠ 3 ∨ j.iterate.isSome ∨ j.seed ≠ []) → y = s.chip.sarm j.arm →
    Completes (.classPJobStart t) s (onJob (tileWorks s.chip t) j.id fun x => { x with
      tile := some t.val, load := x.load.orElse fun _ => some (y.tool, y.payload, y.payPos) }))
  ∧ (∀ s (t : Fin 9) j m y w, s.chip.active = true → (s.chip.tileOf t).st = .inService →
    s.chip.solver.jobs.any (fun j => j.tile = some t.val && j.done.isNone) = false → classCNow s.chip t 0 = false →
    nextWaiting s.chip = some j → j.type = 3 → j.iterate = none → j.seed = [] → j.arm < 12 → s.chip.mcfg j.arm = some m →
    y = s.chip.sarm j.arm → w = warmStart (rigOf s.chip j.arm m) y j → Runs (.classPJobStart t) s fun e =>
      e.solver.jobs = s.chip.solver.jobs.map (fun x => if x.id = j.id then { x with
        tile := some t.val, load := x.load.orElse fun _ => some (y.tool, y.payload, y.payPos), seed := w.1, warm := w.2.1 } else x)
      ∧ (e.sarm j.arm).cache = w.2.2.1.cache ∧ (e.sarm j.arm).wscMiss = (if w.2.2.2 then inc y.wscMiss else y.wscMiss)
      ∧ vget e.mb.classP 2 = (if w.2.2.2 then inc (vget s.chip.mb.classP 2) else vget s.chip.mb.classP 2))
  ∧ (∀ s (t : Fin 9), (s.chip.active = false ∨ classCNow s.chip t 0 ∨ nextWaiting s.chip = none) →
    Completes (.classPJobStart t) s s.chip)
  ∧ (∀ s (t : Fin 9) u d j y c, d = s.chip.atTime u → runningJob d t = some j → j.type = 3 → j.over = false → nextIterate d j = some y →
    j.iterate.any (fun x => y.k ≤ x.k) = false → c = onJob d j.id (fun j => { j with iterate := some y }) →
    Completes (.ikIteratePublished t y.k u) s
      (if mbit y.flags 5 && !j.iterate.any (fun x => mbit x.flags 5) then countOvf c j t else c))
  ∧ (∀ s (t : Fin 9) k u, runningJob (s.chip.atTime u) t = none →
    Completes (.ikIteratePublished t k u) s s.chip ∧ Completes (.solverJobDone t u) s s.chip)
  ∧ (∀ s (t : Fin 9) u d j x w, d = s.chip.atTime u → runningJob d t = some j → j.type = 3 → j.iterate = some x → x.ended = true → j.seg = none →
    j.arm < 12 → (d.mcfg j.arm).isSome → w = ikWords d j x → Runs (.solverJobDone t u) s fun e =>
      e.solver.jobs = s.chip.solver.jobs.map (fun z => if z.id = j.id then
        { z with done := some (0, resultBytes d j 0 x.flags x.k w, d.now) } else z)
      ∧ (mbit x.flags 0 = true → mbit j.flags 3 = false →
          (cacheIndex j.inputs 0, w.drop (w.length - 96)) ∈ (e.sarm j.arm).cache)
      ∧ ∃ m ∈ e.mb.out, m.opcode = 0x0601)
  ∧ (∀ s (t : Fin 9) u d j m r, d = s.chip.atTime u → runningJob d t = some j → j.type ≠ 3 → j.type ≠ 8 → j.seg = none → j.arm < 12 →
    d.mcfg j.arm = some m → r = jobResult (jobRig d j m) j.type j.flags j.inputs → Runs (.solverJobDone t u) s fun e =>
      e.solver.jobs = s.chip.solver.jobs.map (fun z => if z.id = j.id then { z with
        done := some (0, resultBytes d j 0 r.2.2 0 (zeros 8 ++ leI 4 r.2.1 ++ zeros 4 ++ (r.1.map (leI 4)).flatten), d.now) }
        else z)
      ∧ (e.sarm j.arm).ovf = (if mbit r.2.2 5 then inc (s.chip.sarm j.arm).ovf else (s.chip.sarm j.arm).ovf)
      ∧ ∃ m ∈ e.mb.out, m.opcode = 0x0601)
  ∧ (∀ s id j n, findJob s.chip id = some j → j.done = none → j.seg = none → j.iterate = none → n = max s.chip.now j.deadline →
    Runs (.solverJobDeadline id) s fun e => e.now = n ∧ e.solver.jobs = s.chip.solver.jobs.map (fun z => if z.id = j.id then
      { z with done := some (7, resultBytes s.chip j 7 0 0 [], n) } else z))
  ∧ (∀ s id j x y n, findJob s.chip id = some j → j.done = none → j.seg = none → j.iterate = some x → x.ended = false →
    y = { x with flags := x.flags - x.flags % 2 } → n = max s.chip.now j.deadline → Runs (.solverJobDeadline id) s fun e =>
      e.now = n ∧ e.solver.jobs = s.chip.solver.jobs.map (fun z => if z.id = j.id then
        { z with done := some (12, resultBytes s.chip j 12 y.flags y.k (ikWords s.chip j y), n) } else z))
  ∧ (∀ s id j x n, findJob s.chip id = some j → j.done = none → j.seg = none → j.iterate = some x → x.ended = true →
    n = max s.chip.now j.deadline → Runs (.solverJobDeadline id) s fun e =>
      e.now = n ∧ e.solver.jobs = s.chip.solver.jobs.map (fun z => if z.id = j.id then
        { z with done := some (0, resultBytes s.chip j 0 x.flags x.k (ikWords s.chip j x), n) } else z))
  ∧ (∀ s id j, findJob s.chip id = some j → j.done.isSome → Completes (.solverJobDeadline id) s s.chip)
  ∧ (∀ s id j st b (t : Nat), findJob s.chip id = some j → j.done = some (st, b, t) →
    Completes (.solverResultExpiry id) s (dropJob (s.chip.atTime (t + 1000000000)) id))

/-- Solver commands (07 R216, R220, R222, R225-R227).
Shown to complete: solverGetArm, solverSetTool, solverSetPayload, solverSubmit, solverResult, solverCancel, solverWarmFlush,
solverGetTile, solverClearCounters. -/
def Obligations.SolverCommandsAct : Prop :=
  (∀ q s a x m, heard 0x0601 40 (lay 1 fun b => [isArm (byteN b 0)]) q s.chip → a = byteN q.payload 0 → s.chip.mcfg a = some m →
    x = s.chip.sarm a → Answers (.solverGetArm q) 0x0601 q s .ok (le 1 (b2n m.valid) ++ le 1 (nPresent s.chip a)
      ++ le 1 (((List.range 9).find? (fun t => (s.chip.tileOf t).arms.contains a)).getD 0xFF)
      ++ le 1 (bits [(presentJoints m x.present).any (fun j => mbit (s.chip.axis j.joint).sp.ffFlags 1),
          (List.range m.joints.length).any (fun i => mbit x.present i && mbit (m.joints.getD i {}).flags 1)])
      ++ le 8 x.signature ++ le 4 m.generation ++ le 4 x.ovf ++ le 4 x.staleTotal ++ le 4 x.wscMiss ++ slice x.tool 0 4
      ++ leI 4 x.payload) s.chip)
  ∧ (∀ q s a, heard 0x0602 8 (lay 100 fun b => [isArm (byteN b 0), rsv b 1 3, rsv b 76 24]) q s.chip → a = byteN q.payload 0 →
    (s.chip.mcfg a).isSome → ((s.chip.seq a).st = .disabled ∨ (s.chip.seq a).st = .hold) →
    Answers (.solverSetTool q) 0x0602 q s .ok (le 4 (dueCount s.chip 0x0602)) (deferB s.chip 0x0602 q))
  ∧ (∀ q s a, heard 0x0602 8 (lay 100 fun b => [isArm (byteN b 0), rsv b 1 3, rsv b 76 24]) q s.chip → a = byteN q.payload 0 →
    (s.chip.mcfg a).isSome → (s.chip.seq a).st ≠ .disabled → (s.chip.seq a).st ≠ .hold →
    Answers (.solverSetTool q) 0x0602 q s .refusedState [] s.chip)
  ∧ (∀ q s m, heard 0x0603 8 (lay 20 fun b => [isArm (byteN b 0), rsv b 1 3]) q s.chip → s.chip.mcfg (byteN q.payload 0) = some m →
    0 ≤ ri q.payload 4 4 → ri q.payload 4 4 ≤ m.payMax →
    Answers (.solverSetPayload q) 0x0603 q s .ok (le 4 (dueCount s.chip 0x0603)) (deferB s.chip 0x0603 q))
  ∧ (∀ q s a m b cap (n : Nat), heard 0x0604 12 (fun b => 12 ≤ b.length && [1 ≤ byteN b 0 && byteN b 0 ≤ 7, isArm (byteN b 1), bLe b 2 15,
      bLe b 3 64, 10 ≤ ru b 4 4 && ru b 4 4 ≤ 1000000].all id) q s.chip → b = q.payload → a = byteN b 1 → s.chip.mcfg a = some m →
    m.valid = true → b.length = 12 + inputLen (nPresent s.chip a) (byteN b 0) (byteN b 2) →
    queueRoom s.chip 1 → ((s.chip.solver.jobs.filter (fun j => j.tile.isNone && j.done.isNone)).filter (·.host)).length < 16 →
    byteN b 2 % 4 < 2 →
    cap = (if byteN b 3 = 0 then m.cap else byteN b 3) → n = freshJob s.chip →
    Answers (.solverSubmit q) 0x0604 q s .ok (le 2 n ++ zeros 2 ++ le 4 (jobCost m.delta (nPresent s.chip a) (byteN b 0) cap))
      (pushJob s.chip {
        id := n, type := byteN b 0, arm := a, host := true, flags := byteN b 2, cap := cap, inputs := b.drop 12, tag := ru b 8 4,
        deadline := s.chip.now + ru b 4 4 * 1000, submitted := s.chip.now }))
  ∧ (∀ q s j st b t, heard 0x0605 352 (lay 2 fun _ => []) q s.chip → findJob s.chip (ru q.payload 0 2) = some j →
    j.done = some (st, b, t) → b.length ≤ 348 → Answers (.solverResult q) 0x0605 q s .ok b (dropJob s.chip (ru q.payload 0 2)))
  ∧ (∀ q s j, heard 0x0605 352 (lay 2 fun _ => []) q s.chip → findJob s.chip (ru q.payload 0 2) = some j → j.done = none →
    Answers (.solverResult q) 0x0605 q s .busy [] s.chip)
  ∧ (∀ q s j, heard 0x0606 4 (lay 2 fun _ => []) q s.chip → findJob s.chip (ru q.payload 0 2) = some j → j.done = none →
    Answers (.solverCancel q) 0x0606 q s .ok [] (squashJob s.chip j))
  ∧ (∀ q s j, heard 0x0606 4 (lay 2 fun _ => []) q s.chip → findJob s.chip (ru q.payload 0 2) = some j → (∃ st b t, j.done = some (st, b, t) ∧
    (t ≠ s.chip.now ∨ t ≠ j.deadline)) → Answers (.solverCancel q) 0x0606 q s .refusedState [] s.chip)
  ∧ (∀ q s j b, heard 0x0606 4 (lay 2 fun _ => []) q s.chip → findJob s.chip (ru q.payload 0 2) = some j →
    j.done = some (7, b, s.chip.now) → j.deadline = s.chip.now →
    Answers (.solverCancel q) 0x0606 q s .ok [] (squashJob s.chip { j with tile := none }))
  ∧ (∀ q s a, heard 0x0607 4 (lay 1 fun b => [byteN b 0 < 12 || byteN b 0 = 0xFF]) q s.chip → a = byteN q.payload 0 →
    armOrAll s.chip a = true → Answers (.solverWarmFlush q) 0x0607 q s .ok [] (s.chip.onSolver fun y => { y with
      arm := vmapIdx y.arm (fun i x => if a = 0xFF || a = i then { x with cache := [] } else x) }))
  ∧ (∀ q s x, heard 0x0608 24 (lay 1 fun b => [bLe b 0 8]) q s.chip → x = s.chip.tileOf (byteN q.payload 0) →
    Answers (.solverGetTile q) 0x0608 q s .ok (le 1 x.st.code ++ le 1 x.arms.length ++ zeros 2 ++ le 4 x.last ++ le 4 x.latest
      ++ le 4 x.busyP ++ le 4 x.ovf) s.chip)
  ∧ (∀ q s a t, heard 0x0609 4 (lay 2 fun b => [byteN b 0 < 12 || byteN b 0 = 0xFF, byteN b 1 < 9 || byteN b 1 = 0xFF]) q s.chip →
    a = byteN q.payload 0 → t = byteN q.payload 1 → armOrAll s.chip a = true →
    Answers (.solverClearCounters q) 0x0609 q s .ok [] (s.chip.onSolver fun y => { y with
      arm := vmapIdx y.arm (fun i x => if a = 0xFF || a = i then { x with ovf := 0, staleTotal := 0, wscMiss := 0 } else x),
      tile := vmapIdx y.tile (fun i x => if t = 0xFF || t = i then { x with latest := 0, ovf := 0 } else x) }))

/-- The planner's tick, load and cores (08 R228, R229, R234, R240, R243, R256, R257, R260): a tick is due on its cycles only, a late one
skips the next; squashes take their chain; the level follows the load.
Shown to complete: plannerTick, plannerLoadWindow, plannerCoreRemoved. -/
def Obligations.PlannerTicks : Prop :=
  (∀ s, s.chip.active = true → holdsToken s.chip = true → s.chip.cfg.plan.isSome → s.chip.cyc % Config.tickCycles s.chip.cfg.sys.period = 0 →
    s.chip.planner.tickAt ≠ some s.chip.cyc → s.chip.planner.late = true → Completes .plannerTick s
      ((if s.chip.planner.snap.cyc = some s.chip.cyc then s.chip else snapPlan s.chip).onPlanner fun p => { p with
        tickAt := some s.chip.cyc, late := false, cnt := vmod p.cnt 0 (fun n => incBy n 1) }))
  ∧ (∀ s, (s.chip.active = false ∨ holdsToken s.chip = false ∨ s.chip.cfg.plan = none
      ∨ s.chip.cyc % Config.tickCycles s.chip.cfg.sys.period ≠ 0 ∨ s.chip.planner.tickAt = some s.chip.cyc) →
    Completes .plannerTick s s.chip)
  ∧ (∀ s, s.chip.active = true → holdsToken s.chip = true → s.chip.cfg.plan.isSome → s.chip.cyc % Config.tickCycles s.chip.cfg.sys.period = 0 →
    s.chip.planner.tickAt ≠ some s.chip.cyc → s.chip.planner.late = false → Runs .plannerTick s fun e =>
      e.planner.tickAt = some s.chip.cyc ∧ e.planner.cancels = [] ∧ e.planner.roots = [] ∧ e.planner.tick = s.chip.planner.tick + 1
        ∧ e.planner.load = s.chip.planner.load ∧ e.planner.core = s.chip.planner.core)
  ∧ (∀ s load, s.chip.active = true → s.chip.planner.level = 0 → load ≤ 98 * 65536 → 85 * 65536 < load →
    Runs (.plannerLoadWindow load) s fun e => e.planner.level = 1 ∧ e.planner.load = load ∧ e.planner.calm = 0
      ∧ ∃ m ∈ e.mb.out, m.opcode = 0x0748)
  ∧ (∀ s load, s.chip.active = true → s.chip.planner.level < 2 → 98 * 65536 < load →
    Runs (.plannerLoadWindow load) s fun e => e.planner.level = 2 ∧ e.planner.load = load ∧ ∃ m ∈ e.mb.out, m.opcode = 0x0748)
  ∧ (∀ s load, s.chip.active = true → s.chip.planner.level = 1 → load < 70 * 65536 → 9 ≤ s.chip.planner.calm →
    Runs (.plannerLoadWindow load) s fun e => e.planner.level = 0 ∧ e.planner.calm = 0)
  ∧ (∀ s load, s.chip.active = true → s.chip.planner.level = 2 → load < 85 * 65536 → s.chip.planner.calm < 9 →
    Runs (.plannerLoadWindow load) s fun e => e.planner.level = 2 ∧ e.planner.calm = s.chip.planner.calm + 1)
  ∧ (∀ s (k j : Fin 8) b, j ≠ k → vget s.chip.planner.core k = .inService → vget s.chip.planner.core j = .inService →
    Runs (.plannerCoreRemoved k b) s fun e => vget e.planner.core k = (if b then .failed else .underTest)
      ∧ vget e.planner.core j = .inService ∧ e.sys.degCauses.any (fun d => d.1 = 0x0701 ∧ d.2.1 = k.val) = true)
  ∧ (∀ s (k : Fin 8) b, (∀ j : Fin 8, vget s.chip.planner.core j = .inService ↔ j = k) →
    Runs (.plannerCoreRemoved k b) s fun e => (0x0702, 0xFF) ∈ e.sys.haltCauses ∧ coresIn e = 0)
  ∧ (∀ c (root cause : Nat) x, findSeg c root = some x → x.live = true → ∀ y ∈ (squash c root cause).planner.segs,
    y.id ∈ cascade c root → y.st = .squashed ∧ y.cause = (if y.id = root then cause else 6))
  ∧ (∀ c (id k : Nat) x, findSeg c id = some x → x.st = .proposed → assumptions c x = 511 - 2 ^ k →
    (k = 0 ∨ k = 1 ∨ k = 2 ∨ k = 6) → (c.planner.segs.map (·.id)).Nodup → ∃ y ∈ (judgeSeg c id).planner.segs, y.id = id ∧ y.st = .squashed
      ∧ y.cause = (if k = 0 then 2 else if k = 1 then 3 else if k = 2 then 4 else 7))

/-- Planner commands (08 R232, R233, R253, R259, R260).
Shown to complete: planPick, planCancelPick, planGetPick, planGetSegment, planGetStatus, zoneGet, planClearCounters. -/
def Obligations.PlannerCommandsAct : Prop :=
  (∀ q s b arms, heard 0x0701 8 layPick q s.chip → b = q.payload → arms = (List.range 12).filter (mbit (ru b 4 2)) →
    accepting s.chip = true → arms ≠ [] → arms.all (fun a => (s.chip.ocfg a).isSome) = true → lineEnabled s.chip (byteN b 6) = true →
    lineMod s.chip (byteN b 6) = 0 → linePos s.chip (byteN b 6) ≤ ri b 28 8 →
    arms.any (fun a => match s.chip.mcfg a with | some m => decide (ri b 36 4 ≤ m.payMax) | none => false) = true →
    (mbit (byteN b 7) 2 = true → lineEnabled s.chip (byteN b 40) = true) → findPick s.chip (ru b 0 4) = none →
    s.chip.planner.picks.length < 1024 → (s.chip.planner.level ≠ 2 ∨ mbit (byteN b 7) 0 = true) →
    Answers (.planPick q) 0x0701 q s .ok (le 4 (ru b 0 4)) (s.chip.onPlanner fun p => { p with picks := p.picks ++ [{
      id := ru b 0 4, mask := ru b 4 2, line := byteN b 6, priority := mbit (byteN b 7) 0, reassign := mbit (byteN b 7) 1,
      pItem := ri b 8 8, pLast := ri b 28 8, payload := ri b 36 4, raw := b, tag := ru b 68 4 }] }))
  ∧ (∀ q s, heard 0x0701 8 layPick q s.chip → accepting s.chip = false → Answers (.planPick q) 0x0701 q s .refusedState [] s.chip)
  ∧ (∀ q s k, heard 0x0702 5 (lay 4 fun _ => []) q s.chip → findPick s.chip (ru q.payload 0 4) = some k →
    pickSegs s.chip (ru q.payload 0 4) .committed = [] → Answers (.planCancelPick q) 0x0702 q s .ok (le 1 5)
      (s.chip.onPlanner fun p => { p with cancels := p.cancels ++ [ru q.payload 0 4] }))
  ∧ (∀ q s k, heard 0x0702 5 (lay 4 fun _ => []) q s.chip → findPick s.chip (ru q.payload 0 4) = some k →
    pickSegs s.chip (ru q.payload 0 4) .committed ≠ [] → Answers (.planCancelPick q) 0x0702 q s .partly (le 1 2)
      (s.chip.onPlanner fun p => { p with cancels := p.cancels ++ [ru q.payload 0 4] }))
  ∧ (∀ q s, heard 0x0702 5 (lay 4 fun _ => []) q s.chip → findPick s.chip (ru q.payload 0 4) = none →
    Answers (.planCancelPick q) 0x0702 q s .refusedState [] s.chip)
  ∧ (∀ q s id k l, heard 0x0703 20 (lay 4 fun _ => []) q s.chip → id = ru q.payload 0 4 → findPick s.chip id = some k →
    l = s.chip.planner.segs.filter (fun x => x.tag = id && x.live) → Answers (.planGetPick q) 0x0703 q s .ok
      (le 1 k.st.code ++ le 1 (k.arm.getD 0xFF) ++ le 2 l.length ++ leI 8 k.grip
        ++ le 4 (match l with | x :: _ => x.id | [] => 0xFFFFFFFF)) s.chip)
  ∧ (∀ q s x, heard 0x0704 256 (lay 4 fun _ => []) q s.chip → findSeg s.chip (ru q.payload 0 4) = some x → x.axes.length ≤ 12 →
    Answers (.planGetSegment q) 0x0704 q s .ok (le 1 x.st.code ++ le 1 x.cause ++ le 2 (if x.live then assumptions s.chip x else x.held)
      ++ leI 8 x.commitPos ++ leI 8 x.vAssumed ++ segBytes x) s.chip)
  ∧ (∀ q s p, heard 0x0705 48 layNone q s.chip → p = s.chip.planner → Answers (.planGetStatus q) 0x0705 q s .ok
    (le 1 p.level ++ le 1 (coresIn s.chip) ++ le 2 (horizonMs s.chip) ++ le 2 (pooled s.chip).length ++ le 2 p.picks.length
      ++ le 4 p.load ++ (p.cnt.toList.map (le 4)).flatten ++ le 4 (vget s.chip.mb.classP 4) ++ le 4 (vget s.chip.mb.classP 5)
      ++ le 4 (vget s.chip.mb.classP 0)) s.chip)
  ∧ (∀ q s z l w, heard 0x0706 408 (lay 2 fun _ => []) q s.chip → z = byteN q.payload 0 → s.chip.active = true →
    s.chip.cfg.zones.any (fun k => k.id = z) = true → l = s.chip.planner.resv.filter (fun r => r.zone = z) →
    w = (l.drop (byteN q.payload 1)).take 16 → Answers (.zoneGet q) 0x0706 q s .ok
      (le 1 (min 255 l.length) ++ le 1 w.length ++ zeros 2 ++ ((List.range 12).map (fun a => le 1 (lossOf s.chip z a).count)).flatten
        ++ le 2 (maskOf 12 (fun a => (lossOf s.chip z a).priv.isSome)) ++ zeros 2
        ++ (w.map (fun r => le 1 r.arm ++ le 1 r.st.code ++ zeros 2 ++ le 4 r.seg ++ leI 8 r.lo ++ leI 8 r.hi)).flatten) s.chip)
  ∧ (∀ q s, heard 0x0707 4 layNone q s.chip → Answers (.planClearCounters q) 0x0707 q s .ok []
    ((s.chip.onPlanner fun p => { p with cnt := Vector.replicate 5 0 }).onMb fun m => { m with
      classP := vset (vset (vset m.classP 0 0) 4 0) 5 0 }))

/-- Timers of the profile unit and the stepper currents (09 R284, R286, R288), and streamed positions (09 R283, R284), which a unit
that mirrors passes on to its partner (13 R402).
Shown to complete: streamGapExpiry, homeSearchTimeout, holdCurrentDelay, profStreamData. -/
def Obligations.ProfileTimersAndStreams : Prop :=
  (∀ s (k : Fin 8) t, vget s.chip.prof.stream k = some t → t.gap < t.missing → Runs (.streamGapExpiry k) s fun e =>
    vget e.prof.stream k = none ∧ (∀ a ∈ t.axes, a < 128 → (e.pax a).mode = .hold ∧ (e.pax a).move = none ∧ (e.pax a).lag = 0
      ∧ (e.pax a).p = (s.chip.pax a).p) ∧ ∃ m ∈ e.mb.out, m.opcode = 0x0806)
  ∧ (∀ s (k : Fin 8) t, vget s.chip.prof.stream k = some t → t.missing ≤ t.gap → Completes (.streamGapExpiry k) s s.chip)
  ∧ (∀ s (n : Fin 32) h x, x = s.chip.pax (96 + n) → x.home = some h → h.found = false → (h.dist : Rat) ≤ absR (x.p - h.start) →
    Runs (.homeSearchTimeout n) s fun e => (e.pax (96 + n)).home = none ∧ (e.pax (96 + n)).mode = .hold
      ∧ (e.pax (96 + n)).o = x.o ∧ (e.pax (96 + n)).p = x.p ∧ ∃ m ∈ e.mb.out, m.opcode = 0x0807)
  ∧ (∀ s (n : Fin 32) h x, x = s.chip.pax (96 + n) → x.home = some h → absR (x.p - h.start) < (h.dist : Rat) →
    Completes (.homeSearchTimeout n) s s.chip)
  ∧ (∀ s (a : Fin 128) g (t : Nat), s.chip.acfg a = some g → (s.chip.pax a).restSince = some t → g.phase = true →
    t + g.holdMs * 1000000 ≤ s.chip.now → Completes (.holdCurrentDelay a) s (onAx s.chip a fun x => { x with holdCur := true }))
  ∧ (∀ q s b t i n k d, (q.ring = 24 ∨ q.ring = 25) → serves s.chip q.ring = true → holdsToken s.chip = true → b = q.payload →
    vget s.chip.prof.stream (byteN b 0) = some t → b.length = 52 → byteN b 0 < 8 → i = byteN b 1 → n = byteN b 2 → 1 ≤ n → n ≤ 5 →
    i + n ≤ t.axes.length → byteN b 3 ≤ 1 → rsv b 8 4 = true → rsv b (12 + 8 * n) (40 - 8 * n) = true → k = fullCycle s.chip (ru b 4 4) →
    (s.chip.cyc : Int) < k - 1 → k - 65 ≤ (s.chip.cyc : Int) → d = (s.chip.onProf fun p => { p with
      stream := vset p.stream (byteN b 0) (some { t with
        pts := t.pts.filter (fun q => !(q.1 = k.toNat && i ≤ q.2.1 && q.2.1 < i + n))
          ++ (List.range n).map (fun j => (k.toNat, i + j, ri b (12 + 8 * j) 8)),
        endAt := if mbit (byteN b 3) 0 then some k.toNat else t.endAt }) }) →
    Completes (.profStreamData q) s (if mirrors s.chip then queueItem d 0x0101 (s.chip.count + 2) (le 2 0x0809 ++ b) else d))
  ∧ (∀ q s b t i n k, (q.ring = 24 ∨ q.ring = 25) → serves s.chip q.ring = true → holdsToken s.chip = true → b = q.payload →
    vget s.chip.prof.stream (byteN b 0) = some t → b.length = 52 → byteN b 0 < 8 → i = byteN b 1 → n = byteN b 2 → 1 ≤ n → n ≤ 5 →
    i + n ≤ t.axes.length → t.axes.Nodup → byteN b 3 ≤ 1 → rsv b 8 4 = true → rsv b (12 + 8 * n) (40 - 8 * n) = true →
    k = fullCycle s.chip (ru b 4 4) → (k - 1 ≤ (s.chip.cyc : Int) ∨ (s.chip.cyc : Int) < k - 65) → Runs (.profStreamData q) s fun e =>
      vget e.prof.stream (byteN b 0) = some t ∧ ∀ j, j < n → t.axes.getD (i + j) 128 < 128 →
        (e.pax (t.axes.getD (i + j) 128)).streamLate = inc (s.chip.pax (t.axes.getD (i + j) 128)).streamLate)
  ∧ (∀ q s, (q.ring = 24 ∨ q.ring = 25) → vget s.chip.prof.stream (byteN q.payload 0) = none → mirrors s.chip = false →
    Completes (.profStreamData q) s s.chip)

/-- Orders of the profile unit (09 R262, R266, R270-R274, R291, R293, R294): what each answers and leaves for its boundary.
Shown to complete: profGet, profSetLimits, profMove, profHold, profTableLoad, profTableStart, profTableClear. -/
def Obligations.ProfileOrdersAreTaken : Prop :=
  (∀ q s a x, heard 0x0801 44 (lay 1 fun b => [bLe b 0 127]) q s.chip → a = byteN q.payload 0 → axisKnown s.chip a = true →
    x = s.chip.pax a → Answers (.profGet q) 0x0801 q s .ok (le 1 (modeOf s.chip a).code
      ++ le 1 (bits [atRest s.chip a, x.posLimit, x.deferred.isSome, x.lagFault,
          (match (streamOf s.chip a).bind (vget s.chip.prof.stream) with | some t => decide (t.missing ≠ 0) | none => false), x.next.isSome])
      ++ le 1 x.changes.length ++ zeros 1 ++ leI 8 (nearest 16 x.p) ++ leI 8 (nearest 16 x.lag)
      ++ le 4 (satU 32 (nearest 16 (match axisOwner s.chip a with | some o => (s.chip.chain o).rho | none => 1)))
      ++ le 4 x.streamLate ++ le 4 x.regOutside ++ leI 8 x.o) s.chip)
  ∧ (∀ q s a l d, heard 0x0802 5 (lay 72 fun b => [bLe b 0 127, rsv b 1 7, rsv b 68 4, limitsOk (parseLimits b 8)]) q s.chip →
    a = byteN q.payload 0 → l = parseLimits q.payload 8 → axisKnown s.chip a = true → l.posMin ≤ nearest 16 (s.chip.pax a).p →
    nearest 16 (s.chip.pax a).p ≤ l.posMax → d = defersLimits (s.chip.pax a) l →
    Answers (.profSetLimits q) 0x0802 q s (if d then .queued else .ok) (le 1 (b2n d))
      (deferB s.chip 0x0802 { q with payload := q.payload ++ le 1 (b2n d) }))
  ∧ (∀ q s a m l, heard 0x0803 4 (lay 48 fun b => [bLe b 0 127, bLe b 1 2, rsv b 2 2]) q s.chip → a = byteN q.payload 0 →
    m = parseMove q.payload → l = (s.chip.pax a).lim → axisKnown s.chip a = true → l.posMin ≤ m.target → m.target ≤ l.posMax →
    m.v ≤ l.vMax → m.a ≤ l.aMax → m.d ≤ l.dMax → m.j ≤ l.jMax → motionBars s.chip [a] = false → otherMode s.chip a = false →
    (atRest s.chip a = true ∨ byteN q.payload 1 ≠ 0) →
    Answers (.profMove q) 0x0803 q s (if !atRest s.chip a && byteN q.payload 1 = 1 then .queued else .ok) [] (deferB s.chip 0x0803 q))
  ∧ (∀ q s a, heard 0x0803 4 (lay 48 fun b => [bLe b 0 127, bLe b 1 2, rsv b 2 2]) q s.chip → a = byteN q.payload 0 →
    axisKnown s.chip a = true → (s.chip.pax a).lim.posMax < (parseMove q.payload).target →
    Answers (.profMove q) 0x0803 q s .badParam [] s.chip)
  ∧ (∀ q s o, heard 0x0804 4 (lay 1 fun b => [(targetOwner (byteN b 0)).isSome]) q s.chip → targetOwner (byteN q.payload 0) = some o →
    (s.chip.ocfg o).isSome → ¬ (o < 12 ∧ inAuto s.chip = true) → ((s.chip.seq o).st = .hold ∨ (s.chip.seq o).st = .running) →
    Answers (.profHold q) 0x0804 q s .ok [] (deferB s.chip 0x0804 q))
  ∧ (∀ q s b x, heard 0x0805 4 laySeg q s.chip → b = q.payload → x = parseSeg b → ru b 36 4 = crc32c (b.take 36 ++ b.drop 40) →
    (s.chip.ocfg x.owner).isSome → x.axes.length = (ownerAxes s.chip x.owner).length → x.pred = none →
    s.chip.prof.store.any (fun y => y.id = x.id) = false → (x.lineSpan = true → lineEnabled s.chip x.line = true) →
    s.chip.prof.store.length < 512 → (s.chip.prof.store.map (fun y => 40 + 16 * y.axes.length)).foldl (· + ·) 0 + b.length ≤ 65536 →
    Answers (.profTableLoad q) 0x0805 q s .ok [] (s.chip.onProf fun p => { p with store := p.store ++ [x] }))
  ∧ (∀ q s b, heard 0x0805 4 laySeg q s.chip → b = q.payload → ru b 36 4 ≠ crc32c (b.take 36 ++ b.drop 40) →
    Answers (.profTableLoad q) 0x0805 q s .checkFail [] s.chip)
  ∧ (∀ q s b o, heard 0x0806 4 (lay 18 fun b => [(targetOwner (byteN b 0)).isSome, bLe b 1 1, bLe b 2 3, rsv b 3 1]) q s.chip →
    b = q.payload → targetOwner (byteN b 0) = some o → byteN b 1 = 0 → (s.chip.ocfg o).isSome →
    (s.chip.prof.store.find? (fun x => x.id = ru b 4 4 && x.owner = o && x.pred.isNone)).isSome →
    motionBars s.chip (ownerAxes s.chip o) = false → holdAtRest s.chip (ownerAxes s.chip o) = true →
    Answers (.profTableStart q) 0x0806 q s .ok [] (deferB s.chip 0x0806 { q with payload := b ++ le 2 0 }))
  ∧ (∀ q s b o k, heard 0x0806 4 (lay 18 fun b => [(targetOwner (byteN b 0)).isSome, bLe b 1 1, bLe b 2 3, rsv b 3 1]) q s.chip →
    b = q.payload → targetOwner (byteN b 0) = some o → byteN b 1 = 1 → (s.chip.ocfg o).isSome → lineEnabled s.chip (byteN b 2) = true →
    (s.chip.prof.store.find? (fun x => x.id = ru b 4 4 && x.owner = o && x.pred.isNone)).isSome →
    motionBars s.chip (ownerAxes s.chip o) = false → holdAtRest s.chip (ownerAxes s.chip o) = true → freeReserve s.chip = some k →
    Answers (.profTableStart q) 0x0806 q s .ok [] (deferB (takeSlot s.chip k (byteN b 2) (ri b 8 8) (decide (lineVel s.chip (byteN b 2) < 0)))
      0x0806 { q with payload := b ++ le 2 k }))
  ∧ (∀ q s o, heard 0x0810 6 (lay 1 fun b => [(targetOwner (byteN b 0)).isSome]) q s.chip → targetOwner (byteN q.payload 0) = some o →
    (s.chip.ocfg o).isSome → (s.chip.chain o).table = none → Answers (.profTableClear q) 0x0810 q s .ok
      (le 2 (s.chip.prof.store.filter (fun x => x.owner = o)).length)
      (s.chip.onProf fun p => { p with store := p.store.filter (fun x => x.owner ≠ o) }))
  ∧ (∀ q s o, heard 0x0810 6 (lay 1 fun b => [(targetOwner (byteN b 0)).isSome]) q s.chip → targetOwner (byteN q.payload 0) = some o →
    (s.chip.ocfg o).isSome → (s.chip.chain o).table.isSome → Answers (.profTableClear q) 0x0810 q s .busy [] s.chip)

/-- Gearing, streams, homing, registration and commutation tables (09 R280-R283, R286, R287, R289).
Shown to complete: profGear, profStreamOpen, profHome, profRegister, profStepTableWrite. -/
def Obligations.AuxiliaryOrdersAreTaken : Prop :=
  (∀ q s b a m neg k, heard 0x0807 18 (lay 36 fun b => [bLe b 0 31, bLe b 1 2, bLe b 2 1, if byteN b 2 = 0 then bLe b 3 3 else bLe b 3 31,
      bLe b 4 1, rsv b 5 3, byteN b 1 = 2 || 1 ≤ ru b 12 4]) q s.chip → b = q.payload → a = 96 + byteN b 0 →
    byteN b 1 = 0 → byteN b 2 = 0 → byteN b 4 = 1 → m = masterNow s.chip 0 (byteN b 3) → neg = decide (m.2 < 0) → axisKnown s.chip a = true → lineEnabled s.chip (byteN b 3) = true →
    motionBars s.chip [a] = false → holdAtRest s.chip [a] = true → (s.chip.pax a).changes = [] → freeReserve s.chip = some k →
    Answers (.profGear q) 0x0807 q s .ok (le 1 0 ++ zeros 3 ++ wideOpt (some (s.chip.t0 + s.chip.ptOff + s.chip.period)))
      (deferB (takeSlot s.chip k (byteN b 3) m.1.floor neg) 0x0807 { q with payload := b ++ le 2 k ++ le 1 0 ++ le 1 (b2n neg) }))
  ∧ (∀ q s b a, heard 0x0807 18 (lay 36 fun b => [bLe b 0 31, bLe b 1 2, bLe b 2 1, if byteN b 2 = 0 then bLe b 3 3 else bLe b 3 31,
      bLe b 4 1, rsv b 5 3, byteN b 1 = 2 || 1 ≤ ru b 12 4]) q s.chip → b = q.payload → a = 96 + byteN b 0 → axisKnown s.chip a = false →
    Answers (.profGear q) 0x0807 q s .badParam [] s.chip)
  ∧ (∀ b c a g x, a = 96 + byteN b 0 → a < 128 → byteN b 1 = 0 → byteN b 4 = 1 → motionBars c [a] = false → holdAtRest c [a] = true →
    x = (applyGear b c).pax a → g = x.changes → x.mode = .geared ∧ x.master = some (byteN b 2, byteN b 3) ∧ x.ratio = 0
      ∧ x.base = (c.pax a).p ∧ g = [{
        slot := byteN b 38, kind := 0, ratio := mkRat (ri b 8 4) (ru b 12 4), mc := (masterNow c (byteN b 2) (byteN b 3)).1.floor,
        blend := ru b 24 8, tag := ru b 32 4, ev := ru b 36 2 }])
  ∧ (∀ q s b xs o, heard 0x0808 4 (lay 16 fun b => [bLe b 0 7, 1 ≤ byteN b 1 && byteN b 1 ≤ 12, bLe b 2 4, rsv b 3 1]) q s.chip →
    b = q.payload → xs = (List.range (byteN b 1)).map (fun i => byteN b (4 + i)) → xs.all (axisKnown s.chip) = true → xs.Nodup →
    (xs.all (fun a => axisOwner s.chip a = some o) = true ∧ o < 12 ∧ holdAtRest s.chip (ownerAxes s.chip o) = true
      ∨ ∀ a ∈ xs, ∃ k, axisOwner s.chip a = some k ∧ 12 ≤ k) →
    motionBars s.chip xs = false → vget s.chip.prof.stream (byteN b 0) = none → xs.any (fun a => (streamOf s.chip a).isSome) = false →
    holdAtRest s.chip xs = true → Answers (.profStreamOpen q) 0x0808 q s .ok [] (deferB s.chip 0x0808 q))
  ∧ (∀ b c xs, xs = (List.range (byteN b 1)).map (fun i => byteN b (4 + i)) → byteN b 0 < 8 → vget c.prof.stream (byteN b 0) = none →
    motionBars c xs = false → holdAtRest c xs = true → ∀ e, e = applyStreamOpen b c →
    vget e.prof.stream (byteN b 0) = some { axes := xs, gap := byteN b 2 } ∧ ∀ a ∈ xs, a < 128 → (e.pax a).mode = .stream)
  ∧ (∀ q s b a, heard 0x080A 4 (lay 28 fun b => [bLe b 0 31, bLe b 1 15, 1 ≤ byteN b 2 && byteN b 2 ≤ 2, bLe b 3 3]) q s.chip →
    b = q.payload → a = 96 + byteN b 0 → axisKnown s.chip a = true → ru b 4 8 ≠ 0 → ru b 4 8 ≤ (s.chip.pax a).lim.vMax →
    motionBars s.chip [a] = false → holdAtRest s.chip [a] = true → Answers (.profHome q) 0x080A q s .ok [] (deferB s.chip 0x080A q))
  ∧ (∀ b c a, a = 96 + byteN b 0 → a < 128 → motionBars c [a] = false → holdAtRest c [a] = true → ((applyHome b c).pax a).home = some {
      latch := byteN b 1, edge := byteN b 2, negative := mbit (byteN b 3) 0, moveHome := mbit (byteN b 3) 1, v := ru b 4 8,
      dist := ru b 12 8, value := ri b 20 8, start := (c.pax a).p })
  ∧ (∀ q s b a, heard 0x080B 4 (lay 32 fun b => [bLe b 0 31, bLe b 1 15, 1 ≤ byteN b 2 && byteN b 2 ≤ 2, rsv b 3 1]) q s.chip →
    b = q.payload → a = 96 + byteN b 0 → axisKnown s.chip a = true → 0 < ri b 12 8 → motionBars s.chip [a] = false →
    (s.chip.pax a).mode = .geared → Answers (.profRegister q) 0x080B q s .ok [] (deferB s.chip 0x080B q))
  ∧ (∀ q s b a, heard 0x080B 4 (lay 32 fun b => [bLe b 0 31, bLe b 1 15, 1 ≤ byteN b 2 && byteN b 2 ≤ 2, rsv b 3 1]) q s.chip →
    b = q.payload → a = 96 + byteN b 0 → axisKnown s.chip a = true → 0 < ri b 12 8 → (s.chip.pax a).mode ≠ .geared →
    Answers (.profRegister q) 0x080B q s .refusedState [] s.chip)
  ∧ (∀ q s b t, heard 0x080C 4 (lay 520 fun b => [bLe b 0 3, rsv b 1 3]) q s.chip → b = q.payload →
    t = (List.range 256).map (fun i => ru b (4 + 2 * i) 2) → ru b 516 4 = crc32c (slice b 4 512) → t.all (fun x => x ≤ 32767) = true →
    Answers (.profStepTableWrite q) 0x080C q s .ok [] (s.chip.onProf fun p => { p with
      tabNext := vset p.tabNext (byteN b 0) t, tabDue := vset p.tabDue (byteN b 0) true }))
  ∧ (∀ q s b, heard 0x080C 4 (lay 520 fun b => [bLe b 0 3, rsv b 1 3]) q s.chip → b = q.payload →
    ru b 516 4 ≠ crc32c (slice b 4 512) → Answers (.profStepTableWrite q) 0x080C q s .checkFail [] s.chip)

/-- Sensors, periods and classes (10 R296-R300, R312-R315, R320, R322): a scan is taken or discarded whole, a datagram that the port
does not take counts, the period judges every sensor and both channels, an arm's class falls at once, rises one step and never exceeds
its caps, and a class PDU that differs from the class is a halting fault.
Shown to complete: separationPeriod, reportMissing, classEffective, scanPduReceived, sensorTimeout, arpRequestReceived. -/
def Obligations.PeriodsJudgeClasses : Prop :=
  (∀ s a b w, s.chip.active = true → s.chip.cyc % Config.sepCycles s.chip.cfg.sys.period = 0 →
    s.chip.sep.start ≠ some (s.chip.t0, s.chip.cyc) → Runs (.separationPeriod (a, b) w) s fun e =>
      e.sep.start = some (s.chip.t0, s.chip.cyc) ∧ e.sep.periods = inc s.chip.sep.periods ∧ e.sep.astray = w.map (fun x => (x.1.val, x.2.val))
        ∧ (∀ k : Fin 12, (e.sepA k).hostCap = (s.chip.sepA k).hostNext ∧ (e.sepA k).e = (s.chip.sepA k).e)
        ∧ (∀ p : Fin 8, (s.chip.scfg p).isSome →
            (vget e.sep.sensor p).timeout = (scanInUse s.chip p (s.chip.t0 - 20000)).isNone)
        ∧ e.sep.copperFail = !a ∧ e.sep.ironFail = !(b && s.chip.pow.safeRun)
        ∧ (a = false → s.chip.sep.copperFail = false → (0x0906, 0xFF) ∈ e.sys.haltCauses))
  ∧ (∀ s a b w, (s.chip.active = false ∨ s.chip.cyc % Config.sepCycles s.chip.cfg.sys.period ≠ 0
    ∨ s.chip.sep.start = some (s.chip.t0, s.chip.cyc)) → Completes (.separationPeriod (a, b) w) s s.chip)
  ∧ (∀ s p n, s.chip.sep.start = some (p, n) → Runs (.reportMissing true) s fun e => e.sep.copperFail = true
    ∧ e.now = max s.chip.now (p + 245000) ∧ (s.chip.sep.copperFail = false → (0x0906, 0xFF) ∈ e.sys.haltCauses))
  ∧ (∀ s p n, s.chip.sep.start = some (p, n) → Runs (.reportMissing false) s fun e => e.sep.ironFail = true
    ∧ e.now = max s.chip.now (p + 245000) ∧ (s.chip.sep.ironFail = false → (0x0907, 0xFF) ∈ e.sys.haltCauses))
  ∧ (∀ s p n b l, s.chip.sep.start = some (p, n) → s.chip.sep.intake = some (n, b, l) → Runs .classEffective s fun e =>
    e.sep.start = none ∧ e.now = max s.chip.now (p + 250000)
      ∧ e.sep.auxStop = (decide (b = 0) || decide (s.chip.sys.dev = .faultHalt))
      ∧ ∀ a : Fin 12, (s.chip.sepCfg a).isSome → (e.sepA a).e ≤ l.getD a 0 ∧ (e.sepA a).e ≤ (s.chip.sepA a).hostCap
        ∧ (e.sepA a).e ≤ (s.chip.sepA a).e + 1 ∧ ((s.chip.sepA a).fault ≠ 0 → (e.sepA a).e = 0)
        ∧ ((s.chip.sep.copperFail = true ∨ s.chip.sep.ironFail = true ∨ s.chip.sys.dev = .faultHalt) → (e.sepA a).e = 0))
  ∧ (∀ s k x p n a, s.chip.sep.start = some (p, n) → s.chip.sep.astray = some (k, x) → nodeArm s.chip k = some a →
    Runs .classEffective s fun e => (e.sepA a).e ≠ x →
      e.sep.wrong = some (k, x) ∧ (0x0908, a) ∈ e.sys.haltCauses ∧ ∃ m ∈ e.mb.out, m.opcode = 0x0903)
  ∧ (∀ s p n, s.chip.sep.start = some (p, n) → s.chip.sep.astray = none → Runs .classEffective s fun e => e.sep.wrong = none)
  ∧ (∀ s, s.chip.sep.start = none → Completes .classEffective s s.chip)
  ∧ (∀ s (p : Fin 8) x d g, s.chip.scfg p = some g → (x ≠ g.addr ∨ d.length % 32 ≠ 0 ∨ d.length = 0 ∨ 1408 < d.length) →
    Completes (.scanPduReceived p ⟨x, d⟩) s (onSensor (sensorFrame s.chip p) p fun n => { n with spBad := inc n.spBad }))
  ∧ (∀ s (p : Fin 8) x d, s.chip.scfg p = none → Completes (.scanPduReceived p ⟨x, d⟩) s (sensorFrame s.chip p))
  ∧ (∀ s (p : Fin 8) b g i n, s.chip.scfg p = some g → b.length = 32 → s.chip.sio.conn.findIdx? (fun x => x.id = g.conn) = some i →
    (s.chip.conn i).st = .opened → pduFault s.chip (s.chip.conn i) b = 0 → byteN b 10 = 1 → n = ru b 12 2 → n ≠ 0 → n ≤ 1365 →
    mbit (byteN b 11) 0 = true → ru b 14 4 ≤ g.tSens → Runs (.scanPduReceived p ⟨g.addr, b⟩) s fun e =>
      (vget e.sep.sensor p).part = some (ru b 6 4, s.chip.now, n, n, []) ∧ (vget e.sep.sensor p).bad = false
        ∧ (vget e.sep.sensor p).scans = (vget s.chip.sep.sensor p).scans)
  ∧ (∀ s (p : Fin 8) b g i, s.chip.scfg p = some g → b.length = 32 → s.chip.sio.conn.findIdx? (fun x => x.id = g.conn) = some i →
    (s.chip.conn i).st = .opened → pduFault s.chip (s.chip.conn i) b = 0 → byteN b 10 = 1 → ru b 12 2 = 0 →
    mbit (byteN b 11) 0 = true → ru b 14 4 ≤ g.tSens → Runs (.scanPduReceived p ⟨g.addr, b⟩) s fun e =>
      (vget e.sep.sensor p).part = none ∧ (vget e.sep.sensor p).accepted = inc (vget s.chip.sep.sensor p).accepted
        ∧ (vget e.sep.sensor p).scans = { number := ru b 6 4, runs := [], t := s.chip.now } :: (vget s.chip.sep.sensor p).scans)
  ∧ (∀ s (p : Fin 8), (s.chip.scfg p).isSome → scanInUse s.chip p (nextIntake s.chip) = none → (vget s.chip.sep.sensor p).timeout = false →
    Runs (.sensorTimeout p) s fun e => (vget e.sep.sensor p).timeout = true ∧ e.now = max s.chip.now (nextIntake s.chip)
      ∧ ∃ m ∈ e.mb.out, m.opcode = 0x0902)
  ∧ (∀ s (p : Fin 8), (s.chip.scfg p = none ∨ (scanInUse s.chip p (nextIntake s.chip)).isSome) → Completes (.sensorTimeout p) s s.chip)
  ∧ (∀ s (p : Fin 8) g w, s.chip.scfg p = some g → Completes (.arpRequestReceived p g.own w) s
    ((sensorFrame s.chip p).emit 1 p (le 2 0x0100 ++ le 2 0x0008 ++ le 1 6 ++ le 1 4 ++ le 2 0x0200 ++ fit 6 (Config.portMac p)
      ++ (le 4 g.own).reverse ++ fit 10 w)))
  ∧ (∀ s (p : Fin 8) g x w, s.chip.scfg p = some g → x ≠ g.own → Completes (.arpRequestReceived p x w) s (sensorFrame s.chip p))

/-- Separation commands (10 R301, R303, R323, R329, R330).
Shown to complete: sepGetStatus, sepGetArm, sepGetSensor, sepSetCap, sepClearFault, sepReadField, sepClearCounters. -/
def Obligations.SeparationCommandsAct : Prop :=
  (∀ q s l, heard 0x0901 32 layNone q s.chip → l = (List.range 8).filter (fun p => (s.chip.scfg p).isSome) →
    Answers (.sepGetStatus q) 0x0901 q s .ok
      (((List.range 12).map (fun a => byte (if (s.chip.sepCfg a).isSome then (s.chip.sepA a).e else 0xFF)))
        ++ le 1 (l.filter (fun p => !(vget s.chip.sep.sensor p).timeout)).length
        ++ le 1 (l.filter (fun p => (vget s.chip.sep.sensor p).timeout)).length ++ zeros 2 ++ le 4 s.chip.sep.periods
        ++ le 4 s.chip.sep.xTotal ++ le 4 ((List.range 8).foldl (fun n p => incBy n (vget s.chip.sep.sensor p).spBad) 0)) s.chip)
  ∧ (∀ q s x g, heard 0x0902 28 (lay 1 fun b => [isArm (byteN b 0)]) q s.chip → s.chip.sepCfg (byteN q.payload 0) = some g →
    x = s.chip.sepA (byteN q.payload 0) → Answers (.sepGetArm q) 0x0902 q s .ok (le 1 x.e ++ le 1 x.b ++ le 1 x.qC ++ le 1 x.qI
      ++ le 1 x.cap ++ le 1 x.hostCap ++ le 1 x.fault ++ le 1 (bits [x.e = 0 && !g.autoResume && !x.resume, 0 < x.trans])
      ++ le 2 x.dC ++ le 2 x.dI ++ le 2 x.armMin ++ le 2 (min x.hold 0xFFFF) ++ le 4 x.sc0 ++ le 4 x.xTotal) s.chip)
  ∧ (∀ q s, heard 0x0902 28 (lay 1 fun b => [isArm (byteN b 0)]) q s.chip → s.chip.sepCfg (byteN q.payload 0) = none →
    Answers (.sepGetArm q) 0x0902 q s .badParam [] s.chip)
  ∧ (∀ q s x, heard 0x0903 28 (lay 1 fun b => [bLe b 0 7]) q s.chip → (s.chip.scfg (byteN q.payload 0)).isSome →
    x = vget s.chip.sep.sensor (byteN q.payload 0) → Answers (.sepGetSensor q) 0x0903 q s .ok
      (le 1 (if x.timeout then 2 else 1) ++ le 1 (x.status % 4) ++ le 2 (match x.scans with | y :: _ => y.runs.length | [] => 0)
        ++ le 4 (match x.scans with | y :: _ => y.number | [] => 0) ++ le 4 x.age ++ le 4 x.accepted
        ++ le 4 x.discarded ++ le 4 x.spBad) s.chip)
  ∧ (∀ q s n k, heard 0x0904 8 (lay 4 fun b => [bLe b 2 4, rsv b 3 1]) q s.chip →
    (List.range 16).any (fun a => mbit (ru q.payload 0 2) a && (s.chip.sepCfg a).isNone) = false →
    n = Config.sepCycles s.chip.cfg.sys.period → k = (s.chip.cyc + ahead s.chip 0x0904 + n - 1) / n * n →
    Answers (.sepSetCap q) 0x0904 q s .ok (le 4 ((k + n / 2) % 4294967296)) (deferB s.chip 0x0904 q))
  ∧ (∀ b c (a : Fin 12), ((applySetCap b c).sepA a).hostNext = if mbit (ru b 0 2) a then byteN b 2 else (c.sepA a).hostNext)
  ∧ (∀ q s a x, heard 0x0905 5 (lay 1 fun b => [isArm (byteN b 0)]) q s.chip → a = byteN q.payload 0 → (s.chip.sepCfg a).isSome →
    x = s.chip.sepA a → x.fault ≠ 0 → mbit x.present x.fault = false → x.clearing = none →
    Answers (.sepClearFault q) 0x0905 q s .queued (le 1 x.e)
      (onSepArm s.chip a fun y => { y with clearing := some (q.ring, q.seq, s.chip.now) }))
  ∧ (∀ q s a, heard 0x0905 5 (lay 1 fun b => [isArm (byteN b 0)]) q s.chip → a = byteN q.payload 0 → (s.chip.sepCfg a).isSome →
    ((s.chip.sepA a).fault = 0 ∨ mbit (s.chip.sepA a).present (s.chip.sepA a).fault = true) →
    Answers (.sepClearFault q) 0x0905 q s .refusedState [] s.chip)
  ∧ (∀ q s g b x y z, heard 0x0906 4104 (lay 8 fun b => [rsv b 6 2]) q s.chip → g = s.chip.cfg.sep → b = box6 (ru q.payload 0 6) →
    b.xl ≤ b.xh → b.yl ≤ b.yh → b.zl ≤ b.zh → b.xh < g.nx → b.yh < g.ny → b.zh < g.nz → x = b.xh + 1 - b.xl → y = b.yh + 1 - b.yl →
    z = b.zh + 1 - b.zl → x * y * z ≤ 4096 → Answers (.sepReadField q) 0x0906 q s .ok (le 4 (x * y * z)
      ++ (List.range (x * y * z)).map (fun i =>
        byte (fieldByte g s.chip.sep.occ (b.xl + i % x) (b.yl + i / x % y) (b.zl + i / (x * y))))) s.chip)
  ∧ (∀ q s b, heard 0x0906 4104 (lay 8 fun b => [rsv b 6 2]) q s.chip → b = box6 (ru q.payload 0 6) →
    (b.xh < b.xl ∨ s.chip.cfg.sep.nx ≤ b.xh) → Answers (.sepReadField q) 0x0906 q s .badParam [] s.chip)
  ∧ (∀ q s, heard 0x0907 4 layNone q s.chip → Answers (.sepClearCounters q) 0x0907 q s .ok [] (s.chip.onSep fun y => { y with
    xTotal := 0, arm := vmapIdx y.arm (fun _ x => { x with sc0 := 0, xTotal := 0 }),
    sensor := vmapIdx y.sensor (fun _ x => { x with accepted := 0, discarded := 0, spBad := 0 }) }))

/-- The safety layer (11 R348-R355): what the checks of R350 make of a PDU, and what a connection that leaves OPEN does.
Shown to complete: safetyPduReceived, safetyConnWatchdog, confirmResetTimeout. -/
def Obligations.ConnectionsKeepTheirChecks : Prop :=
  (∀ s i p x, i < s.chip.sio.conn.length → x = s.chip.conn i → 3 ≤ idKind x.id → pduFault s.chip x p = 0 → x.st = .opened →
    Runs (.safetyPduReceived i p) s fun e => e.conn i = { x with
      seq := some (ru p 4 2), stamp := some (ru p 6 4), lastOk := s.chip.now, run := 0, errRate := false,
      data := slice p 10 18, cnt := vmod x.cnt 0 inc })
  ∧ (∀ s i p x n, i < s.chip.sio.conn.length → x = s.chip.conn i → 3 ≤ idKind x.id → pduFault s.chip x p = 0 → x.st = .sync →
    x.seq = some n → (ru p 4 2 + 65536 - n) % 65536 = 1 → Runs (.safetyPduReceived i p) s fun e => (e.conn i).run = x.run + 1
      ∧ (e.conn i).st = (if 2 ≤ x.run then .opened else .sync) ∧ vget (e.conn i).cnt 0 = inc (vget x.cnt 0)
      ∧ (e.conn i).data = x.data ∧ (2 ≤ x.run → ∃ m ∈ e.mb.out, m.opcode = 0x0A05))
  ∧ (∀ s i p x, i < s.chip.sio.conn.length → x = s.chip.conn i → 3 ≤ idKind x.id → pduFault s.chip x p = 0 → x.st = .timeout →
    x.errRate = false → Runs (.safetyPduReceived i p) s fun e => (e.conn i).st = .sync ∧ (e.conn i).data = x.data
      ∧ vget (e.conn i).cnt 0 = inc (vget x.cnt 0))
  ∧ (∀ s i p x, i < s.chip.sio.conn.length → x = s.chip.conn i → 3 ≤ idKind x.id → pduFault s.chip x p = 5 →
    Completes (.safetyPduReceived i p) s (onConn s.chip i fun y => { y with cnt := vmod y.cnt 5 inc }))
  ∧ (∀ s i p x k l, i < s.chip.sio.conn.length → x = s.chip.conn i → 3 ≤ idKind x.id → k = pduFault s.chip x p → 1 ≤ k → k ≤ 4 →
    l = s.chip.now :: x.rej.filter (fun t => s.chip.now < t + 1000000000) → l.length ≤ 10 →
    Completes (.safetyPduReceived i p) s (onConn s.chip i fun y => { y with run := 0, rej := l, cnt := vmod y.cnt k inc }))
  ∧ (∀ s i p x k, i < s.chip.sio.conn.length → x = s.chip.conn i → 3 ≤ idKind x.id → k = pduFault s.chip x p → 1 ≤ k → k ≤ 4 →
    x.st = .opened → 10 ≤ (x.rej.filter (fun t => s.chip.now < t + 1000000000)).length → Runs (.safetyPduReceived i p) s fun e =>
      (e.conn i).st = .timeout ∧ (e.conn i).errRate = true ∧ vget (e.conn i).cnt 6 = inc (vget x.cnt 6)
        ∧ ∃ m ∈ e.mb.out, m.opcode = 0x0A05)
  ∧ (∀ s i p x (k : Fin 24), i < s.chip.sio.conn.length → x = s.chip.conn i → idKind x.id = 1 → idEnd x.id = k + 1 →
    nodeConn s.chip k = some i → pduFault s.chip x p = 0 → x.st = .opened → Runs (.safetyPduReceived i p) s fun e =>
      (vget e.sep.node k).hist.head? = some {
        cycle := s.chip.cyc, spos := (List.range 8).map (fun j => ru (slice p 10 18) (2 * j) 2), status := byteN (slice p 10 18) 16,
        enforced := byteN (slice p 10 18) 17, raw := (s.chip.node k).axes.map (·.pos) })
  ∧ (∀ s i x, i < s.chip.sio.conn.length → x = s.chip.conn i → x.st = .opened → Runs (.safetyConnWatchdog i) s fun e =>
    (e.conn i).st = .timeout ∧ (e.conn i).errRate = false ∧ vget (e.conn i).cnt 6 = inc (vget x.cnt 6)
      ∧ e.now = max s.chip.now (x.lastOk + connWd s.chip x) ∧ (∃ m ∈ e.mb.out, m.opcode = 0x0A05)
      ∧ (idKind x.id = 1 → ∀ k : Fin 24, idEnd x.id = k + 1 → (vget e.sep.node k).hist = [])
      ∧ (idKind x.id = 5 → idDir x.id = 0 → e.sep.copperFail = true) ∧ (idKind x.id = 5 → idDir x.id = 1 → e.sep.ironFail = true)
      ∧ (idKind x.id = 4 → (e.chan (1 - idDir x.id)).fault = true))
  ∧ (∀ s i, (s.chip.conn i).st ≠ .opened → Completes (.safetyConnWatchdog i) s s.chip)
  ∧ (∀ s, s.chip.sio.confirm = none → Completes .confirmResetTimeout s s.chip)
  ∧ (∀ s r n (e : Nat), s.chip.sio.confirm = some (r, n, e) → Completes .confirmResetTimeout s
    (complete ((s.chip.atTime e).onSio fun x => { x with confirm := none }) 0x0A10 .timeout r n))

/-- Safe inputs, outputs and their tests (11 R331-R347; 18 R494, R500, R503): each logic cycle moves the pairs by their rule, a channel
that may not close opens the switches of every pair that is on and closes none, and every fault of an output opens it in both channels.
Shown to complete: sioLogicCycle, safeInputChange, inputPairDiscrepancy, pulseMissing, darkPulseStart, darkPulseEnd,
outTestOverdue, outExtVoltage, outOverload, edmTimeout, armedTimeout, cat1Expiry, operatorReset, resetStuck. -/
def Obligations.SafeInputsAndOutputs : Prop :=
  (∀ s (ch : Fin 2), chanRuns s.chip ch = false → Completes (.sioLogicCycle ch) s s.chip)
  ∧ (∀ s (ch : Fin 2) (p : Fin 16) x k, chanRuns s.chip ch = true → s.chip.sio.field = true →
    ((icfg s.chip p).mode = 1 ∨ (icfg s.chip p).mode = 2) → x = s.chip.inPair ch p → k = contacts s.chip ch p →
    Runs (.sioLogicCycle ch) s fun e => (e.inPair ch p).st = match x.st with
      | .untested => if !k.1 && !k.2 then .demand else .untested
      | .demand => if k.1 && k.2 then .released else .demand
      | .released => if k.1 && k.2 then .released else .demand
      | .discrepancy => if !k.1 && !k.2 then .demand else .discrepancy
      | .faulted => if x.clear && (!k.1 && !k.2) then .demand else .faulted)
  ∧ (∀ s (ch : Fin 2), chanRuns s.chip ch = true → ((s.chip.chan ch).fault = true ∨ s.chip.sio.field = false
      ∨ (ch = 1 ∧ (s.chip.chan 1).conn ≠ .opened) ∨ s.chip.sys.dev = .off ∨ s.chip.sys.dev = .reset) →
    Runs (.sioLogicCycle ch) s fun e => (e.chan ch).count = ((s.chip.chan ch).count + 1) % 4294967296
      ∧ ∀ o : Fin 8, ((s.chip.outPair ch o).st = .on ∨ (s.chip.outPair ch o).sw = Vector.replicate 2 false
          ∨ ¬ ((pcfg s.chip o).mode = 1 ∨ (pcfg s.chip o).mode = 2)) →
        (e.outPair ch o).sw = Vector.replicate 2 false
          ∧ (((pcfg s.chip o).mode = 1 ∨ (pcfg s.chip o).mode = 2) → (e.outPair ch o).st ≠ .on))
  ∧ (∀ s (ch : Fin 2) (o : Fin 8), chanRuns s.chip ch = true → (pcfg s.chip o).mode = 1 → (s.chip.outPair ch o).st = .on →
    vget s.chip.sio.req o = false → Runs (.sioLogicCycle ch) s fun e => (e.outPair ch o).st = .offSeq
      ∧ (e.outPair ch o).sw = Vector.replicate 2 false)
  ∧ (∀ s (ch : Fin 2) (t : Fin 40) b, chanRuns s.chip ch = true → s.chip.sio.field = true → t.val < 32 →
    Runs (.safeInputChange ch t b) s fun e => (e.chan ch).si = mput (s.chip.chan ch).si t b ∧ (e.chan ch).edm = (s.chip.chan ch).edm)
  ∧ (∀ s (ch : Fin 2) (t : Fin 40) b, chanRuns s.chip ch = true → s.chip.sio.field = true → 32 ≤ t.val →
    Completes (.safeInputChange ch t b) s (onChan s.chip ch fun x => { x with edm := mput x.edm (t.val - 32) b }))
  ∧ (∀ s (ch : Fin 2) (t : Fin 40) b, (chanRuns s.chip ch = false ∨ s.chip.sio.field = false) →
    Completes (.safeInputChange ch t b) s s.chip)
  ∧ (∀ s (ch : Fin 2) (p : Fin 16) t, ((icfg s.chip p).mode = 1 ∨ (icfg s.chip p).mode = 2) → (s.chip.inPair ch p).disagree = some t →
    ((s.chip.inPair ch p).st = .demand ∨ (s.chip.inPair ch p).st = .released) → Runs (.inputPairDiscrepancy ch p) s fun e =>
      (e.inPair ch p).st = .discrepancy ∧ (e.inPair ch p).cause = 1
        ∧ e.now = max s.chip.now (t + (icfg s.chip p).tDisc * 1000000))
  ∧ (∀ s (ch : Fin 2) (p : Fin 16) t, (icfg s.chip p).mode = 3 → (s.chip.inPair ch p).disagree = some t →
    (s.chip.inPair ch p).stuck = false → Runs (.inputPairDiscrepancy ch p) s fun e => (e.inPair ch p).stuck = true
      ∧ (e.inPair ch p).cause = 3 ∧ (e.inPair ch p).acc = none)
  ∧ (∀ s (ch : Fin 2) (t : Fin 32) g, g = icfg s.chip (t.val / 2) → (g.mode = 1 ∨ g.mode = 2) →
    (if t.val % 2 = 0 then g.src0 else g.src1) < 16 → mbit (s.chip.chan ch).si t = true → (s.chip.inPair ch (t.val / 2)).st ≠ .faulted →
    Runs (.pulseMissing ch t) s fun e => (e.inPair ch (t.val / 2)).st = .faulted ∧ (e.inPair ch (t.val / 2)).cause = 2)
  ∧ (∀ s (u : Fin 16) o k, o = u.val / 2 → k = vget s.chip.sio.test u → (pcfg s.chip o).mode ≠ 0 → outIsOn s.chip u = true →
    s.chip.sio.pulse = none → k.last = none → s.chip.sio.lastPulse = none → k.next < 2 →
    Runs (.darkPulseStart u) s fun e => e.now = max s.chip.now (vget s.chip.sio.demandAt o + 2000000)
      ∧ e.sio.pulse = some { output := u, chan := k.next, start := e.now } ∧ (vget e.sio.test u).next = 1 - k.next
      ∧ vget (e.outPair k.next o).sw (u.val % 2) = false)
  ∧ (∀ s (u : Fin 16) b k, s.chip.sio.pulse = some k → k.output = u.val → k.discard = true → Runs (.darkPulseEnd u b) s fun e =>
    e.sio.pulse = none ∧ vget e.sio.dpDiscard (u.val / 2) = inc (vget s.chip.sio.dpDiscard (u.val / 2)) ∧ e.sio.lastPulse = some e.now
      ∧ e.now = max s.chip.now (k.start + (pcfg s.chip (u.val / 2)).pulse * 10000))
  ∧ (∀ s (u : Fin 16) k, s.chip.sio.pulse = some k → k.output = u.val → k.discard = false → k.chan < 2 →
    Runs (.darkPulseEnd u true) s fun e => e.sio.pulse = none ∧ vget (e.outPair k.chan (u.val / 2)).sw (u.val % 2) = true
      ∧ (vget e.sio.test u).valid = inc (vget s.chip.sio.test u).valid ∧ (vget e.sio.test u).since = e.now)
  ∧ (∀ s (u : Fin 16) k (ch : Fin 2), s.chip.sio.pulse = some k → k.output = u.val → k.discard = false → Runs (.darkPulseEnd u false) s fun e =>
    (e.outPair ch (u.val / 2)).st = .fault ∧ (e.outPair ch (u.val / 2)).cause = 4)
  ∧ (∀ s (u : Fin 16) (ch : Fin 2), (pcfg s.chip (u.val / 2)).mode ≠ 0 → (s.chip.outPair 0 (u.val / 2)).st = .on →
    Runs (.outTestOverdue u) s fun e => (e.outPair ch (u.val / 2)).st = .fault ∧ (e.outPair ch (u.val / 2)).cause = 10
      ∧ (e.outPair ch (u.val / 2)).sw = Vector.replicate 2 false)
  ∧ (∀ s (u : Fin 16) (ch : Fin 2), (pcfg s.chip (u.val / 2)).mode ≠ 0 → outIsOn s.chip u = false → pulsed s.chip u = false →
    Runs (.outExtVoltage u) s fun e => (e.outPair ch (u.val / 2)).st = .fault ∧ (e.outPair ch (u.val / 2)).cause = 5 ∧ vget e.sio.found u = some (s.chip.now, 5))
  ∧ (∀ s (u : Fin 16), ((pcfg s.chip (u.val / 2)).mode = 0 ∨ outIsOn s.chip u = true ∨ pulsed s.chip u = true) →
    Completes (.outExtVoltage u) s s.chip)
  ∧ (∀ s (u : Fin 16) (ch : Fin 2), (pcfg s.chip (u.val / 2)).mode ≠ 0 → outIsOn s.chip u = true → Runs (.outOverload u) s fun e =>
    (e.outPair ch (u.val / 2)).st = .fault ∧ (e.outPair ch (u.val / 2)).cause = 6 ∧ vget e.sio.found u = some (s.chip.now, 6))
  ∧ (∀ s (o : Fin 8) t k st, (∀ ch : Fin 2, edmDue s.chip ch o = some (t, k, st)) → Runs (.edmTimeout o) s fun e => ∀ ch : Fin 2,
    (e.outPair ch o).st = st ∧ (e.outPair ch o).cause = k ∧ (e.outPair ch o).sw = Vector.replicate 2 false)
  ∧ (∀ s (o : Fin 8), (s.chip.outPair 0 o).st = .armed → Runs (.armedTimeout o) s fun e => vget e.sio.req o = false
    ∧ (e.outPair 0 o).st = .off ∧ (e.outPair 1 o).st ≠ .armed ∧ e.now = max s.chip.now ((s.chip.outPair 0 o).since + 30000000000))
  ∧ (∀ s (o : Fin 8) (ch : Fin 2) g t, g = pcfg s.chip o → g.mode = 1 → g.cat1 = true → g.sc0Off = false → s.chip.sys.dev = .faultHalt →
    s.chip.sio.haltAt = some t → (s.chip.outPair ch o).st = .on → Runs (.cat1Expiry o) s fun e => (e.outPair ch o).st = .offSeq
      ∧ (e.outPair ch o).sw = Vector.replicate 2 false)
  ∧ (∀ s (p : Fin 16) a b x y, (icfg s.chip p).mode = 3 → (s.chip.inPair 0 p).ended = some (a, b) → (s.chip.inPair 1 p).ended = some (x, y) →
    50000000 ≤ b - a → b - a < 5000000000 → 50000000 ≤ y - x → y - x < 5000000000 → b ≤ y + 1000000 → y ≤ b + 1000000 →
    Runs (.operatorReset p) s fun e => vget e.sio.resets p = inc (vget s.chip.sio.resets p)
      ∧ e.sio.resetsDue = s.chip.sio.resetsDue ++ [(p.val, min a x)] ∧ (e.inPair 0 p).ended = none ∧ (e.inPair 1 p).ended = none)
  ∧ (∀ s (p : Fin 16) a b x y, (icfg s.chip p).mode = 3 → (s.chip.inPair 0 p).ended = some (a, b) → (s.chip.inPair 1 p).ended = some (x, y) →
    b - a < 50000000 → y - x < 50000000 → (s.chip.inPair 0 p).acc = none → Runs (.operatorReset p) s fun e =>
      e.sio.resets = s.chip.sio.resets ∧ e.sio.resetsDue = s.chip.sio.resetsDue ∧ ∃ m ∈ e.mb.out, m.opcode = 0x0A04)
  ∧ (∀ s (p : Fin 16) t, (icfg s.chip p).mode = 3 → (∀ ch : Fin 2, (s.chip.inPair ch p).pressed = some t) →
    Runs (.resetStuck p) s fun e => e.now = max s.chip.now (t + 5000000000) ∧ ∀ ch : Fin 2, (e.inPair ch p).stuck = true
      ∧ (e.inPair ch p).pressed = none ∧ (e.inPair ch p).cause = 3)

/-- Commands of the safe I/O and of the safety configuration (11 R335, R341, R357, R361, R362).
Shown to complete: sioGetStatus, sioGetPair, sioGetOutput, sioOutSet, sioClearFault, safetyGetConn, safetyClearCounters,
safetyConfirm, safetyUnconfirm. -/
def Obligations.SafeIoCommandsAct : Prop :=
  (∀ q s, heard 0x0A01 28 layNone q s.chip → Answers (.sioGetStatus q) 0x0A01 q s .ok (le 4 (s.chip.chan 0).si ++ le 4 (s.chip.chan 1).si
    ++ le 1 (s.chip.chan 0).edm ++ le 1 (bits [s.chip.sys.confirmed, s.chip.sys.safetyDefaults, (s.chip.chan 0).fault, (s.chip.chan 1).fault])
    ++ le 2 (maskOf 16 (fun p => (s.chip.inPair 0 p).st = .released))
    ++ (List.range 8).map (fun o => byte (s.chip.outPair 0 o).st.code) ++ le 4 s.chip.sio.scv) s.chip)
  ∧ (∀ q s p g x y, heard 0x0A02 16 (lay 1 fun b => [bLe b 0 15]) q s.chip → p = byteN q.payload 0 → g = icfg s.chip p →
    x = s.chip.inPair 0 p → y = s.chip.inPair 1 p → Answers (.sioGetPair q) 0x0A02 q s .ok (le 1 g.mode
      ++ le 1 (if g.mode = 1 || g.mode = 2 then x.st else .demand).code ++ le 1 (if x.cause ≠ 0 then x.cause else y.cause) ++ zeros 1
      ++ le 4 (vget s.chip.sio.disc p) ++ le 4 (vget s.chip.sio.resets p)) s.chip)
  ∧ (∀ q s o x y, heard 0x0A03 24 (lay 1 fun b => [bLe b 0 7]) q s.chip → o = byteN q.payload 0 → x = s.chip.outPair 0 o →
    y = s.chip.outPair 1 o → Answers (.sioGetOutput q) 0x0A03 q s .ok (le 1 x.st.code
      ++ le 1 (bits [vget s.chip.sio.req o, (vget s.chip.sio.latched o).isSome]) ++ le 1 (if x.cause ≠ 0 then x.cause else y.cause)
      ++ le 1 (bits [readBack s.chip (2 * o), readBack s.chip (2 * o + 1)])
      ++ le 4 (incBy (vget s.chip.sio.test (2 * o)).valid (vget s.chip.sio.test (2 * o + 1)).valid) ++ le 4 (vget s.chip.sio.dpDiscard o)
      ++ le 4 (vget s.chip.sio.edmClose o) ++ le 4 (match x.st, x.edmAt with
        | .offSeq, some t => msLeft s.chip.now (some (t + (pcfg s.chip o).offMs * 1000000))
        | _, _ => 0)) s.chip)
  ∧ (∀ q s o, heard 0x0A04 5 (lay 2 fun b => [bLe b 0 7, bLe b 1 1]) q s.chip → o = byteN q.payload 0 → byteN q.payload 1 = 0 →
    (vget s.chip.cfg.sio.out o).mode = 1 → s.chip.sys.safetyDefaults = false →
    (s.chip.sys.dev = .commissioning ∨ s.chip.sys.dev = .ready ∨ s.chip.sys.dev = .automatic ∨ s.chip.sys.dev = .degraded) →
    Answers (.sioOutSet q) 0x0A04 q s .ok (le 1 (s.chip.outPair 0 o).st.code) (deferB (dropRequest s.chip o) 0x0A04 q))
  ∧ (∀ q s o, heard 0x0A04 5 (lay 2 fun b => [bLe b 0 7, bLe b 1 1]) q s.chip → o = byteN q.payload 0 → byteN q.payload 1 = 1 →
    (vget s.chip.cfg.sio.out o).mode = 1 → s.chip.sys.safetyDefaults = false →
    (s.chip.sys.dev = .commissioning ∨ s.chip.sys.dev = .ready ∨ s.chip.sys.dev = .automatic ∨ s.chip.sys.dev = .degraded) →
    (s.chip.outPair 0 o).st = .offSeq → Answers (.sioOutSet q) 0x0A04 q s .queued (le 1 3) ((dropRequest s.chip o).onSio fun x => { x with
      reqAt := vset x.reqAt o s.chip.now, latched := vset x.latched o (some (q.ring, q.seq)) }))
  ∧ (∀ q s o, heard 0x0A04 5 (lay 2 fun b => [bLe b 0 7, bLe b 1 1]) q s.chip → o = byteN q.payload 0 → byteN q.payload 1 = 1 →
    (vget s.chip.cfg.sio.out o).mode = 1 → s.chip.sys.safetyDefaults = false →
    (s.chip.sys.dev = .commissioning ∨ s.chip.sys.dev = .ready ∨ s.chip.sys.dev = .automatic ∨ s.chip.sys.dev = .degraded) →
    (s.chip.outPair 0 o).st ≠ .offSeq → Answers (.sioOutSet q) 0x0A04 q s .ok (le 1 (s.chip.outPair 0 o).st.code)
      (deferB ((dropRequest s.chip o).onSio fun x => { x with reqAt := vset x.reqAt o s.chip.now }) 0x0A04 q))
  ∧ (∀ q s o, heard 0x0A04 5 (lay 2 fun b => [bLe b 0 7, bLe b 1 1]) q s.chip → o = byteN q.payload 0 →
    (vget s.chip.cfg.sio.out o).mode ≠ 1 → Answers (.sioOutSet q) 0x0A04 q s .badParam [] s.chip)
  ∧ (∀ b c o on, o = byteN b 0 → o < 8 → vget (applyOutSet o on c).sio.req o = on)
  ∧ (∀ q s p, heard 0x0A05 5 (lay 2 fun b => [bLe b 0 1, if byteN b 0 = 0 then bLe b 1 15 else bLe b 1 7]) q s.chip →
    byteN q.payload 0 = 0 → p = byteN q.payload 1 → ((icfg s.chip p).mode = 1 ∨ (icfg s.chip p).mode = 2) →
    ((s.chip.inPair 0 p).st = .faulted ∨ (s.chip.inPair 1 p).st = .faulted) → contacts s.chip 0 p = (false, false) →
    contacts s.chip 1 p = (false, false) →
    Answers (.sioClearFault q) 0x0A05 q s .ok (le 1 (s.chip.inPair 0 p).st.code) (deferB s.chip 0x0A05 q))
  ∧ (∀ q s o x, heard 0x0A05 5 (lay 2 fun b => [bLe b 0 1, if byteN b 0 = 0 then bLe b 1 15 else bLe b 1 7]) q s.chip →
    byteN q.payload 0 = 1 → o = byteN q.payload 1 → x = s.chip.outPair 0 o → (pcfg s.chip o).mode ≠ 0 →
    (x.st = .inhibited ∨ x.st = .fault) → outCauseGone s.chip o = true → edmClosed s.chip 0 o = true →
    Answers (.sioClearFault q) 0x0A05 q s .ok (le 1 x.st.code)
      (noteRequest (128 + o) (s.chip.onSio fun y => { y with cleared := vset y.cleared o (some s.chip.now) })))
  ∧ (∀ c n, (noteRequest n c).sio.request = n % 256 + c.count % 65536 * 2 ^ 8)
  ∧ (∀ c (i : Fin 8), mbit (requestWord c) i = vget c.sio.req i)
  ∧ (∀ q s i x, heard 0x0A06 40 (lay 1 fun b => [bLe b 0 127]) q s.chip → i = byteN q.payload 0 → i < s.chip.sio.conn.length →
    x = s.chip.conn i → Answers (.safetyGetConn q) 0x0A06 q s .ok (le 1 x.st.code ++ le 1 x.kind ++ zeros 2 ++ le 4 x.id
      ++ ((List.range 7).map (fun k => le 4 (vget x.cnt k))).flatten) s.chip)
  ∧ (∀ q s i, heard 0x0A06 40 (lay 1 fun b => [bLe b 0 127]) q s.chip → i = byteN q.payload 0 → s.chip.sio.conn.length ≤ i →
    Answers (.safetyGetConn q) 0x0A06 q s .badParam [] s.chip)
  ∧ (∀ q s, heard 0x0A07 4 layNone q s.chip → Answers (.safetyClearCounters q) 0x0A07 q s .ok [] (s.chip.onSio fun y => { y with
    conn := y.conn.map (fun x => { x with cnt := Vector.replicate 7 0 }), disc := Vector.replicate 16 0, resets := Vector.replicate 16 0,
    dpDiscard := Vector.replicate 8 0, test := vmapIdx y.test (fun _ t => { t with valid := 0 }) }))
  ∧ (∀ q s, heard 0x0A10 5 (lay 4 fun _ => []) q s.chip → s.chip.sys.dev = .commissioning → s.chip.sys.safetyDefaults = false →
    s.chip.sio.confirm = none → ru q.payload 0 4 = s.chip.sio.scv → Answers (.safetyConfirm q) 0x0A10 q s .queued
      (le 1 (b2n s.chip.sys.confirmed)) (s.chip.onSio fun y => { y with confirm := some (q.ring, q.seq, s.chip.now + 60000000000) }))
  ∧ (∀ q s, heard 0x0A10 5 (lay 4 fun _ => []) q s.chip → s.chip.sys.dev = .commissioning → s.chip.sys.safetyDefaults = false →
    s.chip.sio.confirm = none → ru q.payload 0 4 ≠ s.chip.sio.scv → Answers (.safetyConfirm q) 0x0A10 q s .checkFail [] s.chip)
  ∧ (∀ q s, heard 0x0A11 4 layNone q s.chip → (s.chip.sys.dev = .configured ∨ s.chip.sys.dev = .commissioning) →
    Answers (.safetyUnconfirm q) 0x0A11 q s .ok [] (deferB s.chip 0x0A11 q))
  ∧ (∀ c, (applyUnconfirm c).sys.confirmed = false ∧ c.sio.scv ∉ (applyUnconfirm c).boot.confirmRecs)

/-- The metrology die (12 R365-R386): its messages, windows, self-checks, seal, power and service port, and Brass's side of its stream.
That a firmware-invalid die answers REFUSED_STATE or SEALED to what it does not accept is the model's choice (log 40).
Shown to complete: metroMessageReceived, weighWindowTimeout, messageGap, loadCellSample, selfCheckStart, selfCheckDone,
zeroOverdue, checkOverdue, batchClose, sealNChange, metroPowerUp, metroSupplyLoss, metroSilent, metroStreamReceived,
metroSvcReadParam, metroSvcWriteParam, metroSvcAdjZero, metroSvcAdjSpan, metroSvcWeigh, metroSvcFwLoad, metroSvcDiscard. -/
def Obligations.MetrologyDieActs : Prop :=
  (∀ s b, metroRuns s.chip = false → Completes (.metroMessageReceived b) s (s.chip.onMlink fun m => { m with link := m.link.drop 1 }))
  ∧ (∀ s b, metroRuns s.chip = true → messageOk s.chip.metro b = false → Runs (.metroMessageReceived b) s fun e =>
    e.metro.rxSeq = s.chip.metro.rxSeq ∧ ∀ k : Fin 8, (e.weigh k).win = (s.chip.weigh k).win.map (fun x => { x with flags := x.flags ||| 0x1000 }))
  ∧ (∀ s b, metroRuns s.chip = true → messageOk s.chip.metro b = true → Runs (.metroMessageReceived b) s fun e =>
    e.metro.rxSeq = some (ru b 4 2)
      ∧ (byteN b 0 = 1 → e.metro.tick = some (ofWide b 12 + 400, s.chip.now) ∧ e.metro.chan = s.chip.metro.chan)
      ∧ (byteN b 0 = 2 → (s.chip.weigh (byteN b 1)).win = none → (e.weigh (byteN b 1)).win = some {
          item := ru b 8 4, tOpen := ofWide b 12,
          flags := messageFlags b ||| (if (s.chip.weigh (byteN b 1)).sigFault then 0x800 else 0)
            ||| (if untimed s.chip then 0x1000 else 0) }
        ∧ (e.weigh (byteN b 1)).checking = none)
      ∧ (byteN b 0 = 3 → (s.chip.weigh (byteN b 1)).win = none → e.metro.orphan = inc s.chip.metro.orphan)
      ∧ (byteN b 0 = 3 → (s.chip.weigh (byteN b 1)).win.isSome → (e.weigh (byteN b 1)).win = none)
      ∧ (byteN b 0 = 4 → (e.weigh (byteN b 1)).nextOpen = some (ofWide b 12)))
  ∧ (∀ s (k : Fin 8) x, (s.chip.weigh k).win = some x → weighs (s.chip.weigh k).par = true → Runs (.weighWindowTimeout k) s fun e =>
    (e.weigh k).win = none ∧ (e.weigh k).lastRec = s.chip.metro.boots * 4294967296 + s.chip.metro.nextRec
      ∧ e.metro.nextRec = (s.chip.metro.nextRec + 1) % 4294967296 ∧ ∃ r ∈ e.mlink.stream, r.1 = 0 ∧ mbit (ru r.2 10 2) 5 = true)
  ∧ (∀ s p (t : Nat), s.chip.metro.tick = some (p, t) → Runs .messageGap s fun e => e.now = max s.chip.now (t + 10000000)
    ∧ ∀ k : Fin 8, (e.weigh k).win = (s.chip.weigh k).win.map (fun x => { x with flags := x.flags ||| 0x1000 }))
  ∧ (∀ s, s.chip.metro.tick = none → Completes .messageGap s (gapAll s.chip))
  ∧ (∀ s (k : Fin 8) raw a b y, metroRuns s.chip = true → (s.chip.weigh k).checking = none → (s.chip.weigh k).win = none →
    y = Config.weighFilter (s.chip.weigh k).par.fc (s.chip.weigh k).filt raw → Runs (.loadCellSample k raw a b) s fun e =>
      e.metro.excOk = b ∧ (e.weigh k).filt = y.1 ∧ (e.weigh k).samples.head? = some (metroPlant s.chip, y.2)
        ∧ (e.weigh k).sigFault = (!a || !b || decide (8388607 ≤ raw) || decide (raw ≤ -8388608)))
  ∧ (∀ s (k : Fin 8) t, metroRuns s.chip = true → (s.chip.weigh k).win = none → (s.chip.weigh k).checking = none →
    (s.chip.weigh k).nextOpen = some t → metroPlant s.chip + 14000000 ≤ t →
    (∀ u, (s.chip.weigh k).chkAt = some u → u + (s.chip.weigh k).par.chkPeriod * 1000000000 ≤ s.chip.now) →
    Completes (.selfCheckStart k) s (onW s.chip k fun w => { w with checking := some s.chip.now }))
  ∧ (∀ s (k : Fin 8), (s.chip.weigh k).win.isSome → Completes (.selfCheckStart k) s s.chip)
  ∧ (∀ s (k : Fin 8) ok t, (s.chip.weigh k).checking = some t → Runs (.selfCheckDone k ok) s fun e =>
    (e.weigh k).checking = none ∧ (e.weigh k).chkFailed = !ok ∧ e.now = max s.chip.now (t + 12000000)
      ∧ (e.weigh k).chkAt = (if ok then some e.now else (s.chip.weigh k).chkAt)
      ∧ (e.weigh k).chkOverdue = ((s.chip.weigh k).chkOverdue && !ok))
  ∧ (∀ s (k : Fin 8), Runs (.zeroOverdue k) s fun e => (e.weigh k).zeroOverdue = true ∧ (e.weigh k).zero = (s.chip.weigh k).zero)
  ∧ (∀ s (k : Fin 8), Runs (.checkOverdue k) s fun e => (e.weigh k).chkOverdue = true)
  ∧ (∀ s n f b (t : Nat), s.chip.metro.batch = some (n, f, b, t) → Runs .batchClose s fun e => e.metro.batch = none
    ∧ e.now = max s.chip.now (t + 1000000000) ∧ ∃ r ∈ e.mlink.stream, r.1 = 1 ∧ ru r.2 2 2 = n % 65536)
  ∧ (∀ s, s.chip.metro.batch = none → Completes .batchClose s s.chip)
  ∧ (∀ s b, s.chip.metro.power = false → Completes (.sealNChange b) s (s.chip.onMetro fun m => { m with sealLow := b }))
  ∧ (∀ s, s.chip.metro.power = true → s.chip.metro.st = .run → Runs (.sealNChange true) s fun e => e.metro.st = .adjust
    ∧ e.metro.events = s.chip.metro.events ∧ e.metro.sealLow = true)
  ∧ (∀ s, s.chip.metro.power = true → s.chip.metro.st = .adjust → hasStaged s.chip = false → Runs (.sealNChange false) s fun e =>
    e.metro.st = .run ∧ e.metro.events = s.chip.metro.events ∧ e.metro.audit = s.chip.metro.audit)
  ∧ (∀ s, s.chip.metro.power = true → s.chip.metro.st = .adjust → hasStaged s.chip = true → auditFull s.chip = false →
    Runs (.sealNChange false) s fun e => e.metro.st = .run ∧ e.metro.events = s.chip.metro.events + 1
      ∧ e.metro.audit = s.chip.metro.audit ++ commitEntries s.chip (s.chip.metro.events + 1)
      ∧ ∀ k : Fin 8, (e.weigh k).par = (s.chip.weigh k).next ∧ (e.weigh k).staged = none)
  ∧ (∀ s, s.chip.metro.power = true → s.chip.metro.st = .adjust → hasStaged s.chip = true → auditFull s.chip = true →
    Runs (.sealNChange false) s fun e => e.metro.st = .run ∧ e.metro.events = s.chip.metro.events ∧ e.metro.audit = s.chip.metro.audit
      ∧ ∀ k : Fin 8, (e.weigh k).par = (s.chip.weigh k).par ∧ (e.weigh k).staged = none)
  ∧ (∀ s ok, s.chip.metro.power = false → Runs (.metroPowerUp ok) s fun e => e.metro.power = true
    ∧ e.metro.st = (if !ok then .fwInvalid else if s.chip.metro.sealLow then .adjust else .run)
    ∧ e.metro.boots = (s.chip.metro.boots + 1) % 4294967296 ∧ e.metro.nextRec = 0 ∧ e.metro.chain = firstChain e.metro.boots
    ∧ e.metro.events = s.chip.metro.events ∧ e.metro.audit = s.chip.metro.audit
    ∧ ∀ k : Fin 8, e.weigh k = { par := (s.chip.weigh k).par, zero := (s.chip.weigh k).par.zAdj })
  ∧ (∀ s ok, s.chip.metro.power = true → Completes (.metroPowerUp ok) s s.chip)
  ∧ (∀ s, Runs .metroSupplyLoss s fun e => e.metro.power = false ∧ e.metro.st = .noContact ∧ e.metro.batch = none
    ∧ e.metro.events = s.chip.metro.events ∧ e.metro.audit = s.chip.metro.audit ∧ e.metro.boots = s.chip.metro.boots
    ∧ ∀ k : Fin 8, (e.weigh k).par = (s.chip.weigh k).par ∧ (e.weigh k).staged = none ∧ (e.weigh k).win = none)
  ∧ (∀ s, Completes .metroSilent s ((s.chip.atTime (s.chip.mlink.heard + 100000000)).onMlink fun m => { m with
    copy := { m.copy with st := .noContact } }))
  ∧ (∀ s b l, s.chip.mlink.stream = (0, b) :: l → s.chip.mlink.held.length < 4096 → s.chip.sys.dev ≠ .reset → s.chip.sys.dev ≠ .off →
    Runs .metroStreamReceived s fun e =>
    e.mlink.stream = l ∧ e.mlink.heard = s.chip.now ∧ e.mlink.copy = s.chip.metro
      ∧ e.mlink.held = s.chip.mlink.held ++ [(28, 0x0B10, ru b 0 8, b, false)])
  ∧ (∀ s b l, s.chip.mlink.stream = (2, b) :: l → s.chip.sys.dev ≠ .reset → s.chip.sys.dev ≠ .off →
    Runs .metroStreamReceived s fun e => e.mlink.stream = l ∧ e.mlink.held = s.chip.mlink.held
    ∧ (ru b 0 2 = 0x0B01 → e.mlink.enabled = maskOf 8 (fun k => (vget s.chip.metro.chan k).par.enable = 1))
    ∧ { ring := 29, opcode := ru b 0 2, cls := 3, payload := b, len := 16 } ∈ e.mb.out)
  ∧ (∀ s x l, s.chip.mlink.stream = x :: l → (s.chip.sys.dev = .reset ∨ s.chip.sys.dev = .off) →
    Completes .metroStreamReceived s (s.chip.onMlink fun m => { m with stream := l }))
  ∧ (∀ s, s.chip.mlink.stream = [] → Completes .metroStreamReceived s s.chip)
  ∧ (∀ s b ok i, i ∈ [Instr.metroSvcReadParam b, .metroSvcWriteParam b, .metroSvcAdjZero b, .metroSvcAdjSpan b, .metroSvcWeigh b,
    .metroSvcFwLoad b ok, .metroSvcDiscard b] → s.chip.metro.power = true →
    (s.chip.metro.st = .run ∨ (s.chip.metro.st = .fwInvalid ∧ s.chip.metro.sealLow = false)) → Completes i s (svcAnswer s.chip .sealed))
  ∧ (∀ s b i, i ∈ [Instr.metroSvcReadParam b, .metroSvcWriteParam b, .metroSvcAdjZero b, .metroSvcAdjSpan b, .metroSvcWeigh b,
    .metroSvcDiscard b] → s.chip.metro.power = true → s.chip.metro.st = .fwInvalid → s.chip.metro.sealLow = true →
    Completes i s (svcAnswer s.chip .refusedState))
  ∧ (∀ s b w, s.chip.metro.power = true → s.chip.metro.st = .adjust → paramLay 2 b = true → w = s.chip.weigh (byteN b 0) →
    Completes (.metroSvcReadParam b) s (svcAnswer s.chip .ok (leI 8 (w.par.value (byteN b 1)) ++ leI 8 (w.next.value (byteN b 1)))))
  ∧ (∀ s b v, s.chip.metro.power = true → s.chip.metro.st = .adjust → paramLay 16 b = true → rsv b 2 6 = true →
    v = (if byteN b 1 = 7 then ri b 8 8 else ru b 8 8) → paramOk (s.chip.weigh (byteN b 0)).next (byteN b 1) v = true →
    Runs (.metroSvcWriteParam b) s fun e => (e.weigh (byteN b 0)).staged = some ((s.chip.weigh (byteN b 0)).next.put (byteN b 1) v)
      ∧ (e.weigh (byteN b 0)).par = (s.chip.weigh (byteN b 0)).par ∧ e.metro.svcOut.head? = some (le 1 0 ++ zeros 3))
  ∧ (∀ s b v, s.chip.metro.power = true → s.chip.metro.st = .adjust → paramLay 16 b = true → rsv b 2 6 = true →
    v = (if byteN b 1 = 7 then ri b 8 8 else ru b 8 8) → paramOk (s.chip.weigh (byteN b 0)).next (byteN b 1) v = false →
    Completes (.metroSvcWriteParam b) s (svcAnswer s.chip .badParam))
  ∧ (∀ s b k l z, s.chip.metro.power = true → s.chip.metro.st = .adjust → b.length = 1 → k = byteN b 0 → k < 8 →
    l = lastSecond s.chip k → restless (s.chip.weigh k).next l = false → z = satI 32 (meanCount (sumOf l) l.length) →
    Runs (.metroSvcAdjZero b) s fun e => (e.weigh k).staged = some { (s.chip.weigh k).next with zAdj := z }
      ∧ (e.weigh k).adjZero = true ∧ e.metro.svcOut.head? = some (le 1 0 ++ zeros 3 ++ leI 4 z))
  ∧ (∀ s b k l z, s.chip.metro.power = true → s.chip.metro.st = .adjust → b.length = 8 → rsv b 1 3 = true → k = byteN b 0 → k < 8 →
    l = lastSecond s.chip k → restless (s.chip.weigh k).next l = false → z = Config.spanFor (ri b 4 4) (sumOf l)
      l.length (s.chip.weigh k).next.zAdj (s.chip.weigh k).next.kLin % 2 ^ 64 →
    Runs (.metroSvcAdjSpan b) s fun e => (e.weigh k).staged = some { (s.chip.weigh k).next with kSpan := z }
      ∧ (e.weigh k).adjSpan = true ∧ e.metro.svcOut.head? = some (le 1 0 ++ zeros 3 ++ le 8 z))
  ∧ (∀ s b k l, s.chip.metro.power = true → s.chip.metro.st = .adjust → b.length = 1 → k = byteN b 0 → k < 8 →
    l = lastSecond s.chip k → restless (s.chip.weigh k).next l = true → Completes (.metroSvcAdjZero b) s (svcAnswer s.chip .busy))
  ∧ (∀ s b k l p mg, s.chip.metro.power = true → s.chip.metro.st = .adjust → b.length = 1 → k = byteN b 0 → k < 8 →
    l = lastSecond s.chip k → p = (s.chip.weigh k).next →
    mg = weighMass (sumOf l) l.length (if (s.chip.weigh k).adjZero then p.zAdj else (s.chip.weigh k).zero) p.kSpan p.kLin →
    Completes (.metroSvcWeigh b) s (svcAnswer s.chip .ok (leI 4 (satI 32 mg) ++ leI 4 (satI 32 (toScale mg p.e))
      ++ leI 4 (satI 32 (spreadWhole (spanRange l) p.kSpan)))))
  ∧ (∀ s b v, s.chip.metro.power = true → (s.chip.metro.st = .adjust ∨ (s.chip.metro.st = .fwInvalid ∧ s.chip.metro.sealLow = true)) →
    v = Config.metroFwVersion b → ¬ (v.1 < s.chip.metro.fwMajor ∨ (v.1 = s.chip.metro.fwMajor ∧ v.2 < s.chip.metro.fwMinor)) →
    Completes (.metroSvcFwLoad b true) s (svcAnswer (s.chip.onMetro fun m => { m with
      fwStaged := some (v.1, v.2, fit 8 (shake256 b 64)) }) .ok (le 2 v.1 ++ le 2 v.2)))
  ∧ (∀ s b, s.chip.metro.power = true → s.chip.metro.st = .adjust → Completes (.metroSvcFwLoad b false) s (svcAnswer s.chip .checkFail))
  ∧ (∀ s, s.chip.metro.power = true → s.chip.metro.st = .adjust → Completes (.metroSvcDiscard []) s (svcAnswer (noStaged s.chip) .ok))

/-- Host metrology commands (12 R380, R388, R389): they answer from Brass's copy, TIMEOUT while the die is silent.
Shown to complete: metroGetStatus, metroGetChannel, metroGetIdent, metroReadAudit, metroGetPubkey, metroResend. -/
def Obligations.MetrologyCommandsAct : Prop :=
  (∀ q s m g, heard 0x0B01 32 layNone q s.chip → m = s.chip.mlink.copy → g = metroGone s.chip →
    Answers (.metroGetStatus q) 0x0B01 q s (if g then .timeout else .ok) (le 1 (if g then 3 else m.st.code)
      ++ le 1 (maskOf 8 (fun k => (vget m.chan k).par.enable = 1)) ++ le 1 s.chip.cfg.weigh
      ++ le 1 (bits [m.sealLow, decide (m.audit.length = 8192)]) ++ le 4 m.events ++ le 4 m.boots ++ le 4 m.nextRec
      ++ le 4 s.chip.mlink.recLost ++ le 4 m.orphan ++ le 4 m.abandon) s.chip)
  ∧ (∀ q s w (z t : Nat), heard 0x0B02 36 (lay 1 fun b => [bLe b 0 7]) q s.chip → metroGone s.chip = false →
    w = vget s.chip.mlink.copy.chan (byteN q.payload 0) → w.zeroAt = some z → w.chkAt = some t →
    Answers (.metroGetChannel q) 0x0B02 q s .ok (le 1 (if w.par.enable ≠ 1 then 0 else if w.sigFault || w.chkFailed then 2 else 1)
      ++ le 1 (b2n w.win.isSome) ++ zeros 2 ++ le 4 w.par.max ++ le 4 w.par.min ++ le 4 w.par.e
      ++ le 4 ((s.chip.now - z) / 1000000000) ++ le 4 ((s.chip.now - t) / 1000000000) ++ le 8 w.lastRec) s.chip)
  ∧ (∀ q s w, heard 0x0B02 36 (lay 1 fun b => [bLe b 0 7]) q s.chip → metroGone s.chip = false →
    w = vget s.chip.mlink.copy.chan (byteN q.payload 0) → (w.zeroAt = none ∨ w.chkAt = none) →
    Answers (.metroGetChannel q) 0x0B02 q s .ok (le 1 (if w.par.enable ≠ 1 then 0 else if w.sigFault || w.chkFailed then 2 else 1)
      ++ le 1 (b2n w.win.isSome) ++ zeros 2 ++ le 4 w.par.max ++ le 4 w.par.min ++ le 4 w.par.e
      ++ le 4 (ageOf s.chip 0 w.zeroAt) ++ le 4 (ageOf s.chip 1 w.chkAt) ++ le 8 w.lastRec) (takeFree s.chip))
  ∧ (∀ q s m, heard 0x0B03 20 layNone q s.chip → metroGone s.chip = false → m = s.chip.mlink.copy →
    Answers (.metroGetIdent q) 0x0B03 q s .ok ([0x43, 0x53, 0x54, 0x4E] ++ le 1 m.fwMajor ++ le 1 m.fwMinor ++ zeros 2
      ++ fit 4 m.fwDigest ++ le 4 m.events) s.chip)
  ∧ (∀ q s b, heard 0x0B04 36 (lay 2 fun b => [ru b 0 2 ≤ 8191]) q s.chip → metroGone s.chip = false →
    s.chip.mlink.copy.audit[ru q.payload 0 2]? = some b → Answers (.metroReadAudit q) 0x0B04 q s .ok (fit 32 b) s.chip)
  ∧ (∀ q s, heard 0x0B04 36 (lay 2 fun b => [ru b 0 2 ≤ 8191]) q s.chip → s.chip.mlink.copy.audit[ru q.payload 0 2]? = none →
    Answers (.metroReadAudit q) 0x0B04 q s .badParam [] s.chip)
  ∧ (∀ q s, heard 0x0B05 1801 layNone q s.chip → metroGone s.chip = false →
    Answers (.metroGetPubkey q) 0x0B05 q s .ok (le 2 1793 ++ zeros 2 ++ fit 1793 Config.metroPubKey) s.chip)
  ∧ (∀ q s n, heard 0x0B06 8 (fun b => b.length = 8) q s.chip → metroGone s.chip = false → n = ru q.payload 0 8 →
    s.chip.mlink.held.any (fun h => h.1 = 28 && h.2.2.1 = n) = true → Answers (.metroResend q) 0x0B06 q s .ok
      (le 4 (s.chip.mlink.held.filter (fun h => h.1 = 28 && n ≤ h.2.2.1)).length) (s.chip.onMlink fun m => { m with
        held := m.held.map (fun h => if n ≤ h.2.2.1 then (h.1, h.2.1, h.2.2.1, h.2.2.2.1, false) else h) }))
  ∧ (∀ q s n, heard 0x0B06 8 (fun b => b.length = 8) q s.chip → metroGone s.chip = false → n = ru q.payload 0 8 →
    s.chip.mlink.held.any (fun h => h.1 = 28 && h.2.2.1 = n) = false → Answers (.metroResend q) 0x0B06 q s .noResource [] s.chip)

/-- What arrives from the partner, and the pair's own times (13 R393, R394, R397-R405, R408). How a joining unit's time moves to the
primary's, and what a pair link carries in WAIT, is the model's reading (log 51).
Shown to complete: interlockPulse, heartbeatLost, pairLinkLost, pairLaneStateChange, pairSyncReceived, mirrorReceived,
digestCompare, pairClassReceived, sensorRelayReceived, scanPduReceived, pairUplinkReceived, partnerWaitExpiry, isolationExpiry,
stateTransferDone, swapConfirm. -/
def Obligations.PairEventsAct : Prop :=
  (∀ s w k, s.chip.pair.st.isSome → (k = 0 ∧ 50 ≤ w ∧ w < 150 ∨ k = 1 ∧ 150 ≤ w ∧ w ≤ 250 ∨ k = 2 ∧ 350 ≤ w ∧ w ≤ 450) →
    Completes (.interlockPulse w) s (s.chip.onPair fun p => { p with pulse := some (k, s.chip.now) }))
  ∧ (∀ s w, (w < 50 ∨ 250 < w ∧ w < 350 ∨ 450 < w) → Completes (.interlockPulse w) s s.chip)
  ∧ (∀ s k (t : Nat), s.chip.pair.st.isSome → s.chip.pair.heart = true → s.chip.pair.pulse = some (k, t) →
    2 * t + 5 * s.chip.period < 2 * (s.chip.t0 + s.chip.period) →
    Completes .heartbeatLost s (postLink (s.chip.onPair fun p => { p with heart := false }) 3))
  ∧ (∀ s, s.chip.pair.heart = false → Completes .heartbeatLost s s.chip)
  ∧ (∀ s, s.chip.pair.st.isSome → s.chip.pair.link = true → s.chip.pair.gotMirror = false → 2 ≤ s.chip.pair.linkMiss →
    Completes .pairLinkLost s (postLink (s.chip.onPair fun p => { p with link := false, linkMiss := p.linkMiss + 1 }) 0))
  ∧ (∀ s, s.chip.pair.linkMiss < 2 → Completes .pairLinkLost s s.chip)
  ∧ (∀ s (lane : Fin 2) up, s.chip.pair.st.isSome → mbit s.chip.pair.lanes lane = !up → Completes (.pairLaneStateChange lane up) s
    (postLink (s.chip.onPair fun p => { p with lanes := mput p.lanes lane up }) (if up then 1 else 2)))
  ∧ (∀ s f off, pairFrame s.chip 0x31 48 f = false → Completes (.pairSyncReceived f off) s s.chip)
  ∧ (∀ s f off (t : Int) (T : Int) c, pairFrame s.chip 0x31 48 f = true → rsv f 32 12 = true → byteN f 26 = s.chip.cfg.sys.period →
    t = ofWide f 16 → T = s.chip.period → t % T = 0 → ru f 4 4 = (t / T).toNat % 4294967296 → s.chip.pair.quiet = false →
    c = s.chip.atTime (((s.chip.t0 : Int) + off / 64).toNat) → s.chip.pair.st = some .primary →
    Completes (.pairSyncReceived f off) s (c.onPair fun p => { p with
      arrival := off, syncAt := some c.now, x := quot 6 (off - ri f 28 4) 2, d := quot 6 (off + ri f 28 4) 2 }))
  ∧ (∀ s f off (t : Int) (T : Int) (gap : Int), pairFrame s.chip 0x31 48 f = true → rsv f 32 12 = true → byteN f 26 = s.chip.cfg.sys.period →
    t = ofWide f 16 → T = s.chip.period → t % T = 0 → ru f 4 4 = (t / T).toNat % 4294967296 → s.chip.pair.quiet = false →
    s.chip.pair.st = some .wait → gap = t - (s.chip.t0 + s.chip.ptOff) → Runs (.pairSyncReceived f off) s fun e =>
      e.pair.arrival = off ∧ e.pair.ahead = (2 * gap + T) / (2 * T) * T ∧ e.ptOff = s.chip.ptOff ∧ e.cyc = s.chip.cyc)
  ∧ (∀ s f off (t : Int) (T : Int) (gap : Int), pairFrame s.chip 0x31 48 f = true → rsv f 32 12 = true → byteN f 26 = s.chip.cfg.sys.period →
    t = ofWide f 16 → T = s.chip.period → t % T = 0 → ru f 4 4 = (t / T).toNat % 4294967296 → s.chip.pair.quiet = false →
    (s.chip.pair.st = some .standby ∨ s.chip.pair.st = some .silent ∨ s.chip.pair.st = some .isolated) →
    gap = t - (s.chip.t0 + s.chip.ptOff) → Runs (.pairSyncReceived f off) s fun e =>
      (T ≤ 2 * gap.natAbs → e.ptOff = s.chip.ptOff + gap ∧ e.cyc = (t / T).toNat ∧ ∃ m ∈ e.mb.out, m.opcode = 0x0102)
      ∧ (2 * gap.natAbs < T → s.chip.pair.link = true → e.ptOff = s.chip.ptOff ∧ e.cyc = s.chip.cyc
        ∧ e.pt.corrNext = some (clampI (-corrMax) corrMax (Config.pairSlew (quot 6 (ri f 28 4 - off) 2) s.chip.pt.corr))))
  ∧ (∀ s f, (s.chip.pair.gotMirror = true ∨ pairFrame s.chip 0x32 (448 + 64 * byteN f 19) f = false ∨ inCycle s.chip f = false) →
    Completes (.mirrorReceived f) s s.chip)
  ∧ (∀ s f, s.chip.pair.gotMirror = false → pairFrame s.chip 0x32 448 f = true → byteN f 19 = 0 → byteN f 16 ≤ 4 → inCycle s.chip f = true →
    Runs (.mirrorReceived f) s fun e => e.pair.gotMirror = true ∧ e.pair.partner = byteN f 16 ∧ e.pair.pDev = byteN f 17
      ∧ e.pair.pFlags = byteN f 18 ∧ e.pair.pOut = (List.range 8).map (fun i => byteN f (28 + i)) ∧ e.pair.pBack = ru f 36 2
      ∧ e.pair.pLines = (List.range 4).map (fun i => slice f (40 + 48 * i) 48)
      ∧ e.pair.pDigest = (List.range 24).map (fun i => (ru f (232 + 8 * i) 4, ru f (236 + 8 * i) 4)) ∧ e.pair.st = s.chip.pair.st)
  ∧ (∀ c b, acycValid b = true → mbit (byteN b 1) 0 = false → ru b 2 2 ≠ (c.pair.rxSeq + 1) % 65536 → takeBlock c b = c)
  ∧ (∀ c b, acycValid b = true → mbit (byteN b 1) 0 = true → mbit (byteN b 1) 1 = false →
    takeBlock c b = c.onPair fun p => { p with rxSeq := ru b 2 2, rxPart := some (slice b 8 52, ru b 6 2) })
  ∧ (∀ s, s.chip.pair.st.isSome → s.chip.pair.gotMirror = false → Runs .digestCompare s fun e => e.pair.matched = 0
    ∧ e.pair.lastMatched = (if s.chip.pair.matched = 0 then s.chip.pair.lastMatched else s.chip.pair.matched)
    ∧ e.now = max s.chip.now (s.chip.t0 + (Config.tDl s.chip.cfg.sys.period + 2000)))
  ∧ (∀ s, s.chip.pair.st.isSome → s.chip.pair.gotMirror = true → s.chip.pair.pDigest = s.chip.pair.oDigest →
    (∀ k, vget s.chip.pair.differ k = 0) → Runs .digestCompare s fun e =>
      e.pair.matched = inc s.chip.pair.matched ∧ e.pair.diverged = s.chip.pair.diverged ∧ e.pair.st = s.chip.pair.st)
  ∧ (∀ s (k : Fin 24) d, s.chip.pair.st = some .standby → s.chip.pair.gotMirror = true → s.chip.pair.diverged = none → configured s.chip k = true →
    (s.chip.pair.pDigest.getD k (0, 0)).1 ≠ (s.chip.pair.oDigest.getD k (0, 0)).1 → vget s.chip.pair.differ k = d →
    s.chip.pairCfg.nDiv ≤ d + 1 → Runs .digestCompare s fun e => e.pair.matched = 0 ∧ vget e.pair.differ k = d + 1 ∧ e.pair.diverged.isSome)
  ∧ (∀ s f a j p c (t : Nat) x, pairFrame s.chip 0x33 52 f = true → f.length = 52 → inCycle s.chip f = true → s.chip.sep.start = some (t, x) →
    s.chip.now ≤ t + 249000 → p = slice f 16 32 →
    (List.range 12).find? (fun a => match classConn s.chip a with | some j => (s.chip.conn j).id = ru p 0 4 | none => false) = some a →
    classConn s.chip a = some j → takePdu s.chip j p = (c, true) → byteN p 10 = a → Completes (.pairClassReceived f) s
      (c.onPair fun q => { q with pClass := vset q.pClass a (some (if mbit (byteN p 13) 0 then 0 else byteN p 11, ru p 6 4)) }))
  ∧ (∀ s f, s.chip.sep.start = none → Completes (.pairClassReceived f) s s.chip)
  ∧ (∀ s f, pairFrame s.chip 0x34 f.length f = true → 24 ≤ f.length → rsv f 17 3 = true → byteN f 16 < 8 →
    scanLength (slice f 20 (f.length - 24)) = true → Completes (.sensorRelayReceived f) s (scanOp (byteN f 16) (slice f 20 (f.length - 24)) s.chip))
  ∧ (∀ s f, (pairFrame s.chip 0x34 f.length f = false ∨ 8 ≤ byteN f 16 ∨ scanLength (slice f 20 (f.length - 24)) = false) →
    Completes (.sensorRelayReceived f) s s.chip)
  ∧ (∀ s (port : Fin 8) x d, s.chip.pair.st.isSome → takesScan s.chip port x d = true → Runs (.scanPduReceived port ⟨x, d⟩) s fun e =>
    ∃ f w, e.wire = (2, 1, f) :: (2, 0, f) :: w ∧ byteN f 0 = 0x34 ∧ byteN f 16 = port ∧ slice f 20 d.length = d)
  ∧ (∀ s (k : Fin 24) f sl c, (s.chip.node k).slot = some sl → s.chip.pair.st.isSome → s.chip.pair.st ≠ some .wait →
    frameFault f 2 (k.val + 1) sl s.chip.count (fun f => ru f 8 2 = s.chip.count % 65536 && uplinkBody (s.chip.port k) f) = 0 →
    c = (s.chip.onPair fun p => { p with pSeen := vset p.pSeen k (some s.chip.now) }) → Completes (.pairUplinkReceived k f) s
      (if !(s.chip.node k).fresh || otherCh s.chip = 0 then useUplink c k (otherCh s.chip) f else c))
  ∧ (∀ s (k : Fin 24) f, (s.chip.node k).slot = none → Completes (.pairUplinkReceived k f) s s.chip)
  ∧ (∀ s, s.chip.pair.st = some .wait → s.chip.pairCfg.identity = 1 → s.chip.pair.mismatchAt = none → s.chip.pair.link = false →
    s.chip.pair.heart = false → Completes .partnerWaitExpiry s
      ((s.chip.atTime (quietSince s.chip + s.chip.pairCfg.tPwait * 1000000)).onPair fun p => { p with alone := true }))
  ∧ (∀ s, s.chip.pairCfg.identity = 2 → Completes .partnerWaitExpiry s s.chip)
  ∧ (∀ s, (s.chip.pair.st = some .silent ∨ s.chip.pair.st = some .isolated) → s.chip.pair.quiet = false → Completes .isolationExpiry s
    ((s.chip.atTime (s.chip.pair.syncAt.getD 0 + s.chip.pairCfg.tIso * 1000000)).onPair fun p => { p with quiet := true }))
  ∧ (∀ s, s.chip.pair.st = some .primary → Completes .isolationExpiry s s.chip)
  ∧ (∀ s, s.chip.pair.st = some .silent → s.chip.pair.transfer = true → Runs .stateTransferDone s fun e => e.pair.transfer = false
    ∧ (e.loops, e.joints, e.prof, e.sio, e.planner)
      = Config.takeState s.chip.pair.stateIn (s.chip.loops, s.chip.joints, s.chip.prof, s.chip.sio, s.chip.planner))
  ∧ (∀ s, s.chip.pair.swap = none → Completes .swapConfirm s s.chip)
  ∧ (∀ s w, s.chip.pair.swap = some w → w.stage = 1 → (List.range 8).find? (mbit s.chip.pair.keep) = none →
    stillLink s.chip w (mirrorSeq s.chip) = none → s.chip.pair.partner = 1 → Runs .swapConfirm s fun e =>
      e.pair.swap = none ∧ e.pair.keep = 0 ∧ e.pair.swapAt = some s.chip.now ∧ e.pair.st = s.chip.pair.st
      ∧ vget e.pair.cnt 3 = inc (vget s.chip.pair.cnt 3) ∧ ∃ m ∈ e.mb.out, m.opcode = 0x0C06 ∧ byteN m.payload 8 = 0)
  ∧ (∀ s w l, s.chip.pair.swap = some w → w.stage = 1 → (List.range 8).find? (mbit s.chip.pair.keep) = none →
    stillLink s.chip w (mirrorSeq s.chip) = some l → Runs .swapConfirm s fun e => e.now = max s.chip.now w.endAt
      ∧ e.pair.swap = some { w with stage := 3 } ∧ e.pair.keep = s.chip.pair.keep
      ∧ ∃ m ∈ e.mb.out, m.opcode = 0x0C06 ∧ byteN m.payload 8 = 5 ∧ byteN m.payload 9 = 2)
  ∧ (∀ s w, s.chip.pair.swap = some w → w.stage = 2 → w.pairs = 0 → stillLink s.chip w (fun l => (s.chip.line l).pubSeq) = none →
    Runs .swapConfirm s fun e => e.pair.swap = none ∧ e.pair.st = s.chip.pair.st ∧ e.pair.swapAt = some s.chip.now)
  ∧ (∀ s w l, s.chip.pair.swap = some w → w.stage = 2 → stillLink s.chip w (fun l => (s.chip.line l).pubSeq) = some l →
    Runs .swapConfirm s fun e => e.pair.swap = none ∧ e.pair.st = some .silent ∧ e.pair.pathLatched = true ∧ e.pair.downlinks = false
      ∧ e.now = max s.chip.now w.endAt)

/-- The pair states at a cycle boundary (13 R393, R394, R397, R404, R406, R408). That ISOLATED_TAKEOVER has the code 0x0C02 and
PARTNER_LOST the object 0xFF is the model's choice (log 51). -/
def Obligations.PairStatesChange : Prop :=
  (∀ c, c.pair.st = none → pairStep c = c)
  ∧ (∀ c, c.pair.st = some .wait → c.pair.alone = false → c.cfg.pair.isSome → c.pair.link = true → c.pair.digestsEq = some true →
    partnerShows c 0 = true → c.pairCfg.identity = 1 → (pairStep c).pair.st = some .primary ∧ (pairStep c).star.run = true)
  ∧ (∀ c, c.pair.st = some .wait → c.pair.alone = false → c.cfg.pair.isSome → c.pair.link = true → c.pair.digestsEq = some true →
    partnerShows c 2 = true → (pairStep c).pair.st = some .silent ∧ (pairStep c).pair.transfer = true
      ∧ (pairStep c).ptOff = c.ptOff + c.pair.ahead)
  ∧ (∀ c, c.pair.st = some .wait → c.pair.alone = false → (c.pair.link = false ∨ c.pair.digestsEq ≠ some true) → pairStep c = c)
  ∧ (∀ c, c.pair.st = some .wait → c.pair.alone = true → partnerShows c 2 = false → (pairStep c).pair.st = some .primary
    ∧ (pairStep c).pair.partnerLost = true)
  ∧ (∀ c, c.pair.st = some .primary → partnerShows c 2 = true → c.pairCfg.identity = 2 → (pairStep c).pair.st = some .wait
    ∧ (pairStep c).star.run = false ∧ (pairStep c).pair.downlinks = false)
  ∧ (∀ c w, c.pair.st = some .primary → partnerShows c 2 = false → c.pair.heart = true → c.pair.link = true → c.pair.swap = some w →
    w.stage = 0 → w.cyc ≤ c.cyc → (pairStep c).pair.st = some .standby ∧ (pairStep c).pair.keep = maskOf 8 (fun o => (c.outPair 0 o).st = .on)
      ∧ (pairStep c).pair.swap.map Swap.endAt = some (c.now + c.period + 20000000))
  ∧ (∀ c, c.pair.st = some .primary → partnerShows c 2 = false → (c.pair.heart = false ∨ c.pair.link = false) →
    (pairStep c).pair.st = some .primary ∧ (pairStep c).pair.partnerLost = true)
  ∧ (∀ c w, c.pair.st = some .primary → partnerShows c 2 = false → (c.pair.heart = false ∨ c.pair.link = false) → c.pair.swap = some w →
    w.stage = 0 → (pairStep c).pair.swap = none ∧ ∃ m ∈ (pairStep c).mb.out, m.opcode = 0x0C06 ∧ byteN m.payload 8 = 5)
  ∧ (∀ c n m, c.pair.st = some .standby → c.pair.diverged = some (n, m) → (pairStep c).pair.st = some .silent
    ∧ (pairStep c).pair.matched = 0 ∧ (pairStep c).pair.downlinks = false ∧ vget (pairStep c).pair.cnt 0 = inc (vget c.pair.cnt 0))
  ∧ (∀ c, c.pair.st = some .standby → c.pair.diverged = none → c.pair.swap = none → c.pair.link = true → c.pair.pFlags = 0 → pairStep c = c)
  ∧ (∀ c, c.pair.st = some .standby → c.pair.diverged = none → c.pair.swap = none → c.pair.link = true → partnerShows c 1 = true →
    partnerShows c 2 = false → halted c = false → mbit c.pair.pFlags 1 = true → (pairStep c).pair.st = some .primary
      ∧ (pairStep c).pair.partnerLost = c.pair.partnerLost ∧ vget (pairStep c).pair.cnt 2 = inc (vget c.pair.cnt 2))
  ∧ (∀ c, c.pair.st = some .standby → c.pair.diverged = none → c.pair.swap = none → c.pair.link = false → c.pair.heart = true →
    (pairStep c).pair.st = some .silent ∧ (pairStep c).pair.downlinks = false)
  ∧ (∀ c, c.pair.st = some .standby → c.pair.diverged = none → c.pair.swap = none → c.pair.link = false → c.pair.heart = false →
    max 1 c.pairCfg.w ≤ c.pair.absence → partnerShows c 2 = false → (pairStep c).pair.st = some .primary
      ∧ (pairStep c).pair.partnerLost = true ∧ (pairStep c).sys.haltCauses = c.sys.haltCauses)
  ∧ (∀ c, c.pair.st = some .standby → c.pair.diverged = none → c.pair.swap = none → c.pair.link = false → c.pair.heart = false →
    (c.pair.absence < max 1 c.pairCfg.w ∨ partnerShows c 2 = true) → (pairStep c).pair.st = some .isolated
      ∧ (pairStep c).pair.isoSilent = false ∧ (pairStep c).pair.presence = false)
  ∧ (∀ c, c.pair.st = some .silent → c.pair.link = false → c.pair.heart = false → (pairStep c).pair.st = some .isolated
    ∧ (pairStep c).pair.isoSilent = true)
  ∧ (∀ c, c.pair.st = some .silent → 256 ≤ c.pair.matched → c.pair.link = true → c.pair.heart = true → halted c = false →
    (pairStep c).pair.st = some .standby ∧ (pairStep c).pair.downlinks = true)
  ∧ (∀ c, c.pair.st = some .silent → c.pair.matched < 256 → (c.pair.link = true ∨ c.pair.heart = true) → pairStep c = c)
  ∧ (∀ c, c.pair.st = some .isolated → (c.pair.heart = true ∨ c.pair.link = true) → (pairStep c).pair.st = some .silent
    ∧ (pairStep c).pair.matched = 0)
  ∧ (∀ c, c.pair.st = some .isolated → c.pair.heart = false → c.pair.link = false → max 1 c.pairCfg.w ≤ c.pair.absence →
    partnerShows c 2 = false → (pairStep c).pair.st = some .primary ∧ (pairStep c).pair.partnerLost = true
      ∧ ((c.pair.presence = true ∨ c.pair.isoSilent = true) → (0x0C02, 0xFF) ∈ (pairStep c).sys.haltCauses)
      ∧ (c.pair.presence = false → c.pair.isoSilent = false → (pairStep c).sys.haltCauses = c.sys.haltCauses))
  ∧ (∀ c, c.pair.st = some .isolated → c.pair.heart = false → c.pair.link = false →
    (c.pair.absence < max 1 c.pairCfg.w ∨ partnerShows c 2 = true) → pairStep c = c.onPair fun q => { q with
      isoFor := q.isoFor + 1, downlinks := q.downlinks && decide (q.isoFor + 1 < max 1 c.pairCfg.w) })

/-- Self-test in service (14 R413-R426): slices fall due, wait, start at a boundary, end, and leave their figures. That a core taken
for its test degrades the module is 08 R257 taken literally (log 52).
Shown to complete: sliceDue, sliceSkipped, plannedMigration, sliceDone, laneHoldEnd, rxMismatch. -/
def Obligations.SelfTestActs : Prop :=
  (∀ s, s.chip.ster.begun = none → s.chip.ster.nextAt = none → Completes .sliceDue s s.chip)
  ∧ (∀ s (t : Nat), s.chip.ster.nextAt = some t → Runs .sliceDue s fun e => e.ster.nextAt = none ∧ e.ster.begun = some t ∧ t ≤ e.now
    ∧ e.ster.sweep = (s.chip.ster.sweep + 1) % 4294967296)
  ∧ (∀ s (t : Nat) k i, s.chip.ster.nextAt = none → s.chip.ster.begun = some t → (sweepList s.chip)[s.chip.ster.next]? = some (k, i) → Runs .sliceDue s fun e =>
    e.now = max s.chip.now (t + s.chip.ster.next * (s.chip.cfg.stest.period * 1000000000) / (sweepList s.chip).length)
      ∧ e.ster.next = s.chip.ster.next + 1
      ∧ e.ster.slices = (if s.chip.ster.slices.any (fun x => x.kind = k && x.inst = i) || (blockOf s.chip k i).done then s.chip.ster.slices
        else s.chip.ster.slices ++ [{ kind := k, inst := i, since := e.now }]))
  ∧ (∀ s x, ((s.chip.ster.slices.filter (fun y => y.start.isNone)).insertionSort (fun a b => a.since ≤ b.since)).head? = some x →
    Runs .sliceSkipped s fun e =>
    e.now = max s.chip.now (x.since + s.chip.cfg.stest.period * 1000000000) ∧ (blockOf e x.kind x.inst).result = 4
      ∧ vget e.ster.cnt 0 = inc (vget s.chip.ster.cnt 0) ∧ (∀ y ∈ e.ster.slices, ¬ (y.kind = x.kind ∧ y.inst = x.inst))
      ∧ ∃ m ∈ e.mb.out, m.opcode = 0x0D01 ∧ byteN m.payload 2 = x.kind % 256 ∧ byteN m.payload 8 = 4)
  ∧ (∀ s, s.chip.ster.slices.filter (fun y => y.start.isNone) = [] → Completes .sliceSkipped s s.chip)
  ∧ (∀ s x p, s.chip.ster.slices.find? (fun y => y.kind = 1 && y.start.isNone && (vget s.chip.loops.eng y.inst).st = .inService) = some x →
    migrationSpare s.chip = some p → Runs .plannedMigration s fun e => e.ster.copied = some (x.inst, p) ∧ e.loops = s.chip.loops
      ∧ e.now = max s.chip.now (s.chip.t0 + Config.tDl s.chip.cfg.sys.period))
  ∧ (∀ s, migrationSpare s.chip = none → Completes .plannedMigration s s.chip)
  ∧ (∀ s kind i res, s.chip.ster.slices.find? (fun x => x.kind = kind && x.inst = i && x.start.isSome) = none →
    Completes (.sliceDone kind i res) s s.chip)
  ∧ (∀ s x i, s.chip.ster.slices.find? (fun y => y.kind = 1 && y.inst = i && y.start.isSome) = some x → i < 18 → Runs (.sliceDone 1 i 0) s fun e =>
    (vget e.loops.eng i).st = (if x.wasFailed then .failed else .pool) ∧ (blockOf e 1 i).result = 1
      ∧ (blockOf e 1 i).passes = inc (blockOf s.chip 1 i).passes ∧ (blockOf e 1 i).passAt = some s.chip.now
      ∧ e.sys.degCauses = s.chip.sys.degCauses)
  ∧ (∀ s x i res, s.chip.ster.slices.find? (fun y => y.kind = 1 && y.inst = i && y.start.isSome) = some x → i < 18 → 1 ≤ res → res < 7 →
    Runs (.sliceDone 1 i res) s fun e => (vget e.loops.eng i).st = .failed ∧ (blockOf e 1 i).result = 2 ∧ (blockOf e 1 i).fail = res
      ∧ vget e.ster.cnt 4 = inc (vget s.chip.ster.cnt 4) ∧ (x.wasFailed = false → ∃ d ∈ e.sys.degCauses, d.1 = 0x0D01 ∧ d.2.1 = i)
      ∧ ∃ m ∈ e.mb.out, m.opcode = 0x0D01 ∧ byteN m.payload 3 = i ∧ byteN m.payload 8 = 2)
  ∧ (∀ s x i, s.chip.ster.slices.find? (fun y => y.kind = 2 && y.inst = i && y.start.isSome) = some x → i < 9 → Runs (.sliceDone 2 i 0) s fun e =>
    (e.tileOf i).st = (if x.wasFailed then .failed else .pool) ∧ (blockOf e 2 i).result = 1)
  ∧ (∀ s x i, s.chip.ster.slices.find? (fun y => y.kind = 3 && y.inst = i && y.start.isSome) = some x → i < 8 → x.wasFailed = false →
    Runs (.sliceDone 3 i 0) s fun e => vget e.planner.core i = .inService ∧ ∀ d ∈ e.sys.degCauses, ¬ (d.1 = 0x0701 ∧ d.2.1 = i))
  ∧ (∀ s x i, s.chip.ster.slices.find? (fun y => y.kind = 4 && y.inst = i && y.start.isSome) = some x → Runs (.sliceDone 4 i 0) s fun e =>
    e.ster.spareBank = i ∧ (blockOf e 4 i).st = (if x.wasFailed then 3 else 1))
  ∧ (∀ s x i, s.chip.ster.slices.find? (fun y => y.kind = 4 && y.inst = i && y.start.isSome) = some x → Runs (.sliceDone 4 i 7) s fun e =>
    e.ster.spareBank = s.chip.ster.spareBank ∧ (blockOf e 4 i).result = 3 ∧ vget e.ster.cnt 3 = inc (vget s.chip.ster.cnt 3))
  ∧ (∀ s x i, s.chip.ster.slices.find? (fun y => y.kind = 5 && y.inst = i && y.start.isSome) = some x → Runs (.sliceDone 5 i 0) s fun e =>
    (blockOf e 5 i).result = 1 ∧ e.star = s.chip.star ∧ e.sys.degCauses = s.chip.sys.degCauses)
  ∧ (∀ s x i, s.chip.ster.slices.find? (fun y => y.kind = 6 && y.inst = i && y.start.isSome) = some x → x.mismatch = true → x.wasFailed = false →
    Runs (.sliceDone 6 i 0) s fun e => e.ster.swapTwin = s.chip.ster.swapTwin ++ [i] ∧ (blockOf e 6 i).result = 1)
  ∧ (∀ s, Completes .laneHoldEnd s (s.chip.onSter fun x => { x with lane := none }))
  ∧ (∀ s i, testable s.chip 6 i = true → (blockOf s.chip 6 i).st ≠ 3 → (∀ x ∈ s.chip.ster.slices, ¬ (x.kind = 6 ∧ x.inst = i)) →
    Completes (.rxMismatch 6 i) s (s.chip.onSter fun y => { y with
      slices := y.slices ++ [{ kind := 6, inst := i, since := s.chip.now, start := some s.chip.now, mismatch := true }] }))
  ∧ (∀ s kind i, kind ≠ 6 → Completes (.rxMismatch kind i) s s.chip)
  ∧ (∀ c s taken, mayStart c s taken = true → c.ster.suspended = false ∧ addedPower c + powerOf s.kind ≤ 3000
    ∧ (∀ x ∈ running' c, x.kind ≠ s.kind) ∧ taken = false ∧ (heavy s.kind = true → c.pair.swap = none) ∧ c.sys.dev ≠ .faultHalt)
  ∧ (∀ c e p, (vget c.loops.eng e).st = .inService → c.ster.copied = some (e, p) → kindOk c { kind := 1, inst := e, since := 0 } = true →
    (vget c.loops.eng p).st = .pool ∧ passed c 1 p = true)

/-- Pair commands (13 R411, R412) and self-test commands (14 R427, R428).
Shown to complete: stestGetStatus, stestGetBlock, stestRun, stestSuspend, stestClearCounters, pairGetStatus, pairSwap, pairSolo,
pairClearCounters. -/
def Obligations.PairAndSelfTestCommandsAct : Prop :=
  (∀ q s x, heard 0x0D01 40 layNone q s.chip → x = s.chip.ster → Answers (.stestGetStatus q) 0x0D01 q s .ok (le 1 (b2n x.suspended)
    ++ le 1 (running' s.chip).length ++ le 2 (addedPower s.chip) ++ le 4 x.sweep
    ++ le 4 (match x.begun with | some t => (s.chip.now - t) / 1000000000 | none => 0) ++ le 2 (sweepList s.chip).length
    ++ le 2 (doneCount s.chip) ++ ((List.range 5).map (fun i => le 4 (vget x.cnt i))).flatten) s.chip)
  ∧ (∀ q s k i b, heard 0x0D02 28 (lay 2 fun b => [1 ≤ byteN b 0 && byteN b 0 ≤ 7]) q s.chip → k = byteN q.payload 0 → i = byteN q.payload 1 →
    testable s.chip k i = true → b = blockOf s.chip k i → Answers (.stestGetBlock q) 0x0D02 q s .ok (le 1 (blockSt s.chip k i) ++ le 1 b.result
      ++ le 1 b.fail ++ zeros 1 ++ le 4 b.passes ++ le 4 b.fails ++ le 4 b.abandons
      ++ le 4 (match b.passAt with | some t => min ((s.chip.now - t) / 1000000000) Config.cMax | none => Config.cMax) ++ le 4 b.sweep) s.chip)
  ∧ (∀ q s, heard 0x0D02 28 (lay 2 fun b => [1 ≤ byteN b 0 && byteN b 0 ≤ 7]) q s.chip →
    testable s.chip (byteN q.payload 0) (byteN q.payload 1) = false → Answers (.stestGetBlock q) 0x0D02 q s .badParam [] s.chip)
  ∧ (∀ q s (x : Slice) d, heard 0x0D03 8 (lay 2 fun b => [1 ≤ byteN b 0 && byteN b 0 ≤ 6]) q s.chip →
    x = { kind := byteN q.payload 0, inst := byteN q.payload 1, since := s.chip.now, outOfTurn := true } → testable s.chip x.kind x.inst = true →
    s.chip.sys.dev ≠ .faultHalt → s.chip.ster.suspended = false → (∀ y ∈ s.chip.ster.slices, y.kind ≠ x.kind) →
    d = (if x.kind = 1 ∧ s.chip.now < s.chip.t0 + Config.tDl s.chip.cfg.sys.period ∧ s.chip.ster.copied = none then
      s.chip.onSter fun t => { t with copied := (migrationSpare s.chip).map (fun p => (x.inst, p)) } else s.chip) →
    Answers (.stestRun q) 0x0D03 q s (if mayStart d x false then .ok else .queued)
      (le 4 (if mayStart d x false then (s.chip.count + 1) % 4294967296 else 0xFFFFFFFF))
      (s.chip.onSter fun t => { t with slices := x :: t.slices }))
  ∧ (∀ q s, heard 0x0D03 8 (lay 2 fun b => [1 ≤ byteN b 0 && byteN b 0 ≤ 6]) q s.chip →
    testable s.chip (byteN q.payload 0) (byteN q.payload 1) = true → s.chip.ster.suspended = true →
    Answers (.stestRun q) 0x0D03 q s .refusedState [] s.chip)
  ∧ (∀ q s, heard 0x0D03 8 (lay 2 fun b => [1 ≤ byteN b 0 && byteN b 0 ≤ 6]) q s.chip →
    testable s.chip (byteN q.payload 0) (byteN q.payload 1) = true → s.chip.sys.dev ≠ .faultHalt → s.chip.ster.suspended = false →
    (∃ y ∈ s.chip.ster.slices, y.kind = byteN q.payload 0) → Answers (.stestRun q) 0x0D03 q s .busy [] s.chip)
  ∧ (∀ q s, heard 0x0D04 4 (lay 1 fun b => [bLe b 0 1]) q s.chip → Answers (.stestSuspend q) 0x0D04 q s .ok []
    (s.chip.onSter fun x => { x with suspended := byteN q.payload 0 = 1 }))
  ∧ (∀ q s, heard 0x0D05 4 layNone q s.chip → Answers (.stestClearCounters q) 0x0D05 q s .ok []
    (s.chip.onSter fun x => { x with cnt := Vector.replicate 5 0 }))
  ∧ (∀ q s p, heard 0x0C01 48 layNone q s.chip → p = s.chip.pair → p.st.isSome → Answers (.pairGetStatus q) 0x0C01 q s .ok
    (le 1 (pairCode p.st) ++ le 1 s.chip.pairCfg.identity ++ le 1 p.partner
      ++ le 1 (bits [holdsToken s.chip, p.heart, p.link, p.partnerLost, p.quiet, p.pathLatched])
      ++ le 1 (match p.pulse with | some (k, _) => k | none => 0xFF) ++ le 1 p.lanes ++ zeros 2 ++ le 4 p.matched
      ++ ((List.range 4).map (fun i => le 4 (vget p.cnt i))).flatten
      ++ le 4 (match p.swapAt with | some t => min ((s.chip.now - t) / 1000000000) Config.cMax | none => Config.cMax)
      ++ leI 4 (satI 32 p.x) ++ leI 4 (satI 32 p.d) ++ le 1 p.absence ++ zeros 3) s.chip)
  ∧ (∀ q s, heard 0x0C01 48 layNone q s.chip → s.chip.pair.st = none → Answers (.pairGetStatus q) 0x0C01 q s .notPermitted [] s.chip)
  ∧ (∀ q s p n, heard 0x0C02 8 layNone q s.chip → p = s.chip.pair → p.st = some .primary → p.partner = 2 → p.heart = true → p.link = true →
    1024 ≤ p.matched → p.pathLatched = false → (∀ (o : Fin 8) (ch : Fin 2), (s.chip.outPair ch o).st ≠ .armed ∧ (s.chip.outPair ch o).st ≠ .offSeq) →
    (s.chip.sys.dev = .commissioning ∨ s.chip.sys.dev = .ready ∨ s.chip.sys.dev = .automatic ∨ s.chip.sys.dev = .degraded) → p.swap = none →
    n = s.chip.cyc + (if (s.chip.cyc + 2) % Config.tickCycles s.chip.cfg.sys.period = 0 then 3 else 2) →
    Answers (.pairSwap q) 0x0C02 q s .queued (le 4 (n % 4294967296)) (s.chip.onPair fun p => { p with swap := some { stage := 0, cyc := n } }))
  ∧ (∀ q s, heard 0x0C02 8 layNone q s.chip → s.chip.pair.st = some .primary → (s.chip.pair.partner ≠ 2 ∨ s.chip.pair.heart = false
    ∨ s.chip.pair.link = false ∨ s.chip.pair.matched < 1024 ∨ s.chip.pair.pathLatched = true) →
    Answers (.pairSwap q) 0x0C02 q s .refusedState [] s.chip)
  ∧ (∀ q s, heard 0x0C03 4 (lay 8 fun _ => []) q s.chip → s.chip.pair.st = some .wait → s.chip.cfg.pair.isSome →
    q.payload = fit 8 s.chip.pairCfg.partner → quietSince s.chip + s.chip.pairCfg.tPwait * 1000000 ≤ s.chip.now →
    Answers (.pairSolo q) 0x0C03 q s .ok [] (s.chip.onPair fun p => { p with alone := true }))
  ∧ (∀ q s, heard 0x0C03 4 (lay 8 fun _ => []) q s.chip → s.chip.pair.st.isSome → s.chip.cfg.pair.isSome →
    q.payload ≠ fit 8 s.chip.pairCfg.partner → Answers (.pairSolo q) 0x0C03 q s .badParam [] s.chip)
  ∧ (∀ q s, heard 0x0C04 4 layNone q s.chip → s.chip.pair.st.isSome → Answers (.pairClearCounters q) 0x0C04 q s .ok []
    (s.chip.onPair fun p => { p with cnt := Vector.replicate 4 0, pathLatched := false }))
  ∧ (∀ q s, heard 0x0C04 4 layNone q s.chip → s.chip.pair.st = none → Answers (.pairClearCounters q) 0x0C04 q s .notPermitted [] s.chip)

/-- MSI-X (15 R430): vector r serves ring r, vector 32 serves ERR_STATUS, the table lies at BAR0 offset 0x8000 and the pending-bit array
at 0x9000.
Shown to complete: interruptCoalesce, dmaErr, registerWrite, readClear. -/
def Obligations.VectorsServeRingsAndErrors : Prop :=
  (∀ (r : Fin 32) s, (vget s.chip.mb.rings r).irqEn = true → 0 < (vget s.chip.mb.rings r).unsignalled → mbit s.chip.mb.intMask r = false →
    masked s.chip.mb r = false → s.chip.pow.linkUp = true → s.chip.pow.perstLow = false →
    Runs (.interruptCoalesce r) s fun e => e.mb.irqOut = r.val :: s.chip.mb.irqOut)
  ∧ (∀ (r : Fin 32) s, (vget s.chip.mb.rings r).enable = true → mbit s.chip.mb.errMask 0 = false → masked s.chip.mb 32 = false →
    s.chip.pow.linkUp = true → s.chip.pow.perstLow = false → Runs (.dmaErr r) s fun e =>
      e.mb.irqOut = 32 :: s.chip.mb.irqOut ∧ mbit e.mb.errStatus 0 = true)
  ∧ (∀ (k : Fin 132) v s, ringsServed s.chip → ∃ t u, exec (.registerWrite (0x8000 + 4 * k.val) v 4) s = .next t
    ∧ exec (.readClear (0x8000 + 4 * k.val)) t = .next u ∧ u.chip.mb.rdata = v)
  ∧ (∀ s, pageServed s.chip → Runs (.readClear 0x9000) s fun e => e.mb.rdata = s.chip.mb.pba % 4294967296)
  ∧ (∀ s, pageServed s.chip → Runs (.readClear 0x9004) s fun e => e.mb.rdata = s.chip.mb.pba / 4294967296)

/-- Where separation periods and planner ticks start (01 R18): at each cycle with n mod (500 µs ÷ T) = 0, and n mod (1 ms ÷ T) = 0.
Shown to complete: separationPeriod, plannerTick. -/
def Obligations.PeriodsAndTicksStartOnTheirCycles : Prop :=
  ([0, 1, 2, 3].map Config.periodNs = [31250, 62500, 125000, 250000]
    ∧ [0, 1, 2, 3].map Config.sepCycles = [16, 8, 4, 2]
    ∧ ∀ k : Fin 4, Config.sepCycles k * Config.periodNs k = 500000 ∧ Config.tickCycles k * Config.periodNs k = 1000000)
  ∧ (∀ s a b w, s.chip.active = true → s.chip.cyc % Config.sepCycles s.chip.cfg.sys.period = 0 → s.chip.sep.start ≠ some (s.chip.t0, s.chip.cyc) →
    Runs (.separationPeriod (a, b) w) s fun e => e.sep.start = some (s.chip.t0, s.chip.cyc) ∧ e.sep.periods = inc s.chip.sep.periods)
  ∧ (∀ s a b w, s.chip.cyc % Config.sepCycles s.chip.cfg.sys.period ≠ 0 → Completes (.separationPeriod (a, b) w) s s.chip)
  ∧ (∀ s, s.chip.active = true → holdsToken s.chip = true → s.chip.cfg.plan.isSome → s.chip.cyc % Config.tickCycles s.chip.cfg.sys.period = 0 →
    s.chip.planner.tickAt ≠ some s.chip.cyc → Runs .plannerTick s fun e => e.planner.tickAt = some s.chip.cyc)
  ∧ (∀ s, s.chip.cyc % Config.tickCycles s.chip.cfg.sys.period ≠ 0 → Completes .plannerTick s s.chip)

/-- A step runs the command at the front of the queue with the rest of the queue, whatever the command; on an empty queue the block
idles, which is the model's choice (log 1). -/
def Obligations.StepRunsTheFrontCommand : Prop :=
  (∀ i l (s : State), step { s with pending := i :: l } = exec i { s with pending := l })
  ∧ (∀ s : State, s.pending = [] → step s = .next s)

/-- The machine after reset (01 R33, 15 R431, 17 R464, R465): the registers of the page read their reset values, the key slots and the
counters are as manufactured (the counters' 0 is the model's choice, log 7), and the invariant of the anchors holds. -/
def Obligations.ResetHoldsTheInvariants : Prop :=
  State.reset.pending = [] ∧ State.reset.chip.anchor.bounded
    ∧ State.reset.chip.anchor.keys = #v[.active, .standby, .standby] ∧ State.reset.chip.anchor.safeKeys = State.reset.chip.anchor.keys
    ∧ State.reset.chip.sys.dev = .reset ∧ State.reset.chip.sys.duhorn = false
    ∧ [0x04, 0x08, 0x0C, 0x10, 0x20, 0x24, 0x28, 0x2C, 0x30, 0x34].map (readPage State.reset.chip)
        = [0xFF01, 0x0004, 0, 0, 0, 0xFFFFFFFF, 0, 0x1F, 0, 0]
    ∧ ∀ r : Fin 32, [0x00, 0x04, 0x08, 0x0C, 0x10, 0x14, 0x18, 0x1C].map (fun o => readPage State.reset.chip (0x1000 + 64 * r.val + o))
        = [0, 0, 0x8, 0, 0, 0, 0, 0]

/-- One-time-programmable storage (17 R464, R465): whatever a step runs, no key slot of either die goes back a state and no security
version counter falls, and the counters stay within their 64 fuses. -/
def Obligations.AnchorsOnlyMoveForward : Prop :=
  ∀ s t, step s = .next t → s.chip.anchor.forward t.chip.anchor ∧ (s.chip.anchor.bounded → t.chip.anchor.bounded)

/-- What holds of every command: it runs to a next state, touches no waiting command, and time does not run back; nothing but the
metrology die's own commands changes the metrology die (12 R365); and a bit of GCOND [4:0] that the command clears is latched unless
the control die is then off or in RESET (01 R23). -/
def Obligations.EveryCommandKeepsThese : Prop :=
  ∀ i s, ∃ t, exec i s = .next t ∧ t.pending = s.pending ∧ s.chip.now ≤ t.chip.now
    ∧ (metrologyCommand i = false → t.chip.metro = s.chip.metro)
    ∧ (t.chip.sys.dev ≠ .off → t.chip.sys.dev ≠ .reset → ∀ b : Fin 5, mbit s.chip.sys.gcond b = true → mbit t.chip.sys.gcond b = false →
      mbit t.chip.sys.latch b = true)

/-- The checks that stand before a command's own (15 R434, R437, 16 R450): an opcode the ring does not accept is answered
NOT_PERMITTED before its layout is looked at, a wrong layout BAD_PARAM, and neither changes anything but the rings; a command without room
for its longest response waits; a ring out of service hears nothing. -/
def Obligations.HostChecksComeFirst : Prop :=
  (∀ op longest layout body (q : Req) s, (q.ring < 8 ∨ q.ring = 30 ∨ q.ring = 31) → serves s.chip q.ring = true →
    (vget s.chip.mb.rings q.ring).msg = none → (q.ring < 8 → ringRoom s.chip (q.ring + 8) (entriesOf longest) = true) →
    (ringAccepts s.chip.sys.duhorn q.ring op = false ∨ (pairGroup op ≠ .unitLocal ∧ holdsToken s.chip = false)) →
    ∃ t, host op longest layout body q s = .next t ∧ t.pending = s.pending ∧ Told op q .notPermitted [] s.chip t.chip ∧ Rest s.chip s.chip t.chip)
  ∧ (∀ op longest layout body (q : Req) s, (q.ring < 8 ∨ q.ring = 30 ∨ q.ring = 31) → serves s.chip q.ring = true →
    (vget s.chip.mb.rings q.ring).msg = none → (q.ring < 8 → ringRoom s.chip (q.ring + 8) (entriesOf longest) = true) →
    ringAccepts s.chip.sys.duhorn q.ring op = true → (pairGroup op = .unitLocal ∨ holdsToken s.chip = true) → layout q.payload = false →
    ∃ t, host op longest layout body q s = .next t ∧ t.pending = s.pending ∧ Told op q .badParam [] s.chip t.chip ∧ Rest s.chip s.chip t.chip)
  ∧ (∀ op longest layout body (q : Req) s, q.ring < 8 → serves s.chip q.ring = true → (vget s.chip.mb.rings q.ring).msg = none →
    ringRoom s.chip (q.ring + 8) (entriesOf longest) = false → ∃ t, host op longest layout body q s = .next t ∧ t.pending = s.pending
      ∧ Settled s.chip (onRing s.chip q.ring fun g => { g with msg := some ⟨op, q.seq, 1, q.payload⟩ }) t.chip)
  ∧ (∀ op longest layout body (q : Req) s, (q.ring < 8 ∨ q.ring = 30 ∨ q.ring = 31) → serves s.chip q.ring = false →
    ∃ t, host op longest layout body q s = .next t ∧ t.pending = s.pending ∧ Settled s.chip s.chip t.chip)

/-- Frames: what whole groups of commands leave as it is, whatever their operands. The metrology die's commands change that die and its
link; the encoder inputs, the lines; the clock's events, plant time; accesses to the register page, the mailbox with the
device word and RSTSTAT; the pair's pulses and limits, the pair; the slices' own events, the self-test. Reports to the rings come on top. -/
def Obligations.CommandsKeepToTheirState : Prop :=
  (∀ i s, metrologyCommand i = true → Confined i s fun c d => { c with now := d.now, metro := d.metro, mlink := d.mlink, free := d.free })
  ∧ (∀ (i : Instr) s, ((∃ e r p k, i = .ssiFrame e r p k) ∨ (∃ e k, i = .sourceFault e k) ∨ (∃ e k, i = .encoderWiringFault e k)
      ∨ (∃ e, i = .epwrRetry e) ∨ (∃ e a b t, i = .encoderEdge e a b t) ∨ (∃ l, i = .lineHoldoverExpiry l)) →
    Confined i s fun c d => { c with now := d.now, lt := d.lt, mb := { c.mb with out := d.mb.out } })
  ∧ (∀ (i : Instr) s, (i = .ptpHoldoverExpiry ∨ i = .crossCellHoldoverExpiry ∨ (∃ p k r q o w, i = .txTimestamp p k r q o w)) →
    Confined i s fun c d => { c with now := d.now, pt := d.pt, wire := d.wire, free := d.free })
  ∧ (∀ (i : Instr) s, ((∃ r v, i = .doorbell r v) ∨ (∃ r v, i = .consWrite r v) ∨ (∃ r v, i = .ringEnable r v) ∨ (∃ o v, i = .w1cClear o v)
      ∨ (∃ o, i = .readClear o) ∨ (∃ o v w, i = .registerWrite o v w) ∨ (∃ r, i = .interruptCoalesce r) ∨ (∃ r, i = .dmaErr r)
      ∨ (∃ r, i = .tunnelResend r) ∨ (∃ a p b, i = .tunnelDatagram a p b)) →
    Confined i s fun c d => { c with now := d.now, mb := d.mb, sys := { c.sys with latch := d.sys.latch }, pow := d.pow })
  ∧ (∀ (i : Instr) s, ((∃ w, i = .interlockPulse w) ∨ i = .heartbeatLost ∨ i = .pairLinkLost ∨ (∃ l u, i = .pairLaneStateChange l u)
      ∨ i = .isolationExpiry ∨ i = .partnerWaitExpiry ∨ i = .digestCompare ∨ i = .swapConfirm) →
    Confined i s fun c d => { c with now := d.now, pair := d.pair, mb := { c.mb with out := d.mb.out } })
  ∧ (∀ (i : Instr) s, (i = .sliceDue ∨ i = .sliceSkipped ∨ i = .plannedMigration ∨ i = .laneHoldEnd ∨ (∃ k n, i = .rxMismatch k n)) →
    Confined i s fun c d => { c with now := d.now, ster := d.ster, mb := { c.mb with out := d.mb.out } })
end

