-- ==== Sys2Proof/Laws/State.lean ====
section
/-!
SUPPORT. What each update of one unit does to each field of the module: one lemma per field per update, true by rfl.
-/

namespace Sys2Proof.Machine

variable (c : Chip)

/-! ### onSys -/

@[simp] theorem Chip.onSys_now (f : Sys → Sys) : (c.onSys f).now = c.now := rfl
@[simp] theorem Chip.onSys_ptOff (f : Sys → Sys) : (c.onSys f).ptOff = c.ptOff := rfl
@[simp] theorem Chip.onSys_cyc (f : Sys → Sys) : (c.onSys f).cyc = c.cyc := rfl
@[simp] theorem Chip.onSys_t0 (f : Sys → Sys) : (c.onSys f).t0 = c.t0 := rfl
@[simp] theorem Chip.onSys_cfg (f : Sys → Sys) : (c.onSys f).cfg = c.cfg := rfl
@[simp] theorem Chip.onSys_active (f : Sys → Sys) : (c.onSys f).active = c.active := rfl
@[simp] theorem Chip.onSys_sys (f : Sys → Sys) : (c.onSys f).sys = f c.sys := rfl
@[simp] theorem Chip.onSys_pow (f : Sys → Sys) : (c.onSys f).pow = c.pow := rfl
@[simp] theorem Chip.onSys_mb (f : Sys → Sys) : (c.onSys f).mb = c.mb := rfl
@[simp] theorem Chip.onSys_anchor (f : Sys → Sys) : (c.onSys f).anchor = c.anchor := rfl
@[simp] theorem Chip.onSys_boot (f : Sys → Sys) : (c.onSys f).boot = c.boot := rfl
@[simp] theorem Chip.onSys_lt (f : Sys → Sys) : (c.onSys f).lt = c.lt := rfl
@[simp] theorem Chip.onSys_pt (f : Sys → Sys) : (c.onSys f).pt = c.pt := rfl
@[simp] theorem Chip.onSys_star (f : Sys → Sys) : (c.onSys f).star = c.star := rfl
@[simp] theorem Chip.onSys_loops (f : Sys → Sys) : (c.onSys f).loops = c.loops := rfl
@[simp] theorem Chip.onSys_joints (f : Sys → Sys) : (c.onSys f).joints = c.joints := rfl
@[simp] theorem Chip.onSys_solver (f : Sys → Sys) : (c.onSys f).solver = c.solver := rfl
@[simp] theorem Chip.onSys_planner (f : Sys → Sys) : (c.onSys f).planner = c.planner := rfl
@[simp] theorem Chip.onSys_prof (f : Sys → Sys) : (c.onSys f).prof = c.prof := rfl
@[simp] theorem Chip.onSys_sep (f : Sys → Sys) : (c.onSys f).sep = c.sep := rfl
@[simp] theorem Chip.onSys_sio (f : Sys → Sys) : (c.onSys f).sio = c.sio := rfl
@[simp] theorem Chip.onSys_metro (f : Sys → Sys) : (c.onSys f).metro = c.metro := rfl
@[simp] theorem Chip.onSys_mlink (f : Sys → Sys) : (c.onSys f).mlink = c.mlink := rfl
@[simp] theorem Chip.onSys_pair (f : Sys → Sys) : (c.onSys f).pair = c.pair := rfl
@[simp] theorem Chip.onSys_ster (f : Sys → Sys) : (c.onSys f).ster = c.ster := rfl
@[simp] theorem Chip.onSys_deferB (f : Sys → Sys) : (c.onSys f).deferB = c.deferB := rfl
@[simp] theorem Chip.onSys_deferP (f : Sys → Sys) : (c.onSys f).deferP = c.deferP := rfl
@[simp] theorem Chip.onSys_wire (f : Sys → Sys) : (c.onSys f).wire = c.wire := rfl
@[simp] theorem Chip.onSys_free (f : Sys → Sys) : (c.onSys f).free = c.free := rfl

/-! ### onPow -/

@[simp] theorem Chip.onPow_now (f : Power → Power) : (c.onPow f).now = c.now := rfl
@[simp] theorem Chip.onPow_ptOff (f : Power → Power) : (c.onPow f).ptOff = c.ptOff := rfl
@[simp] theorem Chip.onPow_cyc (f : Power → Power) : (c.onPow f).cyc = c.cyc := rfl
@[simp] theorem Chip.onPow_t0 (f : Power → Power) : (c.onPow f).t0 = c.t0 := rfl
@[simp] theorem Chip.onPow_cfg (f : Power → Power) : (c.onPow f).cfg = c.cfg := rfl
@[simp] theorem Chip.onPow_active (f : Power → Power) : (c.onPow f).active = c.active := rfl
@[simp] theorem Chip.onPow_sys (f : Power → Power) : (c.onPow f).sys = c.sys := rfl
@[simp] theorem Chip.onPow_pow (f : Power → Power) : (c.onPow f).pow = f c.pow := rfl
@[simp] theorem Chip.onPow_mb (f : Power → Power) : (c.onPow f).mb = c.mb := rfl
@[simp] theorem Chip.onPow_anchor (f : Power → Power) : (c.onPow f).anchor = c.anchor := rfl
@[simp] theorem Chip.onPow_boot (f : Power → Power) : (c.onPow f).boot = c.boot := rfl
@[simp] theorem Chip.onPow_lt (f : Power → Power) : (c.onPow f).lt = c.lt := rfl
@[simp] theorem Chip.onPow_pt (f : Power → Power) : (c.onPow f).pt = c.pt := rfl
@[simp] theorem Chip.onPow_star (f : Power → Power) : (c.onPow f).star = c.star := rfl
@[simp] theorem Chip.onPow_loops (f : Power → Power) : (c.onPow f).loops = c.loops := rfl
@[simp] theorem Chip.onPow_joints (f : Power → Power) : (c.onPow f).joints = c.joints := rfl
@[simp] theorem Chip.onPow_solver (f : Power → Power) : (c.onPow f).solver = c.solver := rfl
@[simp] theorem Chip.onPow_planner (f : Power → Power) : (c.onPow f).planner = c.planner := rfl
@[simp] theorem Chip.onPow_prof (f : Power → Power) : (c.onPow f).prof = c.prof := rfl
@[simp] theorem Chip.onPow_sep (f : Power → Power) : (c.onPow f).sep = c.sep := rfl
@[simp] theorem Chip.onPow_sio (f : Power → Power) : (c.onPow f).sio = c.sio := rfl
@[simp] theorem Chip.onPow_metro (f : Power → Power) : (c.onPow f).metro = c.metro := rfl
@[simp] theorem Chip.onPow_mlink (f : Power → Power) : (c.onPow f).mlink = c.mlink := rfl
@[simp] theorem Chip.onPow_pair (f : Power → Power) : (c.onPow f).pair = c.pair := rfl
@[simp] theorem Chip.onPow_ster (f : Power → Power) : (c.onPow f).ster = c.ster := rfl
@[simp] theorem Chip.onPow_deferB (f : Power → Power) : (c.onPow f).deferB = c.deferB := rfl
@[simp] theorem Chip.onPow_deferP (f : Power → Power) : (c.onPow f).deferP = c.deferP := rfl
@[simp] theorem Chip.onPow_wire (f : Power → Power) : (c.onPow f).wire = c.wire := rfl
@[simp] theorem Chip.onPow_free (f : Power → Power) : (c.onPow f).free = c.free := rfl

/-! ### onMb -/

@[simp] theorem Chip.onMb_now (f : Mailbox → Mailbox) : (c.onMb f).now = c.now := rfl
@[simp] theorem Chip.onMb_ptOff (f : Mailbox → Mailbox) : (c.onMb f).ptOff = c.ptOff := rfl
@[simp] theorem Chip.onMb_cyc (f : Mailbox → Mailbox) : (c.onMb f).cyc = c.cyc := rfl
@[simp] theorem Chip.onMb_t0 (f : Mailbox → Mailbox) : (c.onMb f).t0 = c.t0 := rfl
@[simp] theorem Chip.onMb_cfg (f : Mailbox → Mailbox) : (c.onMb f).cfg = c.cfg := rfl
@[simp] theorem Chip.onMb_active (f : Mailbox → Mailbox) : (c.onMb f).active = c.active := rfl
@[simp] theorem Chip.onMb_sys (f : Mailbox → Mailbox) : (c.onMb f).sys = c.sys := rfl
@[simp] theorem Chip.onMb_pow (f : Mailbox → Mailbox) : (c.onMb f).pow = c.pow := rfl
@[simp] theorem Chip.onMb_mb (f : Mailbox → Mailbox) : (c.onMb f).mb = f c.mb := rfl
@[simp] theorem Chip.onMb_anchor (f : Mailbox → Mailbox) : (c.onMb f).anchor = c.anchor := rfl
@[simp] theorem Chip.onMb_boot (f : Mailbox → Mailbox) : (c.onMb f).boot = c.boot := rfl
@[simp] theorem Chip.onMb_lt (f : Mailbox → Mailbox) : (c.onMb f).lt = c.lt := rfl
@[simp] theorem Chip.onMb_pt (f : Mailbox → Mailbox) : (c.onMb f).pt = c.pt := rfl
@[simp] theorem Chip.onMb_star (f : Mailbox → Mailbox) : (c.onMb f).star = c.star := rfl
@[simp] theorem Chip.onMb_loops (f : Mailbox → Mailbox) : (c.onMb f).loops = c.loops := rfl
@[simp] theorem Chip.onMb_joints (f : Mailbox → Mailbox) : (c.onMb f).joints = c.joints := rfl
@[simp] theorem Chip.onMb_solver (f : Mailbox → Mailbox) : (c.onMb f).solver = c.solver := rfl
@[simp] theorem Chip.onMb_planner (f : Mailbox → Mailbox) : (c.onMb f).planner = c.planner := rfl
@[simp] theorem Chip.onMb_prof (f : Mailbox → Mailbox) : (c.onMb f).prof = c.prof := rfl
@[simp] theorem Chip.onMb_sep (f : Mailbox → Mailbox) : (c.onMb f).sep = c.sep := rfl
@[simp] theorem Chip.onMb_sio (f : Mailbox → Mailbox) : (c.onMb f).sio = c.sio := rfl
@[simp] theorem Chip.onMb_metro (f : Mailbox → Mailbox) : (c.onMb f).metro = c.metro := rfl
@[simp] theorem Chip.onMb_mlink (f : Mailbox → Mailbox) : (c.onMb f).mlink = c.mlink := rfl
@[simp] theorem Chip.onMb_pair (f : Mailbox → Mailbox) : (c.onMb f).pair = c.pair := rfl
@[simp] theorem Chip.onMb_ster (f : Mailbox → Mailbox) : (c.onMb f).ster = c.ster := rfl
@[simp] theorem Chip.onMb_deferB (f : Mailbox → Mailbox) : (c.onMb f).deferB = c.deferB := rfl
@[simp] theorem Chip.onMb_deferP (f : Mailbox → Mailbox) : (c.onMb f).deferP = c.deferP := rfl
@[simp] theorem Chip.onMb_wire (f : Mailbox → Mailbox) : (c.onMb f).wire = c.wire := rfl
@[simp] theorem Chip.onMb_free (f : Mailbox → Mailbox) : (c.onMb f).free = c.free := rfl

/-! ### onBoot -/

@[simp] theorem Chip.onBoot_now (f : Boot → Boot) : (c.onBoot f).now = c.now := rfl
@[simp] theorem Chip.onBoot_ptOff (f : Boot → Boot) : (c.onBoot f).ptOff = c.ptOff := rfl
@[simp] theorem Chip.onBoot_cyc (f : Boot → Boot) : (c.onBoot f).cyc = c.cyc := rfl
@[simp] theorem Chip.onBoot_t0 (f : Boot → Boot) : (c.onBoot f).t0 = c.t0 := rfl
@[simp] theorem Chip.onBoot_cfg (f : Boot → Boot) : (c.onBoot f).cfg = c.cfg := rfl
@[simp] theorem Chip.onBoot_active (f : Boot → Boot) : (c.onBoot f).active = c.active := rfl
@[simp] theorem Chip.onBoot_sys (f : Boot → Boot) : (c.onBoot f).sys = c.sys := rfl
@[simp] theorem Chip.onBoot_pow (f : Boot → Boot) : (c.onBoot f).pow = c.pow := rfl
@[simp] theorem Chip.onBoot_mb (f : Boot → Boot) : (c.onBoot f).mb = c.mb := rfl
@[simp] theorem Chip.onBoot_anchor (f : Boot → Boot) : (c.onBoot f).anchor = c.anchor := rfl
@[simp] theorem Chip.onBoot_boot (f : Boot → Boot) : (c.onBoot f).boot = f c.boot := rfl
@[simp] theorem Chip.onBoot_lt (f : Boot → Boot) : (c.onBoot f).lt = c.lt := rfl
@[simp] theorem Chip.onBoot_pt (f : Boot → Boot) : (c.onBoot f).pt = c.pt := rfl
@[simp] theorem Chip.onBoot_star (f : Boot → Boot) : (c.onBoot f).star = c.star := rfl
@[simp] theorem Chip.onBoot_loops (f : Boot → Boot) : (c.onBoot f).loops = c.loops := rfl
@[simp] theorem Chip.onBoot_joints (f : Boot → Boot) : (c.onBoot f).joints = c.joints := rfl
@[simp] theorem Chip.onBoot_solver (f : Boot → Boot) : (c.onBoot f).solver = c.solver := rfl
@[simp] theorem Chip.onBoot_planner (f : Boot → Boot) : (c.onBoot f).planner = c.planner := rfl
@[simp] theorem Chip.onBoot_prof (f : Boot → Boot) : (c.onBoot f).prof = c.prof := rfl
@[simp] theorem Chip.onBoot_sep (f : Boot → Boot) : (c.onBoot f).sep = c.sep := rfl
@[simp] theorem Chip.onBoot_sio (f : Boot → Boot) : (c.onBoot f).sio = c.sio := rfl
@[simp] theorem Chip.onBoot_metro (f : Boot → Boot) : (c.onBoot f).metro = c.metro := rfl
@[simp] theorem Chip.onBoot_mlink (f : Boot → Boot) : (c.onBoot f).mlink = c.mlink := rfl
@[simp] theorem Chip.onBoot_pair (f : Boot → Boot) : (c.onBoot f).pair = c.pair := rfl
@[simp] theorem Chip.onBoot_ster (f : Boot → Boot) : (c.onBoot f).ster = c.ster := rfl
@[simp] theorem Chip.onBoot_deferB (f : Boot → Boot) : (c.onBoot f).deferB = c.deferB := rfl
@[simp] theorem Chip.onBoot_deferP (f : Boot → Boot) : (c.onBoot f).deferP = c.deferP := rfl
@[simp] theorem Chip.onBoot_wire (f : Boot → Boot) : (c.onBoot f).wire = c.wire := rfl
@[simp] theorem Chip.onBoot_free (f : Boot → Boot) : (c.onBoot f).free = c.free := rfl

/-! ### onLt -/

@[simp] theorem Chip.onLt_now (f : LineTime → LineTime) : (c.onLt f).now = c.now := rfl
@[simp] theorem Chip.onLt_ptOff (f : LineTime → LineTime) : (c.onLt f).ptOff = c.ptOff := rfl
@[simp] theorem Chip.onLt_cyc (f : LineTime → LineTime) : (c.onLt f).cyc = c.cyc := rfl
@[simp] theorem Chip.onLt_t0 (f : LineTime → LineTime) : (c.onLt f).t0 = c.t0 := rfl
@[simp] theorem Chip.onLt_cfg (f : LineTime → LineTime) : (c.onLt f).cfg = c.cfg := rfl
@[simp] theorem Chip.onLt_active (f : LineTime → LineTime) : (c.onLt f).active = c.active := rfl
@[simp] theorem Chip.onLt_sys (f : LineTime → LineTime) : (c.onLt f).sys = c.sys := rfl
@[simp] theorem Chip.onLt_pow (f : LineTime → LineTime) : (c.onLt f).pow = c.pow := rfl
@[simp] theorem Chip.onLt_mb (f : LineTime → LineTime) : (c.onLt f).mb = c.mb := rfl
@[simp] theorem Chip.onLt_anchor (f : LineTime → LineTime) : (c.onLt f).anchor = c.anchor := rfl
@[simp] theorem Chip.onLt_boot (f : LineTime → LineTime) : (c.onLt f).boot = c.boot := rfl
@[simp] theorem Chip.onLt_lt (f : LineTime → LineTime) : (c.onLt f).lt = f c.lt := rfl
@[simp] theorem Chip.onLt_pt (f : LineTime → LineTime) : (c.onLt f).pt = c.pt := rfl
@[simp] theorem Chip.onLt_star (f : LineTime → LineTime) : (c.onLt f).star = c.star := rfl
@[simp] theorem Chip.onLt_loops (f : LineTime → LineTime) : (c.onLt f).loops = c.loops := rfl
@[simp] theorem Chip.onLt_joints (f : LineTime → LineTime) : (c.onLt f).joints = c.joints := rfl
@[simp] theorem Chip.onLt_solver (f : LineTime → LineTime) : (c.onLt f).solver = c.solver := rfl
@[simp] theorem Chip.onLt_planner (f : LineTime → LineTime) : (c.onLt f).planner = c.planner := rfl
@[simp] theorem Chip.onLt_prof (f : LineTime → LineTime) : (c.onLt f).prof = c.prof := rfl
@[simp] theorem Chip.onLt_sep (f : LineTime → LineTime) : (c.onLt f).sep = c.sep := rfl
@[simp] theorem Chip.onLt_sio (f : LineTime → LineTime) : (c.onLt f).sio = c.sio := rfl
@[simp] theorem Chip.onLt_metro (f : LineTime → LineTime) : (c.onLt f).metro = c.metro := rfl
@[simp] theorem Chip.onLt_mlink (f : LineTime → LineTime) : (c.onLt f).mlink = c.mlink := rfl
@[simp] theorem Chip.onLt_pair (f : LineTime → LineTime) : (c.onLt f).pair = c.pair := rfl
@[simp] theorem Chip.onLt_ster (f : LineTime → LineTime) : (c.onLt f).ster = c.ster := rfl
@[simp] theorem Chip.onLt_deferB (f : LineTime → LineTime) : (c.onLt f).deferB = c.deferB := rfl
@[simp] theorem Chip.onLt_deferP (f : LineTime → LineTime) : (c.onLt f).deferP = c.deferP := rfl
@[simp] theorem Chip.onLt_wire (f : LineTime → LineTime) : (c.onLt f).wire = c.wire := rfl
@[simp] theorem Chip.onLt_free (f : LineTime → LineTime) : (c.onLt f).free = c.free := rfl

/-! ### onPt -/

@[simp] theorem Chip.onPt_now (f : Ptime → Ptime) : (c.onPt f).now = c.now := rfl
@[simp] theorem Chip.onPt_ptOff (f : Ptime → Ptime) : (c.onPt f).ptOff = c.ptOff := rfl
@[simp] theorem Chip.onPt_cyc (f : Ptime → Ptime) : (c.onPt f).cyc = c.cyc := rfl
@[simp] theorem Chip.onPt_t0 (f : Ptime → Ptime) : (c.onPt f).t0 = c.t0 := rfl
@[simp] theorem Chip.onPt_cfg (f : Ptime → Ptime) : (c.onPt f).cfg = c.cfg := rfl
@[simp] theorem Chip.onPt_active (f : Ptime → Ptime) : (c.onPt f).active = c.active := rfl
@[simp] theorem Chip.onPt_sys (f : Ptime → Ptime) : (c.onPt f).sys = c.sys := rfl
@[simp] theorem Chip.onPt_pow (f : Ptime → Ptime) : (c.onPt f).pow = c.pow := rfl
@[simp] theorem Chip.onPt_mb (f : Ptime → Ptime) : (c.onPt f).mb = c.mb := rfl
@[simp] theorem Chip.onPt_anchor (f : Ptime → Ptime) : (c.onPt f).anchor = c.anchor := rfl
@[simp] theorem Chip.onPt_boot (f : Ptime → Ptime) : (c.onPt f).boot = c.boot := rfl
@[simp] theorem Chip.onPt_lt (f : Ptime → Ptime) : (c.onPt f).lt = c.lt := rfl
@[simp] theorem Chip.onPt_pt (f : Ptime → Ptime) : (c.onPt f).pt = f c.pt := rfl
@[simp] theorem Chip.onPt_star (f : Ptime → Ptime) : (c.onPt f).star = c.star := rfl
@[simp] theorem Chip.onPt_loops (f : Ptime → Ptime) : (c.onPt f).loops = c.loops := rfl
@[simp] theorem Chip.onPt_joints (f : Ptime → Ptime) : (c.onPt f).joints = c.joints := rfl
@[simp] theorem Chip.onPt_solver (f : Ptime → Ptime) : (c.onPt f).solver = c.solver := rfl
@[simp] theorem Chip.onPt_planner (f : Ptime → Ptime) : (c.onPt f).planner = c.planner := rfl
@[simp] theorem Chip.onPt_prof (f : Ptime → Ptime) : (c.onPt f).prof = c.prof := rfl
@[simp] theorem Chip.onPt_sep (f : Ptime → Ptime) : (c.onPt f).sep = c.sep := rfl
@[simp] theorem Chip.onPt_sio (f : Ptime → Ptime) : (c.onPt f).sio = c.sio := rfl
@[simp] theorem Chip.onPt_metro (f : Ptime → Ptime) : (c.onPt f).metro = c.metro := rfl
@[simp] theorem Chip.onPt_mlink (f : Ptime → Ptime) : (c.onPt f).mlink = c.mlink := rfl
@[simp] theorem Chip.onPt_pair (f : Ptime → Ptime) : (c.onPt f).pair = c.pair := rfl
@[simp] theorem Chip.onPt_ster (f : Ptime → Ptime) : (c.onPt f).ster = c.ster := rfl
@[simp] theorem Chip.onPt_deferB (f : Ptime → Ptime) : (c.onPt f).deferB = c.deferB := rfl
@[simp] theorem Chip.onPt_deferP (f : Ptime → Ptime) : (c.onPt f).deferP = c.deferP := rfl
@[simp] theorem Chip.onPt_wire (f : Ptime → Ptime) : (c.onPt f).wire = c.wire := rfl
@[simp] theorem Chip.onPt_free (f : Ptime → Ptime) : (c.onPt f).free = c.free := rfl

/-! ### onStar -/

@[simp] theorem Chip.onStar_now (f : Star → Star) : (c.onStar f).now = c.now := rfl
@[simp] theorem Chip.onStar_ptOff (f : Star → Star) : (c.onStar f).ptOff = c.ptOff := rfl
@[simp] theorem Chip.onStar_cyc (f : Star → Star) : (c.onStar f).cyc = c.cyc := rfl
@[simp] theorem Chip.onStar_t0 (f : Star → Star) : (c.onStar f).t0 = c.t0 := rfl
@[simp] theorem Chip.onStar_cfg (f : Star → Star) : (c.onStar f).cfg = c.cfg := rfl
@[simp] theorem Chip.onStar_active (f : Star → Star) : (c.onStar f).active = c.active := rfl
@[simp] theorem Chip.onStar_sys (f : Star → Star) : (c.onStar f).sys = c.sys := rfl
@[simp] theorem Chip.onStar_pow (f : Star → Star) : (c.onStar f).pow = c.pow := rfl
@[simp] theorem Chip.onStar_mb (f : Star → Star) : (c.onStar f).mb = c.mb := rfl
@[simp] theorem Chip.onStar_anchor (f : Star → Star) : (c.onStar f).anchor = c.anchor := rfl
@[simp] theorem Chip.onStar_boot (f : Star → Star) : (c.onStar f).boot = c.boot := rfl
@[simp] theorem Chip.onStar_lt (f : Star → Star) : (c.onStar f).lt = c.lt := rfl
@[simp] theorem Chip.onStar_pt (f : Star → Star) : (c.onStar f).pt = c.pt := rfl
@[simp] theorem Chip.onStar_star (f : Star → Star) : (c.onStar f).star = f c.star := rfl
@[simp] theorem Chip.onStar_loops (f : Star → Star) : (c.onStar f).loops = c.loops := rfl
@[simp] theorem Chip.onStar_joints (f : Star → Star) : (c.onStar f).joints = c.joints := rfl
@[simp] theorem Chip.onStar_solver (f : Star → Star) : (c.onStar f).solver = c.solver := rfl
@[simp] theorem Chip.onStar_planner (f : Star → Star) : (c.onStar f).planner = c.planner := rfl
@[simp] theorem Chip.onStar_prof (f : Star → Star) : (c.onStar f).prof = c.prof := rfl
@[simp] theorem Chip.onStar_sep (f : Star → Star) : (c.onStar f).sep = c.sep := rfl
@[simp] theorem Chip.onStar_sio (f : Star → Star) : (c.onStar f).sio = c.sio := rfl
@[simp] theorem Chip.onStar_metro (f : Star → Star) : (c.onStar f).metro = c.metro := rfl
@[simp] theorem Chip.onStar_mlink (f : Star → Star) : (c.onStar f).mlink = c.mlink := rfl
@[simp] theorem Chip.onStar_pair (f : Star → Star) : (c.onStar f).pair = c.pair := rfl
@[simp] theorem Chip.onStar_ster (f : Star → Star) : (c.onStar f).ster = c.ster := rfl
@[simp] theorem Chip.onStar_deferB (f : Star → Star) : (c.onStar f).deferB = c.deferB := rfl
@[simp] theorem Chip.onStar_deferP (f : Star → Star) : (c.onStar f).deferP = c.deferP := rfl
@[simp] theorem Chip.onStar_wire (f : Star → Star) : (c.onStar f).wire = c.wire := rfl
@[simp] theorem Chip.onStar_free (f : Star → Star) : (c.onStar f).free = c.free := rfl

/-! ### onLoops -/

@[simp] theorem Chip.onLoops_now (f : Loops → Loops) : (c.onLoops f).now = c.now := rfl
@[simp] theorem Chip.onLoops_ptOff (f : Loops → Loops) : (c.onLoops f).ptOff = c.ptOff := rfl
@[simp] theorem Chip.onLoops_cyc (f : Loops → Loops) : (c.onLoops f).cyc = c.cyc := rfl
@[simp] theorem Chip.onLoops_t0 (f : Loops → Loops) : (c.onLoops f).t0 = c.t0 := rfl
@[simp] theorem Chip.onLoops_cfg (f : Loops → Loops) : (c.onLoops f).cfg = c.cfg := rfl
@[simp] theorem Chip.onLoops_active (f : Loops → Loops) : (c.onLoops f).active = c.active := rfl
@[simp] theorem Chip.onLoops_sys (f : Loops → Loops) : (c.onLoops f).sys = c.sys := rfl
@[simp] theorem Chip.onLoops_pow (f : Loops → Loops) : (c.onLoops f).pow = c.pow := rfl
@[simp] theorem Chip.onLoops_mb (f : Loops → Loops) : (c.onLoops f).mb = c.mb := rfl
@[simp] theorem Chip.onLoops_anchor (f : Loops → Loops) : (c.onLoops f).anchor = c.anchor := rfl
@[simp] theorem Chip.onLoops_boot (f : Loops → Loops) : (c.onLoops f).boot = c.boot := rfl
@[simp] theorem Chip.onLoops_lt (f : Loops → Loops) : (c.onLoops f).lt = c.lt := rfl
@[simp] theorem Chip.onLoops_pt (f : Loops → Loops) : (c.onLoops f).pt = c.pt := rfl
@[simp] theorem Chip.onLoops_star (f : Loops → Loops) : (c.onLoops f).star = c.star := rfl
@[simp] theorem Chip.onLoops_loops (f : Loops → Loops) : (c.onLoops f).loops = f c.loops := rfl
@[simp] theorem Chip.onLoops_joints (f : Loops → Loops) : (c.onLoops f).joints = c.joints := rfl
@[simp] theorem Chip.onLoops_solver (f : Loops → Loops) : (c.onLoops f).solver = c.solver := rfl
@[simp] theorem Chip.onLoops_planner (f : Loops → Loops) : (c.onLoops f).planner = c.planner := rfl
@[simp] theorem Chip.onLoops_prof (f : Loops → Loops) : (c.onLoops f).prof = c.prof := rfl
@[simp] theorem Chip.onLoops_sep (f : Loops → Loops) : (c.onLoops f).sep = c.sep := rfl
@[simp] theorem Chip.onLoops_sio (f : Loops → Loops) : (c.onLoops f).sio = c.sio := rfl
@[simp] theorem Chip.onLoops_metro (f : Loops → Loops) : (c.onLoops f).metro = c.metro := rfl
@[simp] theorem Chip.onLoops_mlink (f : Loops → Loops) : (c.onLoops f).mlink = c.mlink := rfl
@[simp] theorem Chip.onLoops_pair (f : Loops → Loops) : (c.onLoops f).pair = c.pair := rfl
@[simp] theorem Chip.onLoops_ster (f : Loops → Loops) : (c.onLoops f).ster = c.ster := rfl
@[simp] theorem Chip.onLoops_deferB (f : Loops → Loops) : (c.onLoops f).deferB = c.deferB := rfl
@[simp] theorem Chip.onLoops_deferP (f : Loops → Loops) : (c.onLoops f).deferP = c.deferP := rfl
@[simp] theorem Chip.onLoops_wire (f : Loops → Loops) : (c.onLoops f).wire = c.wire := rfl
@[simp] theorem Chip.onLoops_free (f : Loops → Loops) : (c.onLoops f).free = c.free := rfl

/-! ### onJoints -/

@[simp] theorem Chip.onJoints_now (f : Joints → Joints) : (c.onJoints f).now = c.now := rfl
@[simp] theorem Chip.onJoints_ptOff (f : Joints → Joints) : (c.onJoints f).ptOff = c.ptOff := rfl
@[simp] theorem Chip.onJoints_cyc (f : Joints → Joints) : (c.onJoints f).cyc = c.cyc := rfl
@[simp] theorem Chip.onJoints_t0 (f : Joints → Joints) : (c.onJoints f).t0 = c.t0 := rfl
@[simp] theorem Chip.onJoints_cfg (f : Joints → Joints) : (c.onJoints f).cfg = c.cfg := rfl
@[simp] theorem Chip.onJoints_active (f : Joints → Joints) : (c.onJoints f).active = c.active := rfl
@[simp] theorem Chip.onJoints_sys (f : Joints → Joints) : (c.onJoints f).sys = c.sys := rfl
@[simp] theorem Chip.onJoints_pow (f : Joints → Joints) : (c.onJoints f).pow = c.pow := rfl
@[simp] theorem Chip.onJoints_mb (f : Joints → Joints) : (c.onJoints f).mb = c.mb := rfl
@[simp] theorem Chip.onJoints_anchor (f : Joints → Joints) : (c.onJoints f).anchor = c.anchor := rfl
@[simp] theorem Chip.onJoints_boot (f : Joints → Joints) : (c.onJoints f).boot = c.boot := rfl
@[simp] theorem Chip.onJoints_lt (f : Joints → Joints) : (c.onJoints f).lt = c.lt := rfl
@[simp] theorem Chip.onJoints_pt (f : Joints → Joints) : (c.onJoints f).pt = c.pt := rfl
@[simp] theorem Chip.onJoints_star (f : Joints → Joints) : (c.onJoints f).star = c.star := rfl
@[simp] theorem Chip.onJoints_loops (f : Joints → Joints) : (c.onJoints f).loops = c.loops := rfl
@[simp] theorem Chip.onJoints_joints (f : Joints → Joints) : (c.onJoints f).joints = f c.joints := rfl
@[simp] theorem Chip.onJoints_solver (f : Joints → Joints) : (c.onJoints f).solver = c.solver := rfl
@[simp] theorem Chip.onJoints_planner (f : Joints → Joints) : (c.onJoints f).planner = c.planner := rfl
@[simp] theorem Chip.onJoints_prof (f : Joints → Joints) : (c.onJoints f).prof = c.prof := rfl
@[simp] theorem Chip.onJoints_sep (f : Joints → Joints) : (c.onJoints f).sep = c.sep := rfl
@[simp] theorem Chip.onJoints_sio (f : Joints → Joints) : (c.onJoints f).sio = c.sio := rfl
@[simp] theorem Chip.onJoints_metro (f : Joints → Joints) : (c.onJoints f).metro = c.metro := rfl
@[simp] theorem Chip.onJoints_mlink (f : Joints → Joints) : (c.onJoints f).mlink = c.mlink := rfl
@[simp] theorem Chip.onJoints_pair (f : Joints → Joints) : (c.onJoints f).pair = c.pair := rfl
@[simp] theorem Chip.onJoints_ster (f : Joints → Joints) : (c.onJoints f).ster = c.ster := rfl
@[simp] theorem Chip.onJoints_deferB (f : Joints → Joints) : (c.onJoints f).deferB = c.deferB := rfl
@[simp] theorem Chip.onJoints_deferP (f : Joints → Joints) : (c.onJoints f).deferP = c.deferP := rfl
@[simp] theorem Chip.onJoints_wire (f : Joints → Joints) : (c.onJoints f).wire = c.wire := rfl
@[simp] theorem Chip.onJoints_free (f : Joints → Joints) : (c.onJoints f).free = c.free := rfl

/-! ### onSolver -/

@[simp] theorem Chip.onSolver_now (f : Solver → Solver) : (c.onSolver f).now = c.now := rfl
@[simp] theorem Chip.onSolver_ptOff (f : Solver → Solver) : (c.onSolver f).ptOff = c.ptOff := rfl
@[simp] theorem Chip.onSolver_cyc (f : Solver → Solver) : (c.onSolver f).cyc = c.cyc := rfl
@[simp] theorem Chip.onSolver_t0 (f : Solver → Solver) : (c.onSolver f).t0 = c.t0 := rfl
@[simp] theorem Chip.onSolver_cfg (f : Solver → Solver) : (c.onSolver f).cfg = c.cfg := rfl
@[simp] theorem Chip.onSolver_active (f : Solver → Solver) : (c.onSolver f).active = c.active := rfl
@[simp] theorem Chip.onSolver_sys (f : Solver → Solver) : (c.onSolver f).sys = c.sys := rfl
@[simp] theorem Chip.onSolver_pow (f : Solver → Solver) : (c.onSolver f).pow = c.pow := rfl
@[simp] theorem Chip.onSolver_mb (f : Solver → Solver) : (c.onSolver f).mb = c.mb := rfl
@[simp] theorem Chip.onSolver_anchor (f : Solver → Solver) : (c.onSolver f).anchor = c.anchor := rfl
@[simp] theorem Chip.onSolver_boot (f : Solver → Solver) : (c.onSolver f).boot = c.boot := rfl
@[simp] theorem Chip.onSolver_lt (f : Solver → Solver) : (c.onSolver f).lt = c.lt := rfl
@[simp] theorem Chip.onSolver_pt (f : Solver → Solver) : (c.onSolver f).pt = c.pt := rfl
@[simp] theorem Chip.onSolver_star (f : Solver → Solver) : (c.onSolver f).star = c.star := rfl
@[simp] theorem Chip.onSolver_loops (f : Solver → Solver) : (c.onSolver f).loops = c.loops := rfl
@[simp] theorem Chip.onSolver_joints (f : Solver → Solver) : (c.onSolver f).joints = c.joints := rfl
@[simp] theorem Chip.onSolver_solver (f : Solver → Solver) : (c.onSolver f).solver = f c.solver := rfl
@[simp] theorem Chip.onSolver_planner (f : Solver → Solver) : (c.onSolver f).planner = c.planner := rfl
@[simp] theorem Chip.onSolver_prof (f : Solver → Solver) : (c.onSolver f).prof = c.prof := rfl
@[simp] theorem Chip.onSolver_sep (f : Solver → Solver) : (c.onSolver f).sep = c.sep := rfl
@[simp] theorem Chip.onSolver_sio (f : Solver → Solver) : (c.onSolver f).sio = c.sio := rfl
@[simp] theorem Chip.onSolver_metro (f : Solver → Solver) : (c.onSolver f).metro = c.metro := rfl
@[simp] theorem Chip.onSolver_mlink (f : Solver → Solver) : (c.onSolver f).mlink = c.mlink := rfl
@[simp] theorem Chip.onSolver_pair (f : Solver → Solver) : (c.onSolver f).pair = c.pair := rfl
@[simp] theorem Chip.onSolver_ster (f : Solver → Solver) : (c.onSolver f).ster = c.ster := rfl
@[simp] theorem Chip.onSolver_deferB (f : Solver → Solver) : (c.onSolver f).deferB = c.deferB := rfl
@[simp] theorem Chip.onSolver_deferP (f : Solver → Solver) : (c.onSolver f).deferP = c.deferP := rfl
@[simp] theorem Chip.onSolver_wire (f : Solver → Solver) : (c.onSolver f).wire = c.wire := rfl
@[simp] theorem Chip.onSolver_free (f : Solver → Solver) : (c.onSolver f).free = c.free := rfl

/-! ### onPlanner -/

@[simp] theorem Chip.onPlanner_now (f : Planner → Planner) : (c.onPlanner f).now = c.now := rfl
@[simp] theorem Chip.onPlanner_ptOff (f : Planner → Planner) : (c.onPlanner f).ptOff = c.ptOff := rfl
@[simp] theorem Chip.onPlanner_cyc (f : Planner → Planner) : (c.onPlanner f).cyc = c.cyc := rfl
@[simp] theorem Chip.onPlanner_t0 (f : Planner → Planner) : (c.onPlanner f).t0 = c.t0 := rfl
@[simp] theorem Chip.onPlanner_cfg (f : Planner → Planner) : (c.onPlanner f).cfg = c.cfg := rfl
@[simp] theorem Chip.onPlanner_active (f : Planner → Planner) : (c.onPlanner f).active = c.active := rfl
@[simp] theorem Chip.onPlanner_sys (f : Planner → Planner) : (c.onPlanner f).sys = c.sys := rfl
@[simp] theorem Chip.onPlanner_pow (f : Planner → Planner) : (c.onPlanner f).pow = c.pow := rfl
@[simp] theorem Chip.onPlanner_mb (f : Planner → Planner) : (c.onPlanner f).mb = c.mb := rfl
@[simp] theorem Chip.onPlanner_anchor (f : Planner → Planner) : (c.onPlanner f).anchor = c.anchor := rfl
@[simp] theorem Chip.onPlanner_boot (f : Planner → Planner) : (c.onPlanner f).boot = c.boot := rfl
@[simp] theorem Chip.onPlanner_lt (f : Planner → Planner) : (c.onPlanner f).lt = c.lt := rfl
@[simp] theorem Chip.onPlanner_pt (f : Planner → Planner) : (c.onPlanner f).pt = c.pt := rfl
@[simp] theorem Chip.onPlanner_star (f : Planner → Planner) : (c.onPlanner f).star = c.star := rfl
@[simp] theorem Chip.onPlanner_loops (f : Planner → Planner) : (c.onPlanner f).loops = c.loops := rfl
@[simp] theorem Chip.onPlanner_joints (f : Planner → Planner) : (c.onPlanner f).joints = c.joints := rfl
@[simp] theorem Chip.onPlanner_solver (f : Planner → Planner) : (c.onPlanner f).solver = c.solver := rfl
@[simp] theorem Chip.onPlanner_planner (f : Planner → Planner) : (c.onPlanner f).planner = f c.planner := rfl
@[simp] theorem Chip.onPlanner_prof (f : Planner → Planner) : (c.onPlanner f).prof = c.prof := rfl
@[simp] theorem Chip.onPlanner_sep (f : Planner → Planner) : (c.onPlanner f).sep = c.sep := rfl
@[simp] theorem Chip.onPlanner_sio (f : Planner → Planner) : (c.onPlanner f).sio = c.sio := rfl
@[simp] theorem Chip.onPlanner_metro (f : Planner → Planner) : (c.onPlanner f).metro = c.metro := rfl
@[simp] theorem Chip.onPlanner_mlink (f : Planner → Planner) : (c.onPlanner f).mlink = c.mlink := rfl
@[simp] theorem Chip.onPlanner_pair (f : Planner → Planner) : (c.onPlanner f).pair = c.pair := rfl
@[simp] theorem Chip.onPlanner_ster (f : Planner → Planner) : (c.onPlanner f).ster = c.ster := rfl
@[simp] theorem Chip.onPlanner_deferB (f : Planner → Planner) : (c.onPlanner f).deferB = c.deferB := rfl
@[simp] theorem Chip.onPlanner_deferP (f : Planner → Planner) : (c.onPlanner f).deferP = c.deferP := rfl
@[simp] theorem Chip.onPlanner_wire (f : Planner → Planner) : (c.onPlanner f).wire = c.wire := rfl
@[simp] theorem Chip.onPlanner_free (f : Planner → Planner) : (c.onPlanner f).free = c.free := rfl

/-! ### onProf -/

@[simp] theorem Chip.onProf_now (f : Profiles → Profiles) : (c.onProf f).now = c.now := rfl
@[simp] theorem Chip.onProf_ptOff (f : Profiles → Profiles) : (c.onProf f).ptOff = c.ptOff := rfl
@[simp] theorem Chip.onProf_cyc (f : Profiles → Profiles) : (c.onProf f).cyc = c.cyc := rfl
@[simp] theorem Chip.onProf_t0 (f : Profiles → Profiles) : (c.onProf f).t0 = c.t0 := rfl
@[simp] theorem Chip.onProf_cfg (f : Profiles → Profiles) : (c.onProf f).cfg = c.cfg := rfl
@[simp] theorem Chip.onProf_active (f : Profiles → Profiles) : (c.onProf f).active = c.active := rfl
@[simp] theorem Chip.onProf_sys (f : Profiles → Profiles) : (c.onProf f).sys = c.sys := rfl
@[simp] theorem Chip.onProf_pow (f : Profiles → Profiles) : (c.onProf f).pow = c.pow := rfl
@[simp] theorem Chip.onProf_mb (f : Profiles → Profiles) : (c.onProf f).mb = c.mb := rfl
@[simp] theorem Chip.onProf_anchor (f : Profiles → Profiles) : (c.onProf f).anchor = c.anchor := rfl
@[simp] theorem Chip.onProf_boot (f : Profiles → Profiles) : (c.onProf f).boot = c.boot := rfl
@[simp] theorem Chip.onProf_lt (f : Profiles → Profiles) : (c.onProf f).lt = c.lt := rfl
@[simp] theorem Chip.onProf_pt (f : Profiles → Profiles) : (c.onProf f).pt = c.pt := rfl
@[simp] theorem Chip.onProf_star (f : Profiles → Profiles) : (c.onProf f).star = c.star := rfl
@[simp] theorem Chip.onProf_loops (f : Profiles → Profiles) : (c.onProf f).loops = c.loops := rfl
@[simp] theorem Chip.onProf_joints (f : Profiles → Profiles) : (c.onProf f).joints = c.joints := rfl
@[simp] theorem Chip.onProf_solver (f : Profiles → Profiles) : (c.onProf f).solver = c.solver := rfl
@[simp] theorem Chip.onProf_planner (f : Profiles → Profiles) : (c.onProf f).planner = c.planner := rfl
@[simp] theorem Chip.onProf_prof (f : Profiles → Profiles) : (c.onProf f).prof = f c.prof := rfl
@[simp] theorem Chip.onProf_sep (f : Profiles → Profiles) : (c.onProf f).sep = c.sep := rfl
@[simp] theorem Chip.onProf_sio (f : Profiles → Profiles) : (c.onProf f).sio = c.sio := rfl
@[simp] theorem Chip.onProf_metro (f : Profiles → Profiles) : (c.onProf f).metro = c.metro := rfl
@[simp] theorem Chip.onProf_mlink (f : Profiles → Profiles) : (c.onProf f).mlink = c.mlink := rfl
@[simp] theorem Chip.onProf_pair (f : Profiles → Profiles) : (c.onProf f).pair = c.pair := rfl
@[simp] theorem Chip.onProf_ster (f : Profiles → Profiles) : (c.onProf f).ster = c.ster := rfl
@[simp] theorem Chip.onProf_deferB (f : Profiles → Profiles) : (c.onProf f).deferB = c.deferB := rfl
@[simp] theorem Chip.onProf_deferP (f : Profiles → Profiles) : (c.onProf f).deferP = c.deferP := rfl
@[simp] theorem Chip.onProf_wire (f : Profiles → Profiles) : (c.onProf f).wire = c.wire := rfl
@[simp] theorem Chip.onProf_free (f : Profiles → Profiles) : (c.onProf f).free = c.free := rfl

/-! ### onSep -/

@[simp] theorem Chip.onSep_now (f : Sep → Sep) : (c.onSep f).now = c.now := rfl
@[simp] theorem Chip.onSep_ptOff (f : Sep → Sep) : (c.onSep f).ptOff = c.ptOff := rfl
@[simp] theorem Chip.onSep_cyc (f : Sep → Sep) : (c.onSep f).cyc = c.cyc := rfl
@[simp] theorem Chip.onSep_t0 (f : Sep → Sep) : (c.onSep f).t0 = c.t0 := rfl
@[simp] theorem Chip.onSep_cfg (f : Sep → Sep) : (c.onSep f).cfg = c.cfg := rfl
@[simp] theorem Chip.onSep_active (f : Sep → Sep) : (c.onSep f).active = c.active := rfl
@[simp] theorem Chip.onSep_sys (f : Sep → Sep) : (c.onSep f).sys = c.sys := rfl
@[simp] theorem Chip.onSep_pow (f : Sep → Sep) : (c.onSep f).pow = c.pow := rfl
@[simp] theorem Chip.onSep_mb (f : Sep → Sep) : (c.onSep f).mb = c.mb := rfl
@[simp] theorem Chip.onSep_anchor (f : Sep → Sep) : (c.onSep f).anchor = c.anchor := rfl
@[simp] theorem Chip.onSep_boot (f : Sep → Sep) : (c.onSep f).boot = c.boot := rfl
@[simp] theorem Chip.onSep_lt (f : Sep → Sep) : (c.onSep f).lt = c.lt := rfl
@[simp] theorem Chip.onSep_pt (f : Sep → Sep) : (c.onSep f).pt = c.pt := rfl
@[simp] theorem Chip.onSep_star (f : Sep → Sep) : (c.onSep f).star = c.star := rfl
@[simp] theorem Chip.onSep_loops (f : Sep → Sep) : (c.onSep f).loops = c.loops := rfl
@[simp] theorem Chip.onSep_joints (f : Sep → Sep) : (c.onSep f).joints = c.joints := rfl
@[simp] theorem Chip.onSep_solver (f : Sep → Sep) : (c.onSep f).solver = c.solver := rfl
@[simp] theorem Chip.onSep_planner (f : Sep → Sep) : (c.onSep f).planner = c.planner := rfl
@[simp] theorem Chip.onSep_prof (f : Sep → Sep) : (c.onSep f).prof = c.prof := rfl
@[simp] theorem Chip.onSep_sep (f : Sep → Sep) : (c.onSep f).sep = f c.sep := rfl
@[simp] theorem Chip.onSep_sio (f : Sep → Sep) : (c.onSep f).sio = c.sio := rfl
@[simp] theorem Chip.onSep_metro (f : Sep → Sep) : (c.onSep f).metro = c.metro := rfl
@[simp] theorem Chip.onSep_mlink (f : Sep → Sep) : (c.onSep f).mlink = c.mlink := rfl
@[simp] theorem Chip.onSep_pair (f : Sep → Sep) : (c.onSep f).pair = c.pair := rfl
@[simp] theorem Chip.onSep_ster (f : Sep → Sep) : (c.onSep f).ster = c.ster := rfl
@[simp] theorem Chip.onSep_deferB (f : Sep → Sep) : (c.onSep f).deferB = c.deferB := rfl
@[simp] theorem Chip.onSep_deferP (f : Sep → Sep) : (c.onSep f).deferP = c.deferP := rfl
@[simp] theorem Chip.onSep_wire (f : Sep → Sep) : (c.onSep f).wire = c.wire := rfl
@[simp] theorem Chip.onSep_free (f : Sep → Sep) : (c.onSep f).free = c.free := rfl

/-! ### onSio -/

@[simp] theorem Chip.onSio_now (f : Sio → Sio) : (c.onSio f).now = c.now := rfl
@[simp] theorem Chip.onSio_ptOff (f : Sio → Sio) : (c.onSio f).ptOff = c.ptOff := rfl
@[simp] theorem Chip.onSio_cyc (f : Sio → Sio) : (c.onSio f).cyc = c.cyc := rfl
@[simp] theorem Chip.onSio_t0 (f : Sio → Sio) : (c.onSio f).t0 = c.t0 := rfl
@[simp] theorem Chip.onSio_cfg (f : Sio → Sio) : (c.onSio f).cfg = c.cfg := rfl
@[simp] theorem Chip.onSio_active (f : Sio → Sio) : (c.onSio f).active = c.active := rfl
@[simp] theorem Chip.onSio_sys (f : Sio → Sio) : (c.onSio f).sys = c.sys := rfl
@[simp] theorem Chip.onSio_pow (f : Sio → Sio) : (c.onSio f).pow = c.pow := rfl
@[simp] theorem Chip.onSio_mb (f : Sio → Sio) : (c.onSio f).mb = c.mb := rfl
@[simp] theorem Chip.onSio_anchor (f : Sio → Sio) : (c.onSio f).anchor = c.anchor := rfl
@[simp] theorem Chip.onSio_boot (f : Sio → Sio) : (c.onSio f).boot = c.boot := rfl
@[simp] theorem Chip.onSio_lt (f : Sio → Sio) : (c.onSio f).lt = c.lt := rfl
@[simp] theorem Chip.onSio_pt (f : Sio → Sio) : (c.onSio f).pt = c.pt := rfl
@[simp] theorem Chip.onSio_star (f : Sio → Sio) : (c.onSio f).star = c.star := rfl
@[simp] theorem Chip.onSio_loops (f : Sio → Sio) : (c.onSio f).loops = c.loops := rfl
@[simp] theorem Chip.onSio_joints (f : Sio → Sio) : (c.onSio f).joints = c.joints := rfl
@[simp] theorem Chip.onSio_solver (f : Sio → Sio) : (c.onSio f).solver = c.solver := rfl
@[simp] theorem Chip.onSio_planner (f : Sio → Sio) : (c.onSio f).planner = c.planner := rfl
@[simp] theorem Chip.onSio_prof (f : Sio → Sio) : (c.onSio f).prof = c.prof := rfl
@[simp] theorem Chip.onSio_sep (f : Sio → Sio) : (c.onSio f).sep = c.sep := rfl
@[simp] theorem Chip.onSio_sio (f : Sio → Sio) : (c.onSio f).sio = f c.sio := rfl
@[simp] theorem Chip.onSio_metro (f : Sio → Sio) : (c.onSio f).metro = c.metro := rfl
@[simp] theorem Chip.onSio_mlink (f : Sio → Sio) : (c.onSio f).mlink = c.mlink := rfl
@[simp] theorem Chip.onSio_pair (f : Sio → Sio) : (c.onSio f).pair = c.pair := rfl
@[simp] theorem Chip.onSio_ster (f : Sio → Sio) : (c.onSio f).ster = c.ster := rfl
@[simp] theorem Chip.onSio_deferB (f : Sio → Sio) : (c.onSio f).deferB = c.deferB := rfl
@[simp] theorem Chip.onSio_deferP (f : Sio → Sio) : (c.onSio f).deferP = c.deferP := rfl
@[simp] theorem Chip.onSio_wire (f : Sio → Sio) : (c.onSio f).wire = c.wire := rfl
@[simp] theorem Chip.onSio_free (f : Sio → Sio) : (c.onSio f).free = c.free := rfl

/-! ### onMetro -/

@[simp] theorem Chip.onMetro_now (f : Metro → Metro) : (c.onMetro f).now = c.now := rfl
@[simp] theorem Chip.onMetro_ptOff (f : Metro → Metro) : (c.onMetro f).ptOff = c.ptOff := rfl
@[simp] theorem Chip.onMetro_cyc (f : Metro → Metro) : (c.onMetro f).cyc = c.cyc := rfl
@[simp] theorem Chip.onMetro_t0 (f : Metro → Metro) : (c.onMetro f).t0 = c.t0 := rfl
@[simp] theorem Chip.onMetro_cfg (f : Metro → Metro) : (c.onMetro f).cfg = c.cfg := rfl
@[simp] theorem Chip.onMetro_active (f : Metro → Metro) : (c.onMetro f).active = c.active := rfl
@[simp] theorem Chip.onMetro_sys (f : Metro → Metro) : (c.onMetro f).sys = c.sys := rfl
@[simp] theorem Chip.onMetro_pow (f : Metro → Metro) : (c.onMetro f).pow = c.pow := rfl
@[simp] theorem Chip.onMetro_mb (f : Metro → Metro) : (c.onMetro f).mb = c.mb := rfl
@[simp] theorem Chip.onMetro_anchor (f : Metro → Metro) : (c.onMetro f).anchor = c.anchor := rfl
@[simp] theorem Chip.onMetro_boot (f : Metro → Metro) : (c.onMetro f).boot = c.boot := rfl
@[simp] theorem Chip.onMetro_lt (f : Metro → Metro) : (c.onMetro f).lt = c.lt := rfl
@[simp] theorem Chip.onMetro_pt (f : Metro → Metro) : (c.onMetro f).pt = c.pt := rfl
@[simp] theorem Chip.onMetro_star (f : Metro → Metro) : (c.onMetro f).star = c.star := rfl
@[simp] theorem Chip.onMetro_loops (f : Metro → Metro) : (c.onMetro f).loops = c.loops := rfl
@[simp] theorem Chip.onMetro_joints (f : Metro → Metro) : (c.onMetro f).joints = c.joints := rfl
@[simp] theorem Chip.onMetro_solver (f : Metro → Metro) : (c.onMetro f).solver = c.solver := rfl
@[simp] theorem Chip.onMetro_planner (f : Metro → Metro) : (c.onMetro f).planner = c.planner := rfl
@[simp] theorem Chip.onMetro_prof (f : Metro → Metro) : (c.onMetro f).prof = c.prof := rfl
@[simp] theorem Chip.onMetro_sep (f : Metro → Metro) : (c.onMetro f).sep = c.sep := rfl
@[simp] theorem Chip.onMetro_sio (f : Metro → Metro) : (c.onMetro f).sio = c.sio := rfl
@[simp] theorem Chip.onMetro_metro (f : Metro → Metro) : (c.onMetro f).metro = f c.metro := rfl
@[simp] theorem Chip.onMetro_mlink (f : Metro → Metro) : (c.onMetro f).mlink = c.mlink := rfl
@[simp] theorem Chip.onMetro_pair (f : Metro → Metro) : (c.onMetro f).pair = c.pair := rfl
@[simp] theorem Chip.onMetro_ster (f : Metro → Metro) : (c.onMetro f).ster = c.ster := rfl
@[simp] theorem Chip.onMetro_deferB (f : Metro → Metro) : (c.onMetro f).deferB = c.deferB := rfl
@[simp] theorem Chip.onMetro_deferP (f : Metro → Metro) : (c.onMetro f).deferP = c.deferP := rfl
@[simp] theorem Chip.onMetro_wire (f : Metro → Metro) : (c.onMetro f).wire = c.wire := rfl
@[simp] theorem Chip.onMetro_free (f : Metro → Metro) : (c.onMetro f).free = c.free := rfl

/-! ### onMlink -/

@[simp] theorem Chip.onMlink_now (f : MetroLink → MetroLink) : (c.onMlink f).now = c.now := rfl
@[simp] theorem Chip.onMlink_ptOff (f : MetroLink → MetroLink) : (c.onMlink f).ptOff = c.ptOff := rfl
@[simp] theorem Chip.onMlink_cyc (f : MetroLink → MetroLink) : (c.onMlink f).cyc = c.cyc := rfl
@[simp] theorem Chip.onMlink_t0 (f : MetroLink → MetroLink) : (c.onMlink f).t0 = c.t0 := rfl
@[simp] theorem Chip.onMlink_cfg (f : MetroLink → MetroLink) : (c.onMlink f).cfg = c.cfg := rfl
@[simp] theorem Chip.onMlink_active (f : MetroLink → MetroLink) : (c.onMlink f).active = c.active := rfl
@[simp] theorem Chip.onMlink_sys (f : MetroLink → MetroLink) : (c.onMlink f).sys = c.sys := rfl
@[simp] theorem Chip.onMlink_pow (f : MetroLink → MetroLink) : (c.onMlink f).pow = c.pow := rfl
@[simp] theorem Chip.onMlink_mb (f : MetroLink → MetroLink) : (c.onMlink f).mb = c.mb := rfl
@[simp] theorem Chip.onMlink_anchor (f : MetroLink → MetroLink) : (c.onMlink f).anchor = c.anchor := rfl
@[simp] theorem Chip.onMlink_boot (f : MetroLink → MetroLink) : (c.onMlink f).boot = c.boot := rfl
@[simp] theorem Chip.onMlink_lt (f : MetroLink → MetroLink) : (c.onMlink f).lt = c.lt := rfl
@[simp] theorem Chip.onMlink_pt (f : MetroLink → MetroLink) : (c.onMlink f).pt = c.pt := rfl
@[simp] theorem Chip.onMlink_star (f : MetroLink → MetroLink) : (c.onMlink f).star = c.star := rfl
@[simp] theorem Chip.onMlink_loops (f : MetroLink → MetroLink) : (c.onMlink f).loops = c.loops := rfl
@[simp] theorem Chip.onMlink_joints (f : MetroLink → MetroLink) : (c.onMlink f).joints = c.joints := rfl
@[simp] theorem Chip.onMlink_solver (f : MetroLink → MetroLink) : (c.onMlink f).solver = c.solver := rfl
@[simp] theorem Chip.onMlink_planner (f : MetroLink → MetroLink) : (c.onMlink f).planner = c.planner := rfl
@[simp] theorem Chip.onMlink_prof (f : MetroLink → MetroLink) : (c.onMlink f).prof = c.prof := rfl
@[simp] theorem Chip.onMlink_sep (f : MetroLink → MetroLink) : (c.onMlink f).sep = c.sep := rfl
@[simp] theorem Chip.onMlink_sio (f : MetroLink → MetroLink) : (c.onMlink f).sio = c.sio := rfl
@[simp] theorem Chip.onMlink_metro (f : MetroLink → MetroLink) : (c.onMlink f).metro = c.metro := rfl
@[simp] theorem Chip.onMlink_mlink (f : MetroLink → MetroLink) : (c.onMlink f).mlink = f c.mlink := rfl
@[simp] theorem Chip.onMlink_pair (f : MetroLink → MetroLink) : (c.onMlink f).pair = c.pair := rfl
@[simp] theorem Chip.onMlink_ster (f : MetroLink → MetroLink) : (c.onMlink f).ster = c.ster := rfl
@[simp] theorem Chip.onMlink_deferB (f : MetroLink → MetroLink) : (c.onMlink f).deferB = c.deferB := rfl
@[simp] theorem Chip.onMlink_deferP (f : MetroLink → MetroLink) : (c.onMlink f).deferP = c.deferP := rfl
@[simp] theorem Chip.onMlink_wire (f : MetroLink → MetroLink) : (c.onMlink f).wire = c.wire := rfl
@[simp] theorem Chip.onMlink_free (f : MetroLink → MetroLink) : (c.onMlink f).free = c.free := rfl

/-! ### onPair -/

@[simp] theorem Chip.onPair_now (f : Pair → Pair) : (c.onPair f).now = c.now := rfl
@[simp] theorem Chip.onPair_ptOff (f : Pair → Pair) : (c.onPair f).ptOff = c.ptOff := rfl
@[simp] theorem Chip.onPair_cyc (f : Pair → Pair) : (c.onPair f).cyc = c.cyc := rfl
@[simp] theorem Chip.onPair_t0 (f : Pair → Pair) : (c.onPair f).t0 = c.t0 := rfl
@[simp] theorem Chip.onPair_cfg (f : Pair → Pair) : (c.onPair f).cfg = c.cfg := rfl
@[simp] theorem Chip.onPair_active (f : Pair → Pair) : (c.onPair f).active = c.active := rfl
@[simp] theorem Chip.onPair_sys (f : Pair → Pair) : (c.onPair f).sys = c.sys := rfl
@[simp] theorem Chip.onPair_pow (f : Pair → Pair) : (c.onPair f).pow = c.pow := rfl
@[simp] theorem Chip.onPair_mb (f : Pair → Pair) : (c.onPair f).mb = c.mb := rfl
@[simp] theorem Chip.onPair_anchor (f : Pair → Pair) : (c.onPair f).anchor = c.anchor := rfl
@[simp] theorem Chip.onPair_boot (f : Pair → Pair) : (c.onPair f).boot = c.boot := rfl
@[simp] theorem Chip.onPair_lt (f : Pair → Pair) : (c.onPair f).lt = c.lt := rfl
@[simp] theorem Chip.onPair_pt (f : Pair → Pair) : (c.onPair f).pt = c.pt := rfl
@[simp] theorem Chip.onPair_star (f : Pair → Pair) : (c.onPair f).star = c.star := rfl
@[simp] theorem Chip.onPair_loops (f : Pair → Pair) : (c.onPair f).loops = c.loops := rfl
@[simp] theorem Chip.onPair_joints (f : Pair → Pair) : (c.onPair f).joints = c.joints := rfl
@[simp] theorem Chip.onPair_solver (f : Pair → Pair) : (c.onPair f).solver = c.solver := rfl
@[simp] theorem Chip.onPair_planner (f : Pair → Pair) : (c.onPair f).planner = c.planner := rfl
@[simp] theorem Chip.onPair_prof (f : Pair → Pair) : (c.onPair f).prof = c.prof := rfl
@[simp] theorem Chip.onPair_sep (f : Pair → Pair) : (c.onPair f).sep = c.sep := rfl
@[simp] theorem Chip.onPair_sio (f : Pair → Pair) : (c.onPair f).sio = c.sio := rfl
@[simp] theorem Chip.onPair_metro (f : Pair → Pair) : (c.onPair f).metro = c.metro := rfl
@[simp] theorem Chip.onPair_mlink (f : Pair → Pair) : (c.onPair f).mlink = c.mlink := rfl
@[simp] theorem Chip.onPair_pair (f : Pair → Pair) : (c.onPair f).pair = f c.pair := rfl
@[simp] theorem Chip.onPair_ster (f : Pair → Pair) : (c.onPair f).ster = c.ster := rfl
@[simp] theorem Chip.onPair_deferB (f : Pair → Pair) : (c.onPair f).deferB = c.deferB := rfl
@[simp] theorem Chip.onPair_deferP (f : Pair → Pair) : (c.onPair f).deferP = c.deferP := rfl
@[simp] theorem Chip.onPair_wire (f : Pair → Pair) : (c.onPair f).wire = c.wire := rfl
@[simp] theorem Chip.onPair_free (f : Pair → Pair) : (c.onPair f).free = c.free := rfl

/-! ### onSter -/

@[simp] theorem Chip.onSter_now (f : Sterling → Sterling) : (c.onSter f).now = c.now := rfl
@[simp] theorem Chip.onSter_ptOff (f : Sterling → Sterling) : (c.onSter f).ptOff = c.ptOff := rfl
@[simp] theorem Chip.onSter_cyc (f : Sterling → Sterling) : (c.onSter f).cyc = c.cyc := rfl
@[simp] theorem Chip.onSter_t0 (f : Sterling → Sterling) : (c.onSter f).t0 = c.t0 := rfl
@[simp] theorem Chip.onSter_cfg (f : Sterling → Sterling) : (c.onSter f).cfg = c.cfg := rfl
@[simp] theorem Chip.onSter_active (f : Sterling → Sterling) : (c.onSter f).active = c.active := rfl
@[simp] theorem Chip.onSter_sys (f : Sterling → Sterling) : (c.onSter f).sys = c.sys := rfl
@[simp] theorem Chip.onSter_pow (f : Sterling → Sterling) : (c.onSter f).pow = c.pow := rfl
@[simp] theorem Chip.onSter_mb (f : Sterling → Sterling) : (c.onSter f).mb = c.mb := rfl
@[simp] theorem Chip.onSter_anchor (f : Sterling → Sterling) : (c.onSter f).anchor = c.anchor := rfl
@[simp] theorem Chip.onSter_boot (f : Sterling → Sterling) : (c.onSter f).boot = c.boot := rfl
@[simp] theorem Chip.onSter_lt (f : Sterling → Sterling) : (c.onSter f).lt = c.lt := rfl
@[simp] theorem Chip.onSter_pt (f : Sterling → Sterling) : (c.onSter f).pt = c.pt := rfl
@[simp] theorem Chip.onSter_star (f : Sterling → Sterling) : (c.onSter f).star = c.star := rfl
@[simp] theorem Chip.onSter_loops (f : Sterling → Sterling) : (c.onSter f).loops = c.loops := rfl
@[simp] theorem Chip.onSter_joints (f : Sterling → Sterling) : (c.onSter f).joints = c.joints := rfl
@[simp] theorem Chip.onSter_solver (f : Sterling → Sterling) : (c.onSter f).solver = c.solver := rfl
@[simp] theorem Chip.onSter_planner (f : Sterling → Sterling) : (c.onSter f).planner = c.planner := rfl
@[simp] theorem Chip.onSter_prof (f : Sterling → Sterling) : (c.onSter f).prof = c.prof := rfl
@[simp] theorem Chip.onSter_sep (f : Sterling → Sterling) : (c.onSter f).sep = c.sep := rfl
@[simp] theorem Chip.onSter_sio (f : Sterling → Sterling) : (c.onSter f).sio = c.sio := rfl
@[simp] theorem Chip.onSter_metro (f : Sterling → Sterling) : (c.onSter f).metro = c.metro := rfl
@[simp] theorem Chip.onSter_mlink (f : Sterling → Sterling) : (c.onSter f).mlink = c.mlink := rfl
@[simp] theorem Chip.onSter_pair (f : Sterling → Sterling) : (c.onSter f).pair = c.pair := rfl
@[simp] theorem Chip.onSter_ster (f : Sterling → Sterling) : (c.onSter f).ster = f c.ster := rfl
@[simp] theorem Chip.onSter_deferB (f : Sterling → Sterling) : (c.onSter f).deferB = c.deferB := rfl
@[simp] theorem Chip.onSter_deferP (f : Sterling → Sterling) : (c.onSter f).deferP = c.deferP := rfl
@[simp] theorem Chip.onSter_wire (f : Sterling → Sterling) : (c.onSter f).wire = c.wire := rfl
@[simp] theorem Chip.onSter_free (f : Sterling → Sterling) : (c.onSter f).free = c.free := rfl

/-! ### Time -/

@[simp] theorem Chip.atTime_now (t : Nat) : (c.atTime t).now = max c.now t := rfl
@[simp] theorem Chip.atTime_ptOff (t : Nat) : (c.atTime t).ptOff = c.ptOff := rfl
@[simp] theorem Chip.atTime_cyc (t : Nat) : (c.atTime t).cyc = c.cyc := rfl
@[simp] theorem Chip.atTime_t0 (t : Nat) : (c.atTime t).t0 = c.t0 := rfl
@[simp] theorem Chip.atTime_cfg (t : Nat) : (c.atTime t).cfg = c.cfg := rfl
@[simp] theorem Chip.atTime_active (t : Nat) : (c.atTime t).active = c.active := rfl
@[simp] theorem Chip.atTime_sys (t : Nat) : (c.atTime t).sys = c.sys := rfl
@[simp] theorem Chip.atTime_pow (t : Nat) : (c.atTime t).pow = c.pow := rfl
@[simp] theorem Chip.atTime_mb (t : Nat) : (c.atTime t).mb = c.mb := rfl
@[simp] theorem Chip.atTime_anchor (t : Nat) : (c.atTime t).anchor = c.anchor := rfl
@[simp] theorem Chip.atTime_boot (t : Nat) : (c.atTime t).boot = c.boot := rfl
@[simp] theorem Chip.atTime_lt (t : Nat) : (c.atTime t).lt = c.lt := rfl
@[simp] theorem Chip.atTime_pt (t : Nat) : (c.atTime t).pt = c.pt := rfl
@[simp] theorem Chip.atTime_star (t : Nat) : (c.atTime t).star = c.star := rfl
@[simp] theorem Chip.atTime_loops (t : Nat) : (c.atTime t).loops = c.loops := rfl
@[simp] theorem Chip.atTime_joints (t : Nat) : (c.atTime t).joints = c.joints := rfl
@[simp] theorem Chip.atTime_solver (t : Nat) : (c.atTime t).solver = c.solver := rfl
@[simp] theorem Chip.atTime_planner (t : Nat) : (c.atTime t).planner = c.planner := rfl
@[simp] theorem Chip.atTime_prof (t : Nat) : (c.atTime t).prof = c.prof := rfl
@[simp] theorem Chip.atTime_sep (t : Nat) : (c.atTime t).sep = c.sep := rfl
@[simp] theorem Chip.atTime_sio (t : Nat) : (c.atTime t).sio = c.sio := rfl
@[simp] theorem Chip.atTime_metro (t : Nat) : (c.atTime t).metro = c.metro := rfl
@[simp] theorem Chip.atTime_mlink (t : Nat) : (c.atTime t).mlink = c.mlink := rfl
@[simp] theorem Chip.atTime_pair (t : Nat) : (c.atTime t).pair = c.pair := rfl
@[simp] theorem Chip.atTime_ster (t : Nat) : (c.atTime t).ster = c.ster := rfl
@[simp] theorem Chip.atTime_deferB (t : Nat) : (c.atTime t).deferB = c.deferB := rfl
@[simp] theorem Chip.atTime_deferP (t : Nat) : (c.atTime t).deferP = c.deferP := rfl
@[simp] theorem Chip.atTime_wire (t : Nat) : (c.atTime t).wire = c.wire := rfl
@[simp] theorem Chip.atTime_free (t : Nat) : (c.atTime t).free = c.free := rfl
@[simp] theorem Chip.atOff_now (t : Nat) : (c.atOff t).now = max c.now (c.localAt (c.t0 + c.ptOff + t)) := rfl
@[simp] theorem Chip.atOff_ptOff (t : Nat) : (c.atOff t).ptOff = c.ptOff := rfl
@[simp] theorem Chip.atOff_cyc (t : Nat) : (c.atOff t).cyc = c.cyc := rfl
@[simp] theorem Chip.atOff_t0 (t : Nat) : (c.atOff t).t0 = c.t0 := rfl
@[simp] theorem Chip.atOff_cfg (t : Nat) : (c.atOff t).cfg = c.cfg := rfl
@[simp] theorem Chip.atOff_active (t : Nat) : (c.atOff t).active = c.active := rfl
@[simp] theorem Chip.atOff_sys (t : Nat) : (c.atOff t).sys = c.sys := rfl
@[simp] theorem Chip.atOff_pow (t : Nat) : (c.atOff t).pow = c.pow := rfl
@[simp] theorem Chip.atOff_mb (t : Nat) : (c.atOff t).mb = c.mb := rfl
@[simp] theorem Chip.atOff_anchor (t : Nat) : (c.atOff t).anchor = c.anchor := rfl
@[simp] theorem Chip.atOff_boot (t : Nat) : (c.atOff t).boot = c.boot := rfl
@[simp] theorem Chip.atOff_lt (t : Nat) : (c.atOff t).lt = c.lt := rfl
@[simp] theorem Chip.atOff_pt (t : Nat) : (c.atOff t).pt = c.pt := rfl
@[simp] theorem Chip.atOff_star (t : Nat) : (c.atOff t).star = c.star := rfl
@[simp] theorem Chip.atOff_loops (t : Nat) : (c.atOff t).loops = c.loops := rfl
@[simp] theorem Chip.atOff_joints (t : Nat) : (c.atOff t).joints = c.joints := rfl
@[simp] theorem Chip.atOff_solver (t : Nat) : (c.atOff t).solver = c.solver := rfl
@[simp] theorem Chip.atOff_planner (t : Nat) : (c.atOff t).planner = c.planner := rfl
@[simp] theorem Chip.atOff_prof (t : Nat) : (c.atOff t).prof = c.prof := rfl
@[simp] theorem Chip.atOff_sep (t : Nat) : (c.atOff t).sep = c.sep := rfl
@[simp] theorem Chip.atOff_sio (t : Nat) : (c.atOff t).sio = c.sio := rfl
@[simp] theorem Chip.atOff_metro (t : Nat) : (c.atOff t).metro = c.metro := rfl
@[simp] theorem Chip.atOff_mlink (t : Nat) : (c.atOff t).mlink = c.mlink := rfl
@[simp] theorem Chip.atOff_pair (t : Nat) : (c.atOff t).pair = c.pair := rfl
@[simp] theorem Chip.atOff_ster (t : Nat) : (c.atOff t).ster = c.ster := rfl
@[simp] theorem Chip.atOff_deferB (t : Nat) : (c.atOff t).deferB = c.deferB := rfl
@[simp] theorem Chip.atOff_deferP (t : Nat) : (c.atOff t).deferP = c.deferP := rfl
@[simp] theorem Chip.atOff_wire (t : Nat) : (c.atOff t).wire = c.wire := rfl
@[simp] theorem Chip.atOff_free (t : Nat) : (c.atOff t).free = c.free := rfl
@[simp] theorem Chip.emit_now (k p : Nat) (b : Bytes) : (c.emit k p b).now = c.now := rfl
@[simp] theorem Chip.emit_ptOff (k p : Nat) (b : Bytes) : (c.emit k p b).ptOff = c.ptOff := rfl
@[simp] theorem Chip.emit_cyc (k p : Nat) (b : Bytes) : (c.emit k p b).cyc = c.cyc := rfl
@[simp] theorem Chip.emit_t0 (k p : Nat) (b : Bytes) : (c.emit k p b).t0 = c.t0 := rfl
@[simp] theorem Chip.emit_cfg (k p : Nat) (b : Bytes) : (c.emit k p b).cfg = c.cfg := rfl
@[simp] theorem Chip.emit_active (k p : Nat) (b : Bytes) : (c.emit k p b).active = c.active := rfl
@[simp] theorem Chip.emit_sys (k p : Nat) (b : Bytes) : (c.emit k p b).sys = c.sys := rfl
@[simp] theorem Chip.emit_pow (k p : Nat) (b : Bytes) : (c.emit k p b).pow = c.pow := rfl
@[simp] theorem Chip.emit_mb (k p : Nat) (b : Bytes) : (c.emit k p b).mb = c.mb := rfl
@[simp] theorem Chip.emit_anchor (k p : Nat) (b : Bytes) : (c.emit k p b).anchor = c.anchor := rfl
@[simp] theorem Chip.emit_boot (k p : Nat) (b : Bytes) : (c.emit k p b).boot = c.boot := rfl
@[simp] theorem Chip.emit_lt (k p : Nat) (b : Bytes) : (c.emit k p b).lt = c.lt := rfl
@[simp] theorem Chip.emit_pt (k p : Nat) (b : Bytes) : (c.emit k p b).pt = c.pt := rfl
@[simp] theorem Chip.emit_star (k p : Nat) (b : Bytes) : (c.emit k p b).star = c.star := rfl
@[simp] theorem Chip.emit_loops (k p : Nat) (b : Bytes) : (c.emit k p b).loops = c.loops := rfl
@[simp] theorem Chip.emit_joints (k p : Nat) (b : Bytes) : (c.emit k p b).joints = c.joints := rfl
@[simp] theorem Chip.emit_solver (k p : Nat) (b : Bytes) : (c.emit k p b).solver = c.solver := rfl
@[simp] theorem Chip.emit_planner (k p : Nat) (b : Bytes) : (c.emit k p b).planner = c.planner := rfl
@[simp] theorem Chip.emit_prof (k p : Nat) (b : Bytes) : (c.emit k p b).prof = c.prof := rfl
@[simp] theorem Chip.emit_sep (k p : Nat) (b : Bytes) : (c.emit k p b).sep = c.sep := rfl
@[simp] theorem Chip.emit_sio (k p : Nat) (b : Bytes) : (c.emit k p b).sio = c.sio := rfl
@[simp] theorem Chip.emit_metro (k p : Nat) (b : Bytes) : (c.emit k p b).metro = c.metro := rfl
@[simp] theorem Chip.emit_mlink (k p : Nat) (b : Bytes) : (c.emit k p b).mlink = c.mlink := rfl
@[simp] theorem Chip.emit_pair (k p : Nat) (b : Bytes) : (c.emit k p b).pair = c.pair := rfl
@[simp] theorem Chip.emit_ster (k p : Nat) (b : Bytes) : (c.emit k p b).ster = c.ster := rfl
@[simp] theorem Chip.emit_deferB (k p : Nat) (b : Bytes) : (c.emit k p b).deferB = c.deferB := rfl
@[simp] theorem Chip.emit_deferP (k p : Nat) (b : Bytes) : (c.emit k p b).deferP = c.deferP := rfl
@[simp] theorem Chip.emit_wire (k p : Nat) (b : Bytes) : (c.emit k p b).wire = (k, p, b) :: c.wire := rfl
@[simp] theorem Chip.emit_free (k p : Nat) (b : Bytes) : (c.emit k p b).free = c.free := rfl
@[simp] theorem takeFree_now : (takeFree c).now = c.now := rfl
@[simp] theorem takeFree_ptOff : (takeFree c).ptOff = c.ptOff := rfl
@[simp] theorem takeFree_cyc : (takeFree c).cyc = c.cyc := rfl
@[simp] theorem takeFree_t0 : (takeFree c).t0 = c.t0 := rfl
@[simp] theorem takeFree_cfg : (takeFree c).cfg = c.cfg := rfl
@[simp] theorem takeFree_active : (takeFree c).active = c.active := rfl
@[simp] theorem takeFree_sys : (takeFree c).sys = c.sys := rfl
@[simp] theorem takeFree_pow : (takeFree c).pow = c.pow := rfl
@[simp] theorem takeFree_mb : (takeFree c).mb = c.mb := rfl
@[simp] theorem takeFree_anchor : (takeFree c).anchor = c.anchor := rfl
@[simp] theorem takeFree_boot : (takeFree c).boot = c.boot := rfl
@[simp] theorem takeFree_lt : (takeFree c).lt = c.lt := rfl
@[simp] theorem takeFree_pt : (takeFree c).pt = c.pt := rfl
@[simp] theorem takeFree_star : (takeFree c).star = c.star := rfl
@[simp] theorem takeFree_loops : (takeFree c).loops = c.loops := rfl
@[simp] theorem takeFree_joints : (takeFree c).joints = c.joints := rfl
@[simp] theorem takeFree_solver : (takeFree c).solver = c.solver := rfl
@[simp] theorem takeFree_planner : (takeFree c).planner = c.planner := rfl
@[simp] theorem takeFree_prof : (takeFree c).prof = c.prof := rfl
@[simp] theorem takeFree_sep : (takeFree c).sep = c.sep := rfl
@[simp] theorem takeFree_sio : (takeFree c).sio = c.sio := rfl
@[simp] theorem takeFree_metro : (takeFree c).metro = c.metro := rfl
@[simp] theorem takeFree_mlink : (takeFree c).mlink = c.mlink := rfl
@[simp] theorem takeFree_pair : (takeFree c).pair = c.pair := rfl
@[simp] theorem takeFree_ster : (takeFree c).ster = c.ster := rfl
@[simp] theorem takeFree_deferB : (takeFree c).deferB = c.deferB := rfl
@[simp] theorem takeFree_deferP : (takeFree c).deferP = c.deferP := rfl
@[simp] theorem takeFree_wire : (takeFree c).wire = c.wire := rfl
@[simp] theorem takeFree_free : (takeFree c).free = c.free + 1 := rfl

end Sys2Proof.Machine
end

