-- ==== Sys2Proof/Laws/Frames.lean ====
section
/-!
SUPPORT. What each shared operation leaves alone: one lemma per operation and field of the module.
-/

namespace Sys2Proof.Machine

variable (c : Chip)

/-! ### onRing -/

@[simp] theorem onRing_keeps_now (r : Nat) (f : Ring → Ring) : (onRing c r f).now = c.now := rfl
@[simp] theorem onRing_keeps_ptOff (r : Nat) (f : Ring → Ring) : (onRing c r f).ptOff = c.ptOff := rfl
@[simp] theorem onRing_keeps_cyc (r : Nat) (f : Ring → Ring) : (onRing c r f).cyc = c.cyc := rfl
@[simp] theorem onRing_keeps_t0 (r : Nat) (f : Ring → Ring) : (onRing c r f).t0 = c.t0 := rfl
@[simp] theorem onRing_keeps_cfg (r : Nat) (f : Ring → Ring) : (onRing c r f).cfg = c.cfg := rfl
@[simp] theorem onRing_keeps_active (r : Nat) (f : Ring → Ring) : (onRing c r f).active = c.active := rfl
@[simp] theorem onRing_keeps_sys (r : Nat) (f : Ring → Ring) : (onRing c r f).sys = c.sys := rfl
@[simp] theorem onRing_keeps_pow (r : Nat) (f : Ring → Ring) : (onRing c r f).pow = c.pow := rfl
@[simp] theorem onRing_keeps_anchor (r : Nat) (f : Ring → Ring) : (onRing c r f).anchor = c.anchor := rfl
@[simp] theorem onRing_keeps_boot (r : Nat) (f : Ring → Ring) : (onRing c r f).boot = c.boot := rfl
@[simp] theorem onRing_keeps_lt (r : Nat) (f : Ring → Ring) : (onRing c r f).lt = c.lt := rfl
@[simp] theorem onRing_keeps_pt (r : Nat) (f : Ring → Ring) : (onRing c r f).pt = c.pt := rfl
@[simp] theorem onRing_keeps_star (r : Nat) (f : Ring → Ring) : (onRing c r f).star = c.star := rfl
@[simp] theorem onRing_keeps_loops (r : Nat) (f : Ring → Ring) : (onRing c r f).loops = c.loops := rfl
@[simp] theorem onRing_keeps_joints (r : Nat) (f : Ring → Ring) : (onRing c r f).joints = c.joints := rfl
@[simp] theorem onRing_keeps_solver (r : Nat) (f : Ring → Ring) : (onRing c r f).solver = c.solver := rfl
@[simp] theorem onRing_keeps_planner (r : Nat) (f : Ring → Ring) : (onRing c r f).planner = c.planner := rfl
@[simp] theorem onRing_keeps_prof (r : Nat) (f : Ring → Ring) : (onRing c r f).prof = c.prof := rfl
@[simp] theorem onRing_keeps_sep (r : Nat) (f : Ring → Ring) : (onRing c r f).sep = c.sep := rfl
@[simp] theorem onRing_keeps_sio (r : Nat) (f : Ring → Ring) : (onRing c r f).sio = c.sio := rfl
@[simp] theorem onRing_keeps_metro (r : Nat) (f : Ring → Ring) : (onRing c r f).metro = c.metro := rfl
@[simp] theorem onRing_keeps_mlink (r : Nat) (f : Ring → Ring) : (onRing c r f).mlink = c.mlink := rfl
@[simp] theorem onRing_keeps_pair (r : Nat) (f : Ring → Ring) : (onRing c r f).pair = c.pair := rfl
@[simp] theorem onRing_keeps_ster (r : Nat) (f : Ring → Ring) : (onRing c r f).ster = c.ster := rfl
@[simp] theorem onRing_keeps_deferB (r : Nat) (f : Ring → Ring) : (onRing c r f).deferB = c.deferB := rfl
@[simp] theorem onRing_keeps_deferP (r : Nat) (f : Ring → Ring) : (onRing c r f).deferP = c.deferP := rfl
@[simp] theorem onRing_keeps_wire (r : Nat) (f : Ring → Ring) : (onRing c r f).wire = c.wire := rfl
@[simp] theorem onRing_keeps_free (r : Nat) (f : Ring → Ring) : (onRing c r f).free = c.free := rfl

/-! ### writeBack -/

@[simp] theorem writeBack_keeps_now (r : Nat) : (writeBack c r).now = c.now := by
  unfold writeBack; split <;> rfl
@[simp] theorem writeBack_keeps_ptOff (r : Nat) : (writeBack c r).ptOff = c.ptOff := by
  unfold writeBack; split <;> rfl
@[simp] theorem writeBack_keeps_cyc (r : Nat) : (writeBack c r).cyc = c.cyc := by
  unfold writeBack; split <;> rfl
@[simp] theorem writeBack_keeps_t0 (r : Nat) : (writeBack c r).t0 = c.t0 := by
  unfold writeBack; split <;> rfl
@[simp] theorem writeBack_keeps_cfg (r : Nat) : (writeBack c r).cfg = c.cfg := by
  unfold writeBack; split <;> rfl
@[simp] theorem writeBack_keeps_active (r : Nat) : (writeBack c r).active = c.active := by
  unfold writeBack; split <;> rfl
@[simp] theorem writeBack_keeps_sys (r : Nat) : (writeBack c r).sys = c.sys := by
  unfold writeBack; split <;> rfl
@[simp] theorem writeBack_keeps_pow (r : Nat) : (writeBack c r).pow = c.pow := by
  unfold writeBack; split <;> rfl
@[simp] theorem writeBack_keeps_anchor (r : Nat) : (writeBack c r).anchor = c.anchor := by
  unfold writeBack; split <;> rfl
@[simp] theorem writeBack_keeps_boot (r : Nat) : (writeBack c r).boot = c.boot := by
  unfold writeBack; split <;> rfl
@[simp] theorem writeBack_keeps_lt (r : Nat) : (writeBack c r).lt = c.lt := by
  unfold writeBack; split <;> rfl
@[simp] theorem writeBack_keeps_pt (r : Nat) : (writeBack c r).pt = c.pt := by
  unfold writeBack; split <;> rfl
@[simp] theorem writeBack_keeps_star (r : Nat) : (writeBack c r).star = c.star := by
  unfold writeBack; split <;> rfl
@[simp] theorem writeBack_keeps_loops (r : Nat) : (writeBack c r).loops = c.loops := by
  unfold writeBack; split <;> rfl
@[simp] theorem writeBack_keeps_joints (r : Nat) : (writeBack c r).joints = c.joints := by
  unfold writeBack; split <;> rfl
@[simp] theorem writeBack_keeps_solver (r : Nat) : (writeBack c r).solver = c.solver := by
  unfold writeBack; split <;> rfl
@[simp] theorem writeBack_keeps_planner (r : Nat) : (writeBack c r).planner = c.planner := by
  unfold writeBack; split <;> rfl
@[simp] theorem writeBack_keeps_prof (r : Nat) : (writeBack c r).prof = c.prof := by
  unfold writeBack; split <;> rfl
@[simp] theorem writeBack_keeps_sep (r : Nat) : (writeBack c r).sep = c.sep := by
  unfold writeBack; split <;> rfl
@[simp] theorem writeBack_keeps_sio (r : Nat) : (writeBack c r).sio = c.sio := by
  unfold writeBack; split <;> rfl
@[simp] theorem writeBack_keeps_metro (r : Nat) : (writeBack c r).metro = c.metro := by
  unfold writeBack; split <;> rfl
@[simp] theorem writeBack_keeps_mlink (r : Nat) : (writeBack c r).mlink = c.mlink := by
  unfold writeBack; split <;> rfl
@[simp] theorem writeBack_keeps_pair (r : Nat) : (writeBack c r).pair = c.pair := by
  unfold writeBack; split <;> rfl
@[simp] theorem writeBack_keeps_ster (r : Nat) : (writeBack c r).ster = c.ster := by
  unfold writeBack; split <;> rfl
@[simp] theorem writeBack_keeps_deferB (r : Nat) : (writeBack c r).deferB = c.deferB := by
  unfold writeBack; split <;> rfl
@[simp] theorem writeBack_keeps_deferP (r : Nat) : (writeBack c r).deferP = c.deferP := by
  unfold writeBack; split <;> rfl
@[simp] theorem writeBack_keeps_wire (r : Nat) : (writeBack c r).wire = c.wire := by
  unfold writeBack; split <;> rfl
@[simp] theorem writeBack_keeps_free (r : Nat) : (writeBack c r).free = c.free := by
  unfold writeBack; split <;> rfl

/-! ### moveRing -/

@[simp] theorem moveRing_keeps_now (r : Nat) (f : Ring → Ring) : (moveRing c r f).now = c.now := by simp [moveRing]
@[simp] theorem moveRing_keeps_ptOff (r : Nat) (f : Ring → Ring) : (moveRing c r f).ptOff = c.ptOff := by simp [moveRing]
@[simp] theorem moveRing_keeps_cyc (r : Nat) (f : Ring → Ring) : (moveRing c r f).cyc = c.cyc := by simp [moveRing]
@[simp] theorem moveRing_keeps_t0 (r : Nat) (f : Ring → Ring) : (moveRing c r f).t0 = c.t0 := by simp [moveRing]
@[simp] theorem moveRing_keeps_cfg (r : Nat) (f : Ring → Ring) : (moveRing c r f).cfg = c.cfg := by simp [moveRing]
@[simp] theorem moveRing_keeps_active (r : Nat) (f : Ring → Ring) : (moveRing c r f).active = c.active := by simp [moveRing]
@[simp] theorem moveRing_keeps_sys (r : Nat) (f : Ring → Ring) : (moveRing c r f).sys = c.sys := by simp [moveRing]
@[simp] theorem moveRing_keeps_pow (r : Nat) (f : Ring → Ring) : (moveRing c r f).pow = c.pow := by simp [moveRing]
@[simp] theorem moveRing_keeps_anchor (r : Nat) (f : Ring → Ring) : (moveRing c r f).anchor = c.anchor := by simp [moveRing]
@[simp] theorem moveRing_keeps_boot (r : Nat) (f : Ring → Ring) : (moveRing c r f).boot = c.boot := by simp [moveRing]
@[simp] theorem moveRing_keeps_lt (r : Nat) (f : Ring → Ring) : (moveRing c r f).lt = c.lt := by simp [moveRing]
@[simp] theorem moveRing_keeps_pt (r : Nat) (f : Ring → Ring) : (moveRing c r f).pt = c.pt := by simp [moveRing]
@[simp] theorem moveRing_keeps_star (r : Nat) (f : Ring → Ring) : (moveRing c r f).star = c.star := by simp [moveRing]
@[simp] theorem moveRing_keeps_loops (r : Nat) (f : Ring → Ring) : (moveRing c r f).loops = c.loops := by simp [moveRing]
@[simp] theorem moveRing_keeps_joints (r : Nat) (f : Ring → Ring) : (moveRing c r f).joints = c.joints := by simp [moveRing]
@[simp] theorem moveRing_keeps_solver (r : Nat) (f : Ring → Ring) : (moveRing c r f).solver = c.solver := by simp [moveRing]
@[simp] theorem moveRing_keeps_planner (r : Nat) (f : Ring → Ring) : (moveRing c r f).planner = c.planner := by simp [moveRing]
@[simp] theorem moveRing_keeps_prof (r : Nat) (f : Ring → Ring) : (moveRing c r f).prof = c.prof := by simp [moveRing]
@[simp] theorem moveRing_keeps_sep (r : Nat) (f : Ring → Ring) : (moveRing c r f).sep = c.sep := by simp [moveRing]
@[simp] theorem moveRing_keeps_sio (r : Nat) (f : Ring → Ring) : (moveRing c r f).sio = c.sio := by simp [moveRing]
@[simp] theorem moveRing_keeps_metro (r : Nat) (f : Ring → Ring) : (moveRing c r f).metro = c.metro := by simp [moveRing]
@[simp] theorem moveRing_keeps_mlink (r : Nat) (f : Ring → Ring) : (moveRing c r f).mlink = c.mlink := by simp [moveRing]
@[simp] theorem moveRing_keeps_pair (r : Nat) (f : Ring → Ring) : (moveRing c r f).pair = c.pair := by simp [moveRing]
@[simp] theorem moveRing_keeps_ster (r : Nat) (f : Ring → Ring) : (moveRing c r f).ster = c.ster := by simp [moveRing]
@[simp] theorem moveRing_keeps_deferB (r : Nat) (f : Ring → Ring) : (moveRing c r f).deferB = c.deferB := by simp [moveRing]
@[simp] theorem moveRing_keeps_deferP (r : Nat) (f : Ring → Ring) : (moveRing c r f).deferP = c.deferP := by simp [moveRing]
@[simp] theorem moveRing_keeps_wire (r : Nat) (f : Ring → Ring) : (moveRing c r f).wire = c.wire := by simp [moveRing]
@[simp] theorem moveRing_keeps_free (r : Nat) (f : Ring → Ring) : (moveRing c r f).free = c.free := by simp [moveRing]

/-! ### vector -/

@[simp] theorem vector_keeps_now (n : Nat) : (vector c n).now = c.now := by
  unfold vector; split <;> [(dsimp only [Chip.onMb]); rfl]
@[simp] theorem vector_keeps_ptOff (n : Nat) : (vector c n).ptOff = c.ptOff := by
  unfold vector; split <;> [(dsimp only [Chip.onMb]); rfl]
@[simp] theorem vector_keeps_cyc (n : Nat) : (vector c n).cyc = c.cyc := by
  unfold vector; split <;> [(dsimp only [Chip.onMb]); rfl]
@[simp] theorem vector_keeps_t0 (n : Nat) : (vector c n).t0 = c.t0 := by
  unfold vector; split <;> [(dsimp only [Chip.onMb]); rfl]
@[simp] theorem vector_keeps_cfg (n : Nat) : (vector c n).cfg = c.cfg := by
  unfold vector; split <;> [(dsimp only [Chip.onMb]); rfl]
@[simp] theorem vector_keeps_active (n : Nat) : (vector c n).active = c.active := by
  unfold vector; split <;> [(dsimp only [Chip.onMb]); rfl]
@[simp] theorem vector_keeps_sys (n : Nat) : (vector c n).sys = c.sys := by
  unfold vector; split <;> [(dsimp only [Chip.onMb]); rfl]
@[simp] theorem vector_keeps_pow (n : Nat) : (vector c n).pow = c.pow := by
  unfold vector; split <;> [(dsimp only [Chip.onMb]); rfl]
@[simp] theorem vector_keeps_anchor (n : Nat) : (vector c n).anchor = c.anchor := by
  unfold vector; split <;> [(dsimp only [Chip.onMb]); rfl]
@[simp] theorem vector_keeps_boot (n : Nat) : (vector c n).boot = c.boot := by
  unfold vector; split <;> [(dsimp only [Chip.onMb]); rfl]
@[simp] theorem vector_keeps_lt (n : Nat) : (vector c n).lt = c.lt := by
  unfold vector; split <;> [(dsimp only [Chip.onMb]); rfl]
@[simp] theorem vector_keeps_pt (n : Nat) : (vector c n).pt = c.pt := by
  unfold vector; split <;> [(dsimp only [Chip.onMb]); rfl]
@[simp] theorem vector_keeps_star (n : Nat) : (vector c n).star = c.star := by
  unfold vector; split <;> [(dsimp only [Chip.onMb]); rfl]
@[simp] theorem vector_keeps_loops (n : Nat) : (vector c n).loops = c.loops := by
  unfold vector; split <;> [(dsimp only [Chip.onMb]); rfl]
@[simp] theorem vector_keeps_joints (n : Nat) : (vector c n).joints = c.joints := by
  unfold vector; split <;> [(dsimp only [Chip.onMb]); rfl]
@[simp] theorem vector_keeps_solver (n : Nat) : (vector c n).solver = c.solver := by
  unfold vector; split <;> [(dsimp only [Chip.onMb]); rfl]
@[simp] theorem vector_keeps_planner (n : Nat) : (vector c n).planner = c.planner := by
  unfold vector; split <;> [(dsimp only [Chip.onMb]); rfl]
@[simp] theorem vector_keeps_prof (n : Nat) : (vector c n).prof = c.prof := by
  unfold vector; split <;> [(dsimp only [Chip.onMb]); rfl]
@[simp] theorem vector_keeps_sep (n : Nat) : (vector c n).sep = c.sep := by
  unfold vector; split <;> [(dsimp only [Chip.onMb]); rfl]
@[simp] theorem vector_keeps_sio (n : Nat) : (vector c n).sio = c.sio := by
  unfold vector; split <;> [(dsimp only [Chip.onMb]); rfl]
@[simp] theorem vector_keeps_metro (n : Nat) : (vector c n).metro = c.metro := by
  unfold vector; split <;> [(dsimp only [Chip.onMb]); rfl]
@[simp] theorem vector_keeps_mlink (n : Nat) : (vector c n).mlink = c.mlink := by
  unfold vector; split <;> [(dsimp only [Chip.onMb]); rfl]
@[simp] theorem vector_keeps_pair (n : Nat) : (vector c n).pair = c.pair := by
  unfold vector; split <;> [(dsimp only [Chip.onMb]); rfl]
@[simp] theorem vector_keeps_ster (n : Nat) : (vector c n).ster = c.ster := by
  unfold vector; split <;> [(dsimp only [Chip.onMb]); rfl]
@[simp] theorem vector_keeps_deferB (n : Nat) : (vector c n).deferB = c.deferB := by
  unfold vector; split <;> [(dsimp only [Chip.onMb]); rfl]
@[simp] theorem vector_keeps_deferP (n : Nat) : (vector c n).deferP = c.deferP := by
  unfold vector; split <;> [(dsimp only [Chip.onMb]); rfl]
@[simp] theorem vector_keeps_wire (n : Nat) : (vector c n).wire = c.wire := by
  unfold vector; split <;> [(dsimp only [Chip.onMb]); rfl]
@[simp] theorem vector_keeps_free (n : Nat) : (vector c n).free = c.free := by
  unfold vector; split <;> [(dsimp only [Chip.onMb]); rfl]

/-! ### ringInt -/

@[simp] theorem ringInt_keeps_now (r : Nat) : (ringInt c r).now = c.now := by
  simp only [ringInt]; split <;> [split; skip] <;> simp
@[simp] theorem ringInt_keeps_ptOff (r : Nat) : (ringInt c r).ptOff = c.ptOff := by
  simp only [ringInt]; split <;> [split; skip] <;> simp
@[simp] theorem ringInt_keeps_cyc (r : Nat) : (ringInt c r).cyc = c.cyc := by
  simp only [ringInt]; split <;> [split; skip] <;> simp
@[simp] theorem ringInt_keeps_t0 (r : Nat) : (ringInt c r).t0 = c.t0 := by
  simp only [ringInt]; split <;> [split; skip] <;> simp
@[simp] theorem ringInt_keeps_cfg (r : Nat) : (ringInt c r).cfg = c.cfg := by
  simp only [ringInt]; split <;> [split; skip] <;> simp
@[simp] theorem ringInt_keeps_active (r : Nat) : (ringInt c r).active = c.active := by
  simp only [ringInt]; split <;> [split; skip] <;> simp
@[simp] theorem ringInt_keeps_sys (r : Nat) : (ringInt c r).sys = c.sys := by
  simp only [ringInt]; split <;> [split; skip] <;> simp
@[simp] theorem ringInt_keeps_pow (r : Nat) : (ringInt c r).pow = c.pow := by
  simp only [ringInt]; split <;> [split; skip] <;> simp
@[simp] theorem ringInt_keeps_anchor (r : Nat) : (ringInt c r).anchor = c.anchor := by
  simp only [ringInt]; split <;> [split; skip] <;> simp
@[simp] theorem ringInt_keeps_boot (r : Nat) : (ringInt c r).boot = c.boot := by
  simp only [ringInt]; split <;> [split; skip] <;> simp
@[simp] theorem ringInt_keeps_lt (r : Nat) : (ringInt c r).lt = c.lt := by
  simp only [ringInt]; split <;> [split; skip] <;> simp
@[simp] theorem ringInt_keeps_pt (r : Nat) : (ringInt c r).pt = c.pt := by
  simp only [ringInt]; split <;> [split; skip] <;> simp
@[simp] theorem ringInt_keeps_star (r : Nat) : (ringInt c r).star = c.star := by
  simp only [ringInt]; split <;> [split; skip] <;> simp
@[simp] theorem ringInt_keeps_loops (r : Nat) : (ringInt c r).loops = c.loops := by
  simp only [ringInt]; split <;> [split; skip] <;> simp
@[simp] theorem ringInt_keeps_joints (r : Nat) : (ringInt c r).joints = c.joints := by
  simp only [ringInt]; split <;> [split; skip] <;> simp
@[simp] theorem ringInt_keeps_solver (r : Nat) : (ringInt c r).solver = c.solver := by
  simp only [ringInt]; split <;> [split; skip] <;> simp
@[simp] theorem ringInt_keeps_planner (r : Nat) : (ringInt c r).planner = c.planner := by
  simp only [ringInt]; split <;> [split; skip] <;> simp
@[simp] theorem ringInt_keeps_prof (r : Nat) : (ringInt c r).prof = c.prof := by
  simp only [ringInt]; split <;> [split; skip] <;> simp
@[simp] theorem ringInt_keeps_sep (r : Nat) : (ringInt c r).sep = c.sep := by
  simp only [ringInt]; split <;> [split; skip] <;> simp
@[simp] theorem ringInt_keeps_sio (r : Nat) : (ringInt c r).sio = c.sio := by
  simp only [ringInt]; split <;> [split; skip] <;> simp
@[simp] theorem ringInt_keeps_metro (r : Nat) : (ringInt c r).metro = c.metro := by
  simp only [ringInt]; split <;> [split; skip] <;> simp
@[simp] theorem ringInt_keeps_mlink (r : Nat) : (ringInt c r).mlink = c.mlink := by
  simp only [ringInt]; split <;> [split; skip] <;> simp
@[simp] theorem ringInt_keeps_pair (r : Nat) : (ringInt c r).pair = c.pair := by
  simp only [ringInt]; split <;> [split; skip] <;> simp
@[simp] theorem ringInt_keeps_ster (r : Nat) : (ringInt c r).ster = c.ster := by
  simp only [ringInt]; split <;> [split; skip] <;> simp
@[simp] theorem ringInt_keeps_deferB (r : Nat) : (ringInt c r).deferB = c.deferB := by
  simp only [ringInt]; split <;> [split; skip] <;> simp
@[simp] theorem ringInt_keeps_deferP (r : Nat) : (ringInt c r).deferP = c.deferP := by
  simp only [ringInt]; split <;> [split; skip] <;> simp
@[simp] theorem ringInt_keeps_wire (r : Nat) : (ringInt c r).wire = c.wire := by
  simp only [ringInt]; split <;> [split; skip] <;> simp
@[simp] theorem ringInt_keeps_free (r : Nat) : (ringInt c r).free = c.free := by
  simp only [ringInt]; split <;> [split; skip] <;> simp

/-! ### errSet -/

@[simp] theorem errSet_keeps_now (n : Nat) : (errSet c n).now = c.now := by
  simp only [errSet]; split <;> simp
@[simp] theorem errSet_keeps_ptOff (n : Nat) : (errSet c n).ptOff = c.ptOff := by
  simp only [errSet]; split <;> simp
@[simp] theorem errSet_keeps_cyc (n : Nat) : (errSet c n).cyc = c.cyc := by
  simp only [errSet]; split <;> simp
@[simp] theorem errSet_keeps_t0 (n : Nat) : (errSet c n).t0 = c.t0 := by
  simp only [errSet]; split <;> simp
@[simp] theorem errSet_keeps_cfg (n : Nat) : (errSet c n).cfg = c.cfg := by
  simp only [errSet]; split <;> simp
@[simp] theorem errSet_keeps_active (n : Nat) : (errSet c n).active = c.active := by
  simp only [errSet]; split <;> simp
@[simp] theorem errSet_keeps_sys (n : Nat) : (errSet c n).sys = c.sys := by
  simp only [errSet]; split <;> simp
@[simp] theorem errSet_keeps_pow (n : Nat) : (errSet c n).pow = c.pow := by
  simp only [errSet]; split <;> simp
@[simp] theorem errSet_keeps_anchor (n : Nat) : (errSet c n).anchor = c.anchor := by
  simp only [errSet]; split <;> simp
@[simp] theorem errSet_keeps_boot (n : Nat) : (errSet c n).boot = c.boot := by
  simp only [errSet]; split <;> simp
@[simp] theorem errSet_keeps_lt (n : Nat) : (errSet c n).lt = c.lt := by
  simp only [errSet]; split <;> simp
@[simp] theorem errSet_keeps_pt (n : Nat) : (errSet c n).pt = c.pt := by
  simp only [errSet]; split <;> simp
@[simp] theorem errSet_keeps_star (n : Nat) : (errSet c n).star = c.star := by
  simp only [errSet]; split <;> simp
@[simp] theorem errSet_keeps_loops (n : Nat) : (errSet c n).loops = c.loops := by
  simp only [errSet]; split <;> simp
@[simp] theorem errSet_keeps_joints (n : Nat) : (errSet c n).joints = c.joints := by
  simp only [errSet]; split <;> simp
@[simp] theorem errSet_keeps_solver (n : Nat) : (errSet c n).solver = c.solver := by
  simp only [errSet]; split <;> simp
@[simp] theorem errSet_keeps_planner (n : Nat) : (errSet c n).planner = c.planner := by
  simp only [errSet]; split <;> simp
@[simp] theorem errSet_keeps_prof (n : Nat) : (errSet c n).prof = c.prof := by
  simp only [errSet]; split <;> simp
@[simp] theorem errSet_keeps_sep (n : Nat) : (errSet c n).sep = c.sep := by
  simp only [errSet]; split <;> simp
@[simp] theorem errSet_keeps_sio (n : Nat) : (errSet c n).sio = c.sio := by
  simp only [errSet]; split <;> simp
@[simp] theorem errSet_keeps_metro (n : Nat) : (errSet c n).metro = c.metro := by
  simp only [errSet]; split <;> simp
@[simp] theorem errSet_keeps_mlink (n : Nat) : (errSet c n).mlink = c.mlink := by
  simp only [errSet]; split <;> simp
@[simp] theorem errSet_keeps_pair (n : Nat) : (errSet c n).pair = c.pair := by
  simp only [errSet]; split <;> simp
@[simp] theorem errSet_keeps_ster (n : Nat) : (errSet c n).ster = c.ster := by
  simp only [errSet]; split <;> simp
@[simp] theorem errSet_keeps_deferB (n : Nat) : (errSet c n).deferB = c.deferB := by
  simp only [errSet]; split <;> simp
@[simp] theorem errSet_keeps_deferP (n : Nat) : (errSet c n).deferP = c.deferP := by
  simp only [errSet]; split <;> simp
@[simp] theorem errSet_keeps_wire (n : Nat) : (errSet c n).wire = c.wire := by
  simp only [errSet]; split <;> simp
@[simp] theorem errSet_keeps_free (n : Nat) : (errSet c n).free = c.free := by
  simp only [errSet]; split <;> simp

/-! ### signalled -/

@[simp] theorem signalled_keeps_now (r n : Nat) : (signalled c r n).now = c.now := by
  simp only [signalled]; split <;> simp
@[simp] theorem signalled_keeps_ptOff (r n : Nat) : (signalled c r n).ptOff = c.ptOff := by
  simp only [signalled]; split <;> simp
@[simp] theorem signalled_keeps_cyc (r n : Nat) : (signalled c r n).cyc = c.cyc := by
  simp only [signalled]; split <;> simp
@[simp] theorem signalled_keeps_t0 (r n : Nat) : (signalled c r n).t0 = c.t0 := by
  simp only [signalled]; split <;> simp
@[simp] theorem signalled_keeps_cfg (r n : Nat) : (signalled c r n).cfg = c.cfg := by
  simp only [signalled]; split <;> simp
@[simp] theorem signalled_keeps_active (r n : Nat) : (signalled c r n).active = c.active := by
  simp only [signalled]; split <;> simp
@[simp] theorem signalled_keeps_sys (r n : Nat) : (signalled c r n).sys = c.sys := by
  simp only [signalled]; split <;> simp
@[simp] theorem signalled_keeps_pow (r n : Nat) : (signalled c r n).pow = c.pow := by
  simp only [signalled]; split <;> simp
@[simp] theorem signalled_keeps_anchor (r n : Nat) : (signalled c r n).anchor = c.anchor := by
  simp only [signalled]; split <;> simp
@[simp] theorem signalled_keeps_boot (r n : Nat) : (signalled c r n).boot = c.boot := by
  simp only [signalled]; split <;> simp
@[simp] theorem signalled_keeps_lt (r n : Nat) : (signalled c r n).lt = c.lt := by
  simp only [signalled]; split <;> simp
@[simp] theorem signalled_keeps_pt (r n : Nat) : (signalled c r n).pt = c.pt := by
  simp only [signalled]; split <;> simp
@[simp] theorem signalled_keeps_star (r n : Nat) : (signalled c r n).star = c.star := by
  simp only [signalled]; split <;> simp
@[simp] theorem signalled_keeps_loops (r n : Nat) : (signalled c r n).loops = c.loops := by
  simp only [signalled]; split <;> simp
@[simp] theorem signalled_keeps_joints (r n : Nat) : (signalled c r n).joints = c.joints := by
  simp only [signalled]; split <;> simp
@[simp] theorem signalled_keeps_solver (r n : Nat) : (signalled c r n).solver = c.solver := by
  simp only [signalled]; split <;> simp
@[simp] theorem signalled_keeps_planner (r n : Nat) : (signalled c r n).planner = c.planner := by
  simp only [signalled]; split <;> simp
@[simp] theorem signalled_keeps_prof (r n : Nat) : (signalled c r n).prof = c.prof := by
  simp only [signalled]; split <;> simp
@[simp] theorem signalled_keeps_sep (r n : Nat) : (signalled c r n).sep = c.sep := by
  simp only [signalled]; split <;> simp
@[simp] theorem signalled_keeps_sio (r n : Nat) : (signalled c r n).sio = c.sio := by
  simp only [signalled]; split <;> simp
@[simp] theorem signalled_keeps_metro (r n : Nat) : (signalled c r n).metro = c.metro := by
  simp only [signalled]; split <;> simp
@[simp] theorem signalled_keeps_mlink (r n : Nat) : (signalled c r n).mlink = c.mlink := by
  simp only [signalled]; split <;> simp
@[simp] theorem signalled_keeps_pair (r n : Nat) : (signalled c r n).pair = c.pair := by
  simp only [signalled]; split <;> simp
@[simp] theorem signalled_keeps_ster (r n : Nat) : (signalled c r n).ster = c.ster := by
  simp only [signalled]; split <;> simp
@[simp] theorem signalled_keeps_deferB (r n : Nat) : (signalled c r n).deferB = c.deferB := by
  simp only [signalled]; split <;> simp
@[simp] theorem signalled_keeps_deferP (r n : Nat) : (signalled c r n).deferP = c.deferP := by
  simp only [signalled]; split <;> simp
@[simp] theorem signalled_keeps_wire (r n : Nat) : (signalled c r n).wire = c.wire := by
  simp only [signalled]; split <;> simp
@[simp] theorem signalled_keeps_free (r n : Nat) : (signalled c r n).free = c.free := by
  simp only [signalled]; split <;> simp

/-! ### tunSend -/

@[simp] theorem tunSend_keeps_now (r : Nat) (es : List Entry) (b : Bool) : (tunSend c r es b).now = c.now := by
  simp only [tunSend]; rfl
@[simp] theorem tunSend_keeps_ptOff (r : Nat) (es : List Entry) (b : Bool) : (tunSend c r es b).ptOff = c.ptOff := by
  simp only [tunSend]; rfl
@[simp] theorem tunSend_keeps_cyc (r : Nat) (es : List Entry) (b : Bool) : (tunSend c r es b).cyc = c.cyc := by
  simp only [tunSend]; rfl
@[simp] theorem tunSend_keeps_t0 (r : Nat) (es : List Entry) (b : Bool) : (tunSend c r es b).t0 = c.t0 := by
  simp only [tunSend]; rfl
@[simp] theorem tunSend_keeps_cfg (r : Nat) (es : List Entry) (b : Bool) : (tunSend c r es b).cfg = c.cfg := by
  simp only [tunSend]; rfl
@[simp] theorem tunSend_keeps_active (r : Nat) (es : List Entry) (b : Bool) : (tunSend c r es b).active = c.active := by
  simp only [tunSend]; rfl
@[simp] theorem tunSend_keeps_sys (r : Nat) (es : List Entry) (b : Bool) : (tunSend c r es b).sys = c.sys := by
  simp only [tunSend]; rfl
@[simp] theorem tunSend_keeps_pow (r : Nat) (es : List Entry) (b : Bool) : (tunSend c r es b).pow = c.pow := by
  simp only [tunSend]; rfl
@[simp] theorem tunSend_keeps_anchor (r : Nat) (es : List Entry) (b : Bool) : (tunSend c r es b).anchor = c.anchor := by
  simp only [tunSend]; rfl
@[simp] theorem tunSend_keeps_boot (r : Nat) (es : List Entry) (b : Bool) : (tunSend c r es b).boot = c.boot := by
  simp only [tunSend]; rfl
@[simp] theorem tunSend_keeps_lt (r : Nat) (es : List Entry) (b : Bool) : (tunSend c r es b).lt = c.lt := by
  simp only [tunSend]; rfl
@[simp] theorem tunSend_keeps_pt (r : Nat) (es : List Entry) (b : Bool) : (tunSend c r es b).pt = c.pt := by
  simp only [tunSend]; rfl
@[simp] theorem tunSend_keeps_star (r : Nat) (es : List Entry) (b : Bool) : (tunSend c r es b).star = c.star := by
  simp only [tunSend]; rfl
@[simp] theorem tunSend_keeps_loops (r : Nat) (es : List Entry) (b : Bool) : (tunSend c r es b).loops = c.loops := by
  simp only [tunSend]; rfl
@[simp] theorem tunSend_keeps_joints (r : Nat) (es : List Entry) (b : Bool) : (tunSend c r es b).joints = c.joints := by
  simp only [tunSend]; rfl
@[simp] theorem tunSend_keeps_solver (r : Nat) (es : List Entry) (b : Bool) : (tunSend c r es b).solver = c.solver := by
  simp only [tunSend]; rfl
@[simp] theorem tunSend_keeps_planner (r : Nat) (es : List Entry) (b : Bool) : (tunSend c r es b).planner = c.planner := by
  simp only [tunSend]; rfl
@[simp] theorem tunSend_keeps_prof (r : Nat) (es : List Entry) (b : Bool) : (tunSend c r es b).prof = c.prof := by
  simp only [tunSend]; rfl
@[simp] theorem tunSend_keeps_sep (r : Nat) (es : List Entry) (b : Bool) : (tunSend c r es b).sep = c.sep := by
  simp only [tunSend]; rfl
@[simp] theorem tunSend_keeps_sio (r : Nat) (es : List Entry) (b : Bool) : (tunSend c r es b).sio = c.sio := by
  simp only [tunSend]; rfl
@[simp] theorem tunSend_keeps_metro (r : Nat) (es : List Entry) (b : Bool) : (tunSend c r es b).metro = c.metro := by
  simp only [tunSend]; rfl
@[simp] theorem tunSend_keeps_mlink (r : Nat) (es : List Entry) (b : Bool) : (tunSend c r es b).mlink = c.mlink := by
  simp only [tunSend]; rfl
@[simp] theorem tunSend_keeps_pair (r : Nat) (es : List Entry) (b : Bool) : (tunSend c r es b).pair = c.pair := by
  simp only [tunSend]; rfl
@[simp] theorem tunSend_keeps_ster (r : Nat) (es : List Entry) (b : Bool) : (tunSend c r es b).ster = c.ster := by
  simp only [tunSend]; rfl
@[simp] theorem tunSend_keeps_deferB (r : Nat) (es : List Entry) (b : Bool) : (tunSend c r es b).deferB = c.deferB := by
  simp only [tunSend]; rfl
@[simp] theorem tunSend_keeps_deferP (r : Nat) (es : List Entry) (b : Bool) : (tunSend c r es b).deferP = c.deferP := by
  simp only [tunSend]; rfl
@[simp] theorem tunSend_keeps_wire (r : Nat) (es : List Entry) (b : Bool) : (tunSend c r es b).wire = c.wire := by
  simp only [tunSend]; rfl
@[simp] theorem tunSend_keeps_free (r : Nat) (es : List Entry) (b : Bool) : (tunSend c r es b).free = c.free := by
  simp only [tunSend]; rfl

/-! ### putEntries -/

@[simp] theorem putEntries_keeps_now (r : Nat) (es : List Entry) : (putEntries c r es).now = c.now := by
  simp only [putEntries]; split <;> [split; skip] <;> simp
@[simp] theorem putEntries_keeps_ptOff (r : Nat) (es : List Entry) : (putEntries c r es).ptOff = c.ptOff := by
  simp only [putEntries]; split <;> [split; skip] <;> simp
@[simp] theorem putEntries_keeps_cyc (r : Nat) (es : List Entry) : (putEntries c r es).cyc = c.cyc := by
  simp only [putEntries]; split <;> [split; skip] <;> simp
@[simp] theorem putEntries_keeps_t0 (r : Nat) (es : List Entry) : (putEntries c r es).t0 = c.t0 := by
  simp only [putEntries]; split <;> [split; skip] <;> simp
@[simp] theorem putEntries_keeps_cfg (r : Nat) (es : List Entry) : (putEntries c r es).cfg = c.cfg := by
  simp only [putEntries]; split <;> [split; skip] <;> simp
@[simp] theorem putEntries_keeps_active (r : Nat) (es : List Entry) : (putEntries c r es).active = c.active := by
  simp only [putEntries]; split <;> [split; skip] <;> simp
@[simp] theorem putEntries_keeps_sys (r : Nat) (es : List Entry) : (putEntries c r es).sys = c.sys := by
  simp only [putEntries]; split <;> [split; skip] <;> simp
@[simp] theorem putEntries_keeps_pow (r : Nat) (es : List Entry) : (putEntries c r es).pow = c.pow := by
  simp only [putEntries]; split <;> [split; skip] <;> simp
@[simp] theorem putEntries_keeps_anchor (r : Nat) (es : List Entry) : (putEntries c r es).anchor = c.anchor := by
  simp only [putEntries]; split <;> [split; skip] <;> simp
@[simp] theorem putEntries_keeps_boot (r : Nat) (es : List Entry) : (putEntries c r es).boot = c.boot := by
  simp only [putEntries]; split <;> [split; skip] <;> simp
@[simp] theorem putEntries_keeps_lt (r : Nat) (es : List Entry) : (putEntries c r es).lt = c.lt := by
  simp only [putEntries]; split <;> [split; skip] <;> simp
@[simp] theorem putEntries_keeps_pt (r : Nat) (es : List Entry) : (putEntries c r es).pt = c.pt := by
  simp only [putEntries]; split <;> [split; skip] <;> simp
@[simp] theorem putEntries_keeps_star (r : Nat) (es : List Entry) : (putEntries c r es).star = c.star := by
  simp only [putEntries]; split <;> [split; skip] <;> simp
@[simp] theorem putEntries_keeps_loops (r : Nat) (es : List Entry) : (putEntries c r es).loops = c.loops := by
  simp only [putEntries]; split <;> [split; skip] <;> simp
@[simp] theorem putEntries_keeps_joints (r : Nat) (es : List Entry) : (putEntries c r es).joints = c.joints := by
  simp only [putEntries]; split <;> [split; skip] <;> simp
@[simp] theorem putEntries_keeps_solver (r : Nat) (es : List Entry) : (putEntries c r es).solver = c.solver := by
  simp only [putEntries]; split <;> [split; skip] <;> simp
@[simp] theorem putEntries_keeps_planner (r : Nat) (es : List Entry) : (putEntries c r es).planner = c.planner := by
  simp only [putEntries]; split <;> [split; skip] <;> simp
@[simp] theorem putEntries_keeps_prof (r : Nat) (es : List Entry) : (putEntries c r es).prof = c.prof := by
  simp only [putEntries]; split <;> [split; skip] <;> simp
@[simp] theorem putEntries_keeps_sep (r : Nat) (es : List Entry) : (putEntries c r es).sep = c.sep := by
  simp only [putEntries]; split <;> [split; skip] <;> simp
@[simp] theorem putEntries_keeps_sio (r : Nat) (es : List Entry) : (putEntries c r es).sio = c.sio := by
  simp only [putEntries]; split <;> [split; skip] <;> simp
@[simp] theorem putEntries_keeps_metro (r : Nat) (es : List Entry) : (putEntries c r es).metro = c.metro := by
  simp only [putEntries]; split <;> [split; skip] <;> simp
@[simp] theorem putEntries_keeps_mlink (r : Nat) (es : List Entry) : (putEntries c r es).mlink = c.mlink := by
  simp only [putEntries]; split <;> [split; skip] <;> simp
@[simp] theorem putEntries_keeps_pair (r : Nat) (es : List Entry) : (putEntries c r es).pair = c.pair := by
  simp only [putEntries]; split <;> [split; skip] <;> simp
@[simp] theorem putEntries_keeps_ster (r : Nat) (es : List Entry) : (putEntries c r es).ster = c.ster := by
  simp only [putEntries]; split <;> [split; skip] <;> simp
@[simp] theorem putEntries_keeps_deferB (r : Nat) (es : List Entry) : (putEntries c r es).deferB = c.deferB := by
  simp only [putEntries]; split <;> [split; skip] <;> simp
@[simp] theorem putEntries_keeps_deferP (r : Nat) (es : List Entry) : (putEntries c r es).deferP = c.deferP := by
  simp only [putEntries]; split <;> [split; skip] <;> simp
@[simp] theorem putEntries_keeps_wire (r : Nat) (es : List Entry) : (putEntries c r es).wire = c.wire := by
  simp only [putEntries]; split <;> [split; skip] <;> simp
@[simp] theorem putEntries_keeps_free (r : Nat) (es : List Entry) : (putEntries c r es).free = c.free := by
  simp only [putEntries]; split <;> [split; skip] <;> simp

/-! ### putOrHold -/

@[simp] theorem putOrHold_keeps_now (r : Nat) (es : List Entry) : (putOrHold c r es).now = c.now := by
  unfold putOrHold; split <;> simp
@[simp] theorem putOrHold_keeps_ptOff (r : Nat) (es : List Entry) : (putOrHold c r es).ptOff = c.ptOff := by
  unfold putOrHold; split <;> simp
@[simp] theorem putOrHold_keeps_cyc (r : Nat) (es : List Entry) : (putOrHold c r es).cyc = c.cyc := by
  unfold putOrHold; split <;> simp
@[simp] theorem putOrHold_keeps_t0 (r : Nat) (es : List Entry) : (putOrHold c r es).t0 = c.t0 := by
  unfold putOrHold; split <;> simp
@[simp] theorem putOrHold_keeps_cfg (r : Nat) (es : List Entry) : (putOrHold c r es).cfg = c.cfg := by
  unfold putOrHold; split <;> simp
@[simp] theorem putOrHold_keeps_active (r : Nat) (es : List Entry) : (putOrHold c r es).active = c.active := by
  unfold putOrHold; split <;> simp
@[simp] theorem putOrHold_keeps_sys (r : Nat) (es : List Entry) : (putOrHold c r es).sys = c.sys := by
  unfold putOrHold; split <;> simp
@[simp] theorem putOrHold_keeps_pow (r : Nat) (es : List Entry) : (putOrHold c r es).pow = c.pow := by
  unfold putOrHold; split <;> simp
@[simp] theorem putOrHold_keeps_anchor (r : Nat) (es : List Entry) : (putOrHold c r es).anchor = c.anchor := by
  unfold putOrHold; split <;> simp
@[simp] theorem putOrHold_keeps_boot (r : Nat) (es : List Entry) : (putOrHold c r es).boot = c.boot := by
  unfold putOrHold; split <;> simp
@[simp] theorem putOrHold_keeps_lt (r : Nat) (es : List Entry) : (putOrHold c r es).lt = c.lt := by
  unfold putOrHold; split <;> simp
@[simp] theorem putOrHold_keeps_pt (r : Nat) (es : List Entry) : (putOrHold c r es).pt = c.pt := by
  unfold putOrHold; split <;> simp
@[simp] theorem putOrHold_keeps_star (r : Nat) (es : List Entry) : (putOrHold c r es).star = c.star := by
  unfold putOrHold; split <;> simp
@[simp] theorem putOrHold_keeps_loops (r : Nat) (es : List Entry) : (putOrHold c r es).loops = c.loops := by
  unfold putOrHold; split <;> simp
@[simp] theorem putOrHold_keeps_joints (r : Nat) (es : List Entry) : (putOrHold c r es).joints = c.joints := by
  unfold putOrHold; split <;> simp
@[simp] theorem putOrHold_keeps_solver (r : Nat) (es : List Entry) : (putOrHold c r es).solver = c.solver := by
  unfold putOrHold; split <;> simp
@[simp] theorem putOrHold_keeps_planner (r : Nat) (es : List Entry) : (putOrHold c r es).planner = c.planner := by
  unfold putOrHold; split <;> simp
@[simp] theorem putOrHold_keeps_prof (r : Nat) (es : List Entry) : (putOrHold c r es).prof = c.prof := by
  unfold putOrHold; split <;> simp
@[simp] theorem putOrHold_keeps_sep (r : Nat) (es : List Entry) : (putOrHold c r es).sep = c.sep := by
  unfold putOrHold; split <;> simp
@[simp] theorem putOrHold_keeps_sio (r : Nat) (es : List Entry) : (putOrHold c r es).sio = c.sio := by
  unfold putOrHold; split <;> simp
@[simp] theorem putOrHold_keeps_metro (r : Nat) (es : List Entry) : (putOrHold c r es).metro = c.metro := by
  unfold putOrHold; split <;> simp
@[simp] theorem putOrHold_keeps_mlink (r : Nat) (es : List Entry) : (putOrHold c r es).mlink = c.mlink := by
  unfold putOrHold; split <;> simp
@[simp] theorem putOrHold_keeps_pair (r : Nat) (es : List Entry) : (putOrHold c r es).pair = c.pair := by
  unfold putOrHold; split <;> simp
@[simp] theorem putOrHold_keeps_ster (r : Nat) (es : List Entry) : (putOrHold c r es).ster = c.ster := by
  unfold putOrHold; split <;> simp
@[simp] theorem putOrHold_keeps_deferB (r : Nat) (es : List Entry) : (putOrHold c r es).deferB = c.deferB := by
  unfold putOrHold; split <;> simp
@[simp] theorem putOrHold_keeps_deferP (r : Nat) (es : List Entry) : (putOrHold c r es).deferP = c.deferP := by
  unfold putOrHold; split <;> simp
@[simp] theorem putOrHold_keeps_wire (r : Nat) (es : List Entry) : (putOrHold c r es).wire = c.wire := by
  unfold putOrHold; split <;> simp
@[simp] theorem putOrHold_keeps_free (r : Nat) (es : List Entry) : (putOrHold c r es).free = c.free := by
  unfold putOrHold; split <;> simp

/-! ### flushHeld -/

@[simp] theorem flushHeld_keeps_now (r : Nat) : (flushHeld c r).now = c.now := by
  simp only [flushHeld]; split <;> simp
@[simp] theorem flushHeld_keeps_ptOff (r : Nat) : (flushHeld c r).ptOff = c.ptOff := by
  simp only [flushHeld]; split <;> simp
@[simp] theorem flushHeld_keeps_cyc (r : Nat) : (flushHeld c r).cyc = c.cyc := by
  simp only [flushHeld]; split <;> simp
@[simp] theorem flushHeld_keeps_t0 (r : Nat) : (flushHeld c r).t0 = c.t0 := by
  simp only [flushHeld]; split <;> simp
@[simp] theorem flushHeld_keeps_cfg (r : Nat) : (flushHeld c r).cfg = c.cfg := by
  simp only [flushHeld]; split <;> simp
@[simp] theorem flushHeld_keeps_active (r : Nat) : (flushHeld c r).active = c.active := by
  simp only [flushHeld]; split <;> simp
@[simp] theorem flushHeld_keeps_sys (r : Nat) : (flushHeld c r).sys = c.sys := by
  simp only [flushHeld]; split <;> simp
@[simp] theorem flushHeld_keeps_pow (r : Nat) : (flushHeld c r).pow = c.pow := by
  simp only [flushHeld]; split <;> simp
@[simp] theorem flushHeld_keeps_anchor (r : Nat) : (flushHeld c r).anchor = c.anchor := by
  simp only [flushHeld]; split <;> simp
@[simp] theorem flushHeld_keeps_boot (r : Nat) : (flushHeld c r).boot = c.boot := by
  simp only [flushHeld]; split <;> simp
@[simp] theorem flushHeld_keeps_lt (r : Nat) : (flushHeld c r).lt = c.lt := by
  simp only [flushHeld]; split <;> simp
@[simp] theorem flushHeld_keeps_pt (r : Nat) : (flushHeld c r).pt = c.pt := by
  simp only [flushHeld]; split <;> simp
@[simp] theorem flushHeld_keeps_star (r : Nat) : (flushHeld c r).star = c.star := by
  simp only [flushHeld]; split <;> simp
@[simp] theorem flushHeld_keeps_loops (r : Nat) : (flushHeld c r).loops = c.loops := by
  simp only [flushHeld]; split <;> simp
@[simp] theorem flushHeld_keeps_joints (r : Nat) : (flushHeld c r).joints = c.joints := by
  simp only [flushHeld]; split <;> simp
@[simp] theorem flushHeld_keeps_solver (r : Nat) : (flushHeld c r).solver = c.solver := by
  simp only [flushHeld]; split <;> simp
@[simp] theorem flushHeld_keeps_planner (r : Nat) : (flushHeld c r).planner = c.planner := by
  simp only [flushHeld]; split <;> simp
@[simp] theorem flushHeld_keeps_prof (r : Nat) : (flushHeld c r).prof = c.prof := by
  simp only [flushHeld]; split <;> simp
@[simp] theorem flushHeld_keeps_sep (r : Nat) : (flushHeld c r).sep = c.sep := by
  simp only [flushHeld]; split <;> simp
@[simp] theorem flushHeld_keeps_sio (r : Nat) : (flushHeld c r).sio = c.sio := by
  simp only [flushHeld]; split <;> simp
@[simp] theorem flushHeld_keeps_metro (r : Nat) : (flushHeld c r).metro = c.metro := by
  simp only [flushHeld]; split <;> simp
@[simp] theorem flushHeld_keeps_mlink (r : Nat) : (flushHeld c r).mlink = c.mlink := by
  simp only [flushHeld]; split <;> simp
@[simp] theorem flushHeld_keeps_pair (r : Nat) : (flushHeld c r).pair = c.pair := by
  simp only [flushHeld]; split <;> simp
@[simp] theorem flushHeld_keeps_ster (r : Nat) : (flushHeld c r).ster = c.ster := by
  simp only [flushHeld]; split <;> simp
@[simp] theorem flushHeld_keeps_deferB (r : Nat) : (flushHeld c r).deferB = c.deferB := by
  simp only [flushHeld]; split <;> simp
@[simp] theorem flushHeld_keeps_deferP (r : Nat) : (flushHeld c r).deferP = c.deferP := by
  simp only [flushHeld]; split <;> simp
@[simp] theorem flushHeld_keeps_wire (r : Nat) : (flushHeld c r).wire = c.wire := by
  simp only [flushHeld]; split <;> simp
@[simp] theorem flushHeld_keeps_free (r : Nat) : (flushHeld c r).free = c.free := by
  simp only [flushHeld]; split <;> simp

/-! ### respond -/

@[simp] theorem respond_keeps_now (ring seq op : Nat) (p : Bytes) : (respond c ring seq op p).now = c.now := by
  simp only [respond]; split <;> simp
@[simp] theorem respond_keeps_ptOff (ring seq op : Nat) (p : Bytes) : (respond c ring seq op p).ptOff = c.ptOff := by
  simp only [respond]; split <;> simp
@[simp] theorem respond_keeps_cyc (ring seq op : Nat) (p : Bytes) : (respond c ring seq op p).cyc = c.cyc := by
  simp only [respond]; split <;> simp
@[simp] theorem respond_keeps_t0 (ring seq op : Nat) (p : Bytes) : (respond c ring seq op p).t0 = c.t0 := by
  simp only [respond]; split <;> simp
@[simp] theorem respond_keeps_cfg (ring seq op : Nat) (p : Bytes) : (respond c ring seq op p).cfg = c.cfg := by
  simp only [respond]; split <;> simp
@[simp] theorem respond_keeps_active (ring seq op : Nat) (p : Bytes) : (respond c ring seq op p).active = c.active := by
  simp only [respond]; split <;> simp
@[simp] theorem respond_keeps_sys (ring seq op : Nat) (p : Bytes) : (respond c ring seq op p).sys = c.sys := by
  simp only [respond]; split <;> simp
@[simp] theorem respond_keeps_pow (ring seq op : Nat) (p : Bytes) : (respond c ring seq op p).pow = c.pow := by
  simp only [respond]; split <;> simp
@[simp] theorem respond_keeps_anchor (ring seq op : Nat) (p : Bytes) : (respond c ring seq op p).anchor = c.anchor := by
  simp only [respond]; split <;> simp
@[simp] theorem respond_keeps_boot (ring seq op : Nat) (p : Bytes) : (respond c ring seq op p).boot = c.boot := by
  simp only [respond]; split <;> simp
@[simp] theorem respond_keeps_lt (ring seq op : Nat) (p : Bytes) : (respond c ring seq op p).lt = c.lt := by
  simp only [respond]; split <;> simp
@[simp] theorem respond_keeps_pt (ring seq op : Nat) (p : Bytes) : (respond c ring seq op p).pt = c.pt := by
  simp only [respond]; split <;> simp
@[simp] theorem respond_keeps_star (ring seq op : Nat) (p : Bytes) : (respond c ring seq op p).star = c.star := by
  simp only [respond]; split <;> simp
@[simp] theorem respond_keeps_loops (ring seq op : Nat) (p : Bytes) : (respond c ring seq op p).loops = c.loops := by
  simp only [respond]; split <;> simp
@[simp] theorem respond_keeps_joints (ring seq op : Nat) (p : Bytes) : (respond c ring seq op p).joints = c.joints := by
  simp only [respond]; split <;> simp
@[simp] theorem respond_keeps_solver (ring seq op : Nat) (p : Bytes) : (respond c ring seq op p).solver = c.solver := by
  simp only [respond]; split <;> simp
@[simp] theorem respond_keeps_planner (ring seq op : Nat) (p : Bytes) : (respond c ring seq op p).planner = c.planner := by
  simp only [respond]; split <;> simp
@[simp] theorem respond_keeps_prof (ring seq op : Nat) (p : Bytes) : (respond c ring seq op p).prof = c.prof := by
  simp only [respond]; split <;> simp
@[simp] theorem respond_keeps_sep (ring seq op : Nat) (p : Bytes) : (respond c ring seq op p).sep = c.sep := by
  simp only [respond]; split <;> simp
@[simp] theorem respond_keeps_sio (ring seq op : Nat) (p : Bytes) : (respond c ring seq op p).sio = c.sio := by
  simp only [respond]; split <;> simp
@[simp] theorem respond_keeps_metro (ring seq op : Nat) (p : Bytes) : (respond c ring seq op p).metro = c.metro := by
  simp only [respond]; split <;> simp
@[simp] theorem respond_keeps_mlink (ring seq op : Nat) (p : Bytes) : (respond c ring seq op p).mlink = c.mlink := by
  simp only [respond]; split <;> simp
@[simp] theorem respond_keeps_pair (ring seq op : Nat) (p : Bytes) : (respond c ring seq op p).pair = c.pair := by
  simp only [respond]; split <;> simp
@[simp] theorem respond_keeps_ster (ring seq op : Nat) (p : Bytes) : (respond c ring seq op p).ster = c.ster := by
  simp only [respond]; split <;> simp
@[simp] theorem respond_keeps_deferB (ring seq op : Nat) (p : Bytes) : (respond c ring seq op p).deferB = c.deferB := by
  simp only [respond]; split <;> simp
@[simp] theorem respond_keeps_deferP (ring seq op : Nat) (p : Bytes) : (respond c ring seq op p).deferP = c.deferP := by
  simp only [respond]; split <;> simp
@[simp] theorem respond_keeps_wire (ring seq op : Nat) (p : Bytes) : (respond c ring seq op p).wire = c.wire := by
  simp only [respond]; split <;> simp
@[simp] theorem respond_keeps_free (ring seq op : Nat) (p : Bytes) : (respond c ring seq op p).free = c.free := by
  simp only [respond]; split <;> simp

/-! ### enqueue -/

@[simp] theorem enqueue_keeps_now (m : OutMsg) : (enqueue c m).now = c.now := rfl
@[simp] theorem enqueue_keeps_ptOff (m : OutMsg) : (enqueue c m).ptOff = c.ptOff := rfl
@[simp] theorem enqueue_keeps_cyc (m : OutMsg) : (enqueue c m).cyc = c.cyc := rfl
@[simp] theorem enqueue_keeps_t0 (m : OutMsg) : (enqueue c m).t0 = c.t0 := rfl
@[simp] theorem enqueue_keeps_cfg (m : OutMsg) : (enqueue c m).cfg = c.cfg := rfl
@[simp] theorem enqueue_keeps_active (m : OutMsg) : (enqueue c m).active = c.active := rfl
@[simp] theorem enqueue_keeps_sys (m : OutMsg) : (enqueue c m).sys = c.sys := rfl
@[simp] theorem enqueue_keeps_pow (m : OutMsg) : (enqueue c m).pow = c.pow := rfl
@[simp] theorem enqueue_keeps_anchor (m : OutMsg) : (enqueue c m).anchor = c.anchor := rfl
@[simp] theorem enqueue_keeps_boot (m : OutMsg) : (enqueue c m).boot = c.boot := rfl
@[simp] theorem enqueue_keeps_lt (m : OutMsg) : (enqueue c m).lt = c.lt := rfl
@[simp] theorem enqueue_keeps_pt (m : OutMsg) : (enqueue c m).pt = c.pt := rfl
@[simp] theorem enqueue_keeps_star (m : OutMsg) : (enqueue c m).star = c.star := rfl
@[simp] theorem enqueue_keeps_loops (m : OutMsg) : (enqueue c m).loops = c.loops := rfl
@[simp] theorem enqueue_keeps_joints (m : OutMsg) : (enqueue c m).joints = c.joints := rfl
@[simp] theorem enqueue_keeps_solver (m : OutMsg) : (enqueue c m).solver = c.solver := rfl
@[simp] theorem enqueue_keeps_planner (m : OutMsg) : (enqueue c m).planner = c.planner := rfl
@[simp] theorem enqueue_keeps_prof (m : OutMsg) : (enqueue c m).prof = c.prof := rfl
@[simp] theorem enqueue_keeps_sep (m : OutMsg) : (enqueue c m).sep = c.sep := rfl
@[simp] theorem enqueue_keeps_sio (m : OutMsg) : (enqueue c m).sio = c.sio := rfl
@[simp] theorem enqueue_keeps_metro (m : OutMsg) : (enqueue c m).metro = c.metro := rfl
@[simp] theorem enqueue_keeps_mlink (m : OutMsg) : (enqueue c m).mlink = c.mlink := rfl
@[simp] theorem enqueue_keeps_pair (m : OutMsg) : (enqueue c m).pair = c.pair := rfl
@[simp] theorem enqueue_keeps_ster (m : OutMsg) : (enqueue c m).ster = c.ster := rfl
@[simp] theorem enqueue_keeps_deferB (m : OutMsg) : (enqueue c m).deferB = c.deferB := rfl
@[simp] theorem enqueue_keeps_deferP (m : OutMsg) : (enqueue c m).deferP = c.deferP := rfl
@[simp] theorem enqueue_keeps_wire (m : OutMsg) : (enqueue c m).wire = c.wire := rfl
@[simp] theorem enqueue_keeps_free (m : OutMsg) : (enqueue c m).free = c.free := rfl

/-! ### post -/

@[simp] theorem post_keeps_now (sub code b2 b3 : Nat) (x : Bytes) : (post c sub code b2 b3 x).now = c.now := rfl
@[simp] theorem post_keeps_ptOff (sub code b2 b3 : Nat) (x : Bytes) : (post c sub code b2 b3 x).ptOff = c.ptOff := rfl
@[simp] theorem post_keeps_cyc (sub code b2 b3 : Nat) (x : Bytes) : (post c sub code b2 b3 x).cyc = c.cyc := rfl
@[simp] theorem post_keeps_t0 (sub code b2 b3 : Nat) (x : Bytes) : (post c sub code b2 b3 x).t0 = c.t0 := rfl
@[simp] theorem post_keeps_cfg (sub code b2 b3 : Nat) (x : Bytes) : (post c sub code b2 b3 x).cfg = c.cfg := rfl
@[simp] theorem post_keeps_active (sub code b2 b3 : Nat) (x : Bytes) : (post c sub code b2 b3 x).active = c.active := rfl
@[simp] theorem post_keeps_sys (sub code b2 b3 : Nat) (x : Bytes) : (post c sub code b2 b3 x).sys = c.sys := rfl
@[simp] theorem post_keeps_pow (sub code b2 b3 : Nat) (x : Bytes) : (post c sub code b2 b3 x).pow = c.pow := rfl
@[simp] theorem post_keeps_anchor (sub code b2 b3 : Nat) (x : Bytes) : (post c sub code b2 b3 x).anchor = c.anchor := rfl
@[simp] theorem post_keeps_boot (sub code b2 b3 : Nat) (x : Bytes) : (post c sub code b2 b3 x).boot = c.boot := rfl
@[simp] theorem post_keeps_lt (sub code b2 b3 : Nat) (x : Bytes) : (post c sub code b2 b3 x).lt = c.lt := rfl
@[simp] theorem post_keeps_pt (sub code b2 b3 : Nat) (x : Bytes) : (post c sub code b2 b3 x).pt = c.pt := rfl
@[simp] theorem post_keeps_star (sub code b2 b3 : Nat) (x : Bytes) : (post c sub code b2 b3 x).star = c.star := rfl
@[simp] theorem post_keeps_loops (sub code b2 b3 : Nat) (x : Bytes) : (post c sub code b2 b3 x).loops = c.loops := rfl
@[simp] theorem post_keeps_joints (sub code b2 b3 : Nat) (x : Bytes) : (post c sub code b2 b3 x).joints = c.joints := rfl
@[simp] theorem post_keeps_solver (sub code b2 b3 : Nat) (x : Bytes) : (post c sub code b2 b3 x).solver = c.solver := rfl
@[simp] theorem post_keeps_planner (sub code b2 b3 : Nat) (x : Bytes) : (post c sub code b2 b3 x).planner = c.planner := rfl
@[simp] theorem post_keeps_prof (sub code b2 b3 : Nat) (x : Bytes) : (post c sub code b2 b3 x).prof = c.prof := rfl
@[simp] theorem post_keeps_sep (sub code b2 b3 : Nat) (x : Bytes) : (post c sub code b2 b3 x).sep = c.sep := rfl
@[simp] theorem post_keeps_sio (sub code b2 b3 : Nat) (x : Bytes) : (post c sub code b2 b3 x).sio = c.sio := rfl
@[simp] theorem post_keeps_metro (sub code b2 b3 : Nat) (x : Bytes) : (post c sub code b2 b3 x).metro = c.metro := rfl
@[simp] theorem post_keeps_mlink (sub code b2 b3 : Nat) (x : Bytes) : (post c sub code b2 b3 x).mlink = c.mlink := rfl
@[simp] theorem post_keeps_pair (sub code b2 b3 : Nat) (x : Bytes) : (post c sub code b2 b3 x).pair = c.pair := rfl
@[simp] theorem post_keeps_ster (sub code b2 b3 : Nat) (x : Bytes) : (post c sub code b2 b3 x).ster = c.ster := rfl
@[simp] theorem post_keeps_deferB (sub code b2 b3 : Nat) (x : Bytes) : (post c sub code b2 b3 x).deferB = c.deferB := rfl
@[simp] theorem post_keeps_deferP (sub code b2 b3 : Nat) (x : Bytes) : (post c sub code b2 b3 x).deferP = c.deferP := rfl
@[simp] theorem post_keeps_wire (sub code b2 b3 : Nat) (x : Bytes) : (post c sub code b2 b3 x).wire = c.wire := rfl
@[simp] theorem post_keeps_free (sub code b2 b3 : Nat) (x : Bytes) : (post c sub code b2 b3 x).free = c.free := rfl

/-! ### complete -/

@[simp] theorem complete_keeps_now (op : Nat) (st : Status) (ring seq fires : Nat) : (complete c op st ring seq fires).now = c.now := by
  unfold complete; split <;> simp
@[simp] theorem complete_keeps_ptOff (op : Nat) (st : Status) (ring seq fires : Nat) : (complete c op st ring seq fires).ptOff = c.ptOff := by
  unfold complete; split <;> simp
@[simp] theorem complete_keeps_cyc (op : Nat) (st : Status) (ring seq fires : Nat) : (complete c op st ring seq fires).cyc = c.cyc := by
  unfold complete; split <;> simp
@[simp] theorem complete_keeps_t0 (op : Nat) (st : Status) (ring seq fires : Nat) : (complete c op st ring seq fires).t0 = c.t0 := by
  unfold complete; split <;> simp
@[simp] theorem complete_keeps_cfg (op : Nat) (st : Status) (ring seq fires : Nat) : (complete c op st ring seq fires).cfg = c.cfg := by
  unfold complete; split <;> simp
@[simp] theorem complete_keeps_active (op : Nat) (st : Status) (ring seq fires : Nat) : (complete c op st ring seq fires).active = c.active := by
  unfold complete; split <;> simp
@[simp] theorem complete_keeps_sys (op : Nat) (st : Status) (ring seq fires : Nat) : (complete c op st ring seq fires).sys = c.sys := by
  unfold complete; split <;> simp
@[simp] theorem complete_keeps_pow (op : Nat) (st : Status) (ring seq fires : Nat) : (complete c op st ring seq fires).pow = c.pow := by
  unfold complete; split <;> simp
@[simp] theorem complete_keeps_anchor (op : Nat) (st : Status) (ring seq fires : Nat) : (complete c op st ring seq fires).anchor = c.anchor := by
  unfold complete; split <;> simp
@[simp] theorem complete_keeps_boot (op : Nat) (st : Status) (ring seq fires : Nat) : (complete c op st ring seq fires).boot = c.boot := by
  unfold complete; split <;> simp
@[simp] theorem complete_keeps_lt (op : Nat) (st : Status) (ring seq fires : Nat) : (complete c op st ring seq fires).lt = c.lt := by
  unfold complete; split <;> simp
@[simp] theorem complete_keeps_pt (op : Nat) (st : Status) (ring seq fires : Nat) : (complete c op st ring seq fires).pt = c.pt := by
  unfold complete; split <;> simp
@[simp] theorem complete_keeps_star (op : Nat) (st : Status) (ring seq fires : Nat) : (complete c op st ring seq fires).star = c.star := by
  unfold complete; split <;> simp
@[simp] theorem complete_keeps_loops (op : Nat) (st : Status) (ring seq fires : Nat) : (complete c op st ring seq fires).loops = c.loops := by
  unfold complete; split <;> simp
@[simp] theorem complete_keeps_joints (op : Nat) (st : Status) (ring seq fires : Nat) : (complete c op st ring seq fires).joints = c.joints := by
  unfold complete; split <;> simp
@[simp] theorem complete_keeps_solver (op : Nat) (st : Status) (ring seq fires : Nat) : (complete c op st ring seq fires).solver = c.solver := by
  unfold complete; split <;> simp
@[simp] theorem complete_keeps_planner (op : Nat) (st : Status) (ring seq fires : Nat) : (complete c op st ring seq fires).planner = c.planner := by
  unfold complete; split <;> simp
@[simp] theorem complete_keeps_prof (op : Nat) (st : Status) (ring seq fires : Nat) : (complete c op st ring seq fires).prof = c.prof := by
  unfold complete; split <;> simp
@[simp] theorem complete_keeps_sep (op : Nat) (st : Status) (ring seq fires : Nat) : (complete c op st ring seq fires).sep = c.sep := by
  unfold complete; split <;> simp
@[simp] theorem complete_keeps_sio (op : Nat) (st : Status) (ring seq fires : Nat) : (complete c op st ring seq fires).sio = c.sio := by
  unfold complete; split <;> simp
@[simp] theorem complete_keeps_metro (op : Nat) (st : Status) (ring seq fires : Nat) : (complete c op st ring seq fires).metro = c.metro := by
  unfold complete; split <;> simp
@[simp] theorem complete_keeps_mlink (op : Nat) (st : Status) (ring seq fires : Nat) : (complete c op st ring seq fires).mlink = c.mlink := by
  unfold complete; split <;> simp
@[simp] theorem complete_keeps_pair (op : Nat) (st : Status) (ring seq fires : Nat) : (complete c op st ring seq fires).pair = c.pair := by
  unfold complete; split <;> simp
@[simp] theorem complete_keeps_ster (op : Nat) (st : Status) (ring seq fires : Nat) : (complete c op st ring seq fires).ster = c.ster := by
  unfold complete; split <;> simp
@[simp] theorem complete_keeps_deferB (op : Nat) (st : Status) (ring seq fires : Nat) : (complete c op st ring seq fires).deferB = c.deferB := by
  unfold complete; split <;> simp
@[simp] theorem complete_keeps_deferP (op : Nat) (st : Status) (ring seq fires : Nat) : (complete c op st ring seq fires).deferP = c.deferP := by
  unfold complete; split <;> simp
@[simp] theorem complete_keeps_wire (op : Nat) (st : Status) (ring seq fires : Nat) : (complete c op st ring seq fires).wire = c.wire := by
  unfold complete; split <;> simp
@[simp] theorem complete_keeps_free (op : Nat) (st : Status) (ring seq fires : Nat) : (complete c op st ring seq fires).free = c.free := by
  unfold complete; split <;> simp

/-! ### raiseFault -/

@[simp] theorem raiseFault_keeps_now (code : Nat) (h : Bool) (o x : Nat) : (raiseFault c code h o x).now = c.now := by
  unfold raiseFault; split <;> split <;> rfl
@[simp] theorem raiseFault_keeps_ptOff (code : Nat) (h : Bool) (o x : Nat) : (raiseFault c code h o x).ptOff = c.ptOff := by
  unfold raiseFault; split <;> split <;> rfl
@[simp] theorem raiseFault_keeps_cyc (code : Nat) (h : Bool) (o x : Nat) : (raiseFault c code h o x).cyc = c.cyc := by
  unfold raiseFault; split <;> split <;> rfl
@[simp] theorem raiseFault_keeps_t0 (code : Nat) (h : Bool) (o x : Nat) : (raiseFault c code h o x).t0 = c.t0 := by
  unfold raiseFault; split <;> split <;> rfl
@[simp] theorem raiseFault_keeps_cfg (code : Nat) (h : Bool) (o x : Nat) : (raiseFault c code h o x).cfg = c.cfg := by
  unfold raiseFault; split <;> split <;> rfl
@[simp] theorem raiseFault_keeps_active (code : Nat) (h : Bool) (o x : Nat) : (raiseFault c code h o x).active = c.active := by
  unfold raiseFault; split <;> split <;> rfl
@[simp] theorem raiseFault_keeps_pow (code : Nat) (h : Bool) (o x : Nat) : (raiseFault c code h o x).pow = c.pow := by
  unfold raiseFault; split <;> split <;> rfl
@[simp] theorem raiseFault_keeps_mb (code : Nat) (h : Bool) (o x : Nat) : (raiseFault c code h o x).mb = c.mb := by
  unfold raiseFault; split <;> split <;> rfl
@[simp] theorem raiseFault_keeps_anchor (code : Nat) (h : Bool) (o x : Nat) : (raiseFault c code h o x).anchor = c.anchor := by
  unfold raiseFault; split <;> split <;> rfl
@[simp] theorem raiseFault_keeps_boot (code : Nat) (h : Bool) (o x : Nat) : (raiseFault c code h o x).boot = c.boot := by
  unfold raiseFault; split <;> split <;> rfl
@[simp] theorem raiseFault_keeps_lt (code : Nat) (h : Bool) (o x : Nat) : (raiseFault c code h o x).lt = c.lt := by
  unfold raiseFault; split <;> split <;> rfl
@[simp] theorem raiseFault_keeps_pt (code : Nat) (h : Bool) (o x : Nat) : (raiseFault c code h o x).pt = c.pt := by
  unfold raiseFault; split <;> split <;> rfl
@[simp] theorem raiseFault_keeps_star (code : Nat) (h : Bool) (o x : Nat) : (raiseFault c code h o x).star = c.star := by
  unfold raiseFault; split <;> split <;> rfl
@[simp] theorem raiseFault_keeps_loops (code : Nat) (h : Bool) (o x : Nat) : (raiseFault c code h o x).loops = c.loops := by
  unfold raiseFault; split <;> split <;> rfl
@[simp] theorem raiseFault_keeps_joints (code : Nat) (h : Bool) (o x : Nat) : (raiseFault c code h o x).joints = c.joints := by
  unfold raiseFault; split <;> split <;> rfl
@[simp] theorem raiseFault_keeps_solver (code : Nat) (h : Bool) (o x : Nat) : (raiseFault c code h o x).solver = c.solver := by
  unfold raiseFault; split <;> split <;> rfl
@[simp] theorem raiseFault_keeps_planner (code : Nat) (h : Bool) (o x : Nat) : (raiseFault c code h o x).planner = c.planner := by
  unfold raiseFault; split <;> split <;> rfl
@[simp] theorem raiseFault_keeps_prof (code : Nat) (h : Bool) (o x : Nat) : (raiseFault c code h o x).prof = c.prof := by
  unfold raiseFault; split <;> split <;> rfl
@[simp] theorem raiseFault_keeps_sep (code : Nat) (h : Bool) (o x : Nat) : (raiseFault c code h o x).sep = c.sep := by
  unfold raiseFault; split <;> split <;> rfl
@[simp] theorem raiseFault_keeps_sio (code : Nat) (h : Bool) (o x : Nat) : (raiseFault c code h o x).sio = c.sio := by
  unfold raiseFault; split <;> split <;> rfl
@[simp] theorem raiseFault_keeps_metro (code : Nat) (h : Bool) (o x : Nat) : (raiseFault c code h o x).metro = c.metro := by
  unfold raiseFault; split <;> split <;> rfl
@[simp] theorem raiseFault_keeps_mlink (code : Nat) (h : Bool) (o x : Nat) : (raiseFault c code h o x).mlink = c.mlink := by
  unfold raiseFault; split <;> split <;> rfl
@[simp] theorem raiseFault_keeps_pair (code : Nat) (h : Bool) (o x : Nat) : (raiseFault c code h o x).pair = c.pair := by
  unfold raiseFault; split <;> split <;> rfl
@[simp] theorem raiseFault_keeps_ster (code : Nat) (h : Bool) (o x : Nat) : (raiseFault c code h o x).ster = c.ster := by
  unfold raiseFault; split <;> split <;> rfl
@[simp] theorem raiseFault_keeps_deferB (code : Nat) (h : Bool) (o x : Nat) : (raiseFault c code h o x).deferB = c.deferB := by
  unfold raiseFault; split <;> split <;> rfl
@[simp] theorem raiseFault_keeps_deferP (code : Nat) (h : Bool) (o x : Nat) : (raiseFault c code h o x).deferP = c.deferP := by
  unfold raiseFault; split <;> split <;> rfl
@[simp] theorem raiseFault_keeps_wire (code : Nat) (h : Bool) (o x : Nat) : (raiseFault c code h o x).wire = c.wire := by
  unfold raiseFault; split <;> split <;> rfl
@[simp] theorem raiseFault_keeps_free (code : Nat) (h : Bool) (o x : Nat) : (raiseFault c code h o x).free = c.free := by
  unfold raiseFault; split <;> split <;> rfl

/-! ### haltGone -/

@[simp] theorem haltGone_keeps_now (code o : Nat) : (haltGone c code o).now = c.now := rfl
@[simp] theorem haltGone_keeps_ptOff (code o : Nat) : (haltGone c code o).ptOff = c.ptOff := rfl
@[simp] theorem haltGone_keeps_cyc (code o : Nat) : (haltGone c code o).cyc = c.cyc := rfl
@[simp] theorem haltGone_keeps_t0 (code o : Nat) : (haltGone c code o).t0 = c.t0 := rfl
@[simp] theorem haltGone_keeps_cfg (code o : Nat) : (haltGone c code o).cfg = c.cfg := rfl
@[simp] theorem haltGone_keeps_active (code o : Nat) : (haltGone c code o).active = c.active := rfl
@[simp] theorem haltGone_keeps_pow (code o : Nat) : (haltGone c code o).pow = c.pow := rfl
@[simp] theorem haltGone_keeps_mb (code o : Nat) : (haltGone c code o).mb = c.mb := rfl
@[simp] theorem haltGone_keeps_anchor (code o : Nat) : (haltGone c code o).anchor = c.anchor := rfl
@[simp] theorem haltGone_keeps_boot (code o : Nat) : (haltGone c code o).boot = c.boot := rfl
@[simp] theorem haltGone_keeps_lt (code o : Nat) : (haltGone c code o).lt = c.lt := rfl
@[simp] theorem haltGone_keeps_pt (code o : Nat) : (haltGone c code o).pt = c.pt := rfl
@[simp] theorem haltGone_keeps_star (code o : Nat) : (haltGone c code o).star = c.star := rfl
@[simp] theorem haltGone_keeps_loops (code o : Nat) : (haltGone c code o).loops = c.loops := rfl
@[simp] theorem haltGone_keeps_joints (code o : Nat) : (haltGone c code o).joints = c.joints := rfl
@[simp] theorem haltGone_keeps_solver (code o : Nat) : (haltGone c code o).solver = c.solver := rfl
@[simp] theorem haltGone_keeps_planner (code o : Nat) : (haltGone c code o).planner = c.planner := rfl
@[simp] theorem haltGone_keeps_prof (code o : Nat) : (haltGone c code o).prof = c.prof := rfl
@[simp] theorem haltGone_keeps_sep (code o : Nat) : (haltGone c code o).sep = c.sep := rfl
@[simp] theorem haltGone_keeps_sio (code o : Nat) : (haltGone c code o).sio = c.sio := rfl
@[simp] theorem haltGone_keeps_metro (code o : Nat) : (haltGone c code o).metro = c.metro := rfl
@[simp] theorem haltGone_keeps_mlink (code o : Nat) : (haltGone c code o).mlink = c.mlink := rfl
@[simp] theorem haltGone_keeps_pair (code o : Nat) : (haltGone c code o).pair = c.pair := rfl
@[simp] theorem haltGone_keeps_ster (code o : Nat) : (haltGone c code o).ster = c.ster := rfl
@[simp] theorem haltGone_keeps_deferB (code o : Nat) : (haltGone c code o).deferB = c.deferB := rfl
@[simp] theorem haltGone_keeps_deferP (code o : Nat) : (haltGone c code o).deferP = c.deferP := rfl
@[simp] theorem haltGone_keeps_wire (code o : Nat) : (haltGone c code o).wire = c.wire := rfl
@[simp] theorem haltGone_keeps_free (code o : Nat) : (haltGone c code o).free = c.free := rfl

/-! ### degradeGone -/

@[simp] theorem degradeGone_keeps_now (code o : Nat) : (degradeGone c code o).now = c.now := by
  unfold degradeGone; split <;> simp
@[simp] theorem degradeGone_keeps_ptOff (code o : Nat) : (degradeGone c code o).ptOff = c.ptOff := by
  unfold degradeGone; split <;> simp
@[simp] theorem degradeGone_keeps_cyc (code o : Nat) : (degradeGone c code o).cyc = c.cyc := by
  unfold degradeGone; split <;> simp
@[simp] theorem degradeGone_keeps_t0 (code o : Nat) : (degradeGone c code o).t0 = c.t0 := by
  unfold degradeGone; split <;> simp
@[simp] theorem degradeGone_keeps_cfg (code o : Nat) : (degradeGone c code o).cfg = c.cfg := by
  unfold degradeGone; split <;> simp
@[simp] theorem degradeGone_keeps_active (code o : Nat) : (degradeGone c code o).active = c.active := by
  unfold degradeGone; split <;> simp
@[simp] theorem degradeGone_keeps_pow (code o : Nat) : (degradeGone c code o).pow = c.pow := by
  unfold degradeGone; split <;> simp
@[simp] theorem degradeGone_keeps_mb (code o : Nat) : (degradeGone c code o).mb = c.mb := by
  unfold degradeGone; split <;> simp
@[simp] theorem degradeGone_keeps_anchor (code o : Nat) : (degradeGone c code o).anchor = c.anchor := by
  unfold degradeGone; split <;> simp
@[simp] theorem degradeGone_keeps_boot (code o : Nat) : (degradeGone c code o).boot = c.boot := by
  unfold degradeGone; split <;> simp
@[simp] theorem degradeGone_keeps_lt (code o : Nat) : (degradeGone c code o).lt = c.lt := by
  unfold degradeGone; split <;> simp
@[simp] theorem degradeGone_keeps_pt (code o : Nat) : (degradeGone c code o).pt = c.pt := by
  unfold degradeGone; split <;> simp
@[simp] theorem degradeGone_keeps_star (code o : Nat) : (degradeGone c code o).star = c.star := by
  unfold degradeGone; split <;> simp
@[simp] theorem degradeGone_keeps_loops (code o : Nat) : (degradeGone c code o).loops = c.loops := by
  unfold degradeGone; split <;> simp
@[simp] theorem degradeGone_keeps_joints (code o : Nat) : (degradeGone c code o).joints = c.joints := by
  unfold degradeGone; split <;> simp
@[simp] theorem degradeGone_keeps_solver (code o : Nat) : (degradeGone c code o).solver = c.solver := by
  unfold degradeGone; split <;> simp
@[simp] theorem degradeGone_keeps_planner (code o : Nat) : (degradeGone c code o).planner = c.planner := by
  unfold degradeGone; split <;> simp
@[simp] theorem degradeGone_keeps_prof (code o : Nat) : (degradeGone c code o).prof = c.prof := by
  unfold degradeGone; split <;> simp
@[simp] theorem degradeGone_keeps_sep (code o : Nat) : (degradeGone c code o).sep = c.sep := by
  unfold degradeGone; split <;> simp
@[simp] theorem degradeGone_keeps_sio (code o : Nat) : (degradeGone c code o).sio = c.sio := by
  unfold degradeGone; split <;> simp
@[simp] theorem degradeGone_keeps_metro (code o : Nat) : (degradeGone c code o).metro = c.metro := by
  unfold degradeGone; split <;> simp
@[simp] theorem degradeGone_keeps_mlink (code o : Nat) : (degradeGone c code o).mlink = c.mlink := by
  unfold degradeGone; split <;> simp
@[simp] theorem degradeGone_keeps_pair (code o : Nat) : (degradeGone c code o).pair = c.pair := by
  unfold degradeGone; split <;> simp
@[simp] theorem degradeGone_keeps_ster (code o : Nat) : (degradeGone c code o).ster = c.ster := by
  unfold degradeGone; split <;> simp
@[simp] theorem degradeGone_keeps_deferB (code o : Nat) : (degradeGone c code o).deferB = c.deferB := by
  unfold degradeGone; split <;> simp
@[simp] theorem degradeGone_keeps_deferP (code o : Nat) : (degradeGone c code o).deferP = c.deferP := by
  unfold degradeGone; split <;> simp
@[simp] theorem degradeGone_keeps_wire (code o : Nat) : (degradeGone c code o).wire = c.wire := by
  unfold degradeGone; split <;> simp
@[simp] theorem degradeGone_keeps_free (code o : Nat) : (degradeGone c code o).free = c.free := by
  unfold degradeGone; split <;> simp

/-! ### queueItem -/

@[simp] theorem queueItem_keeps_now (service due : Nat) (x : Bytes) : (queueItem c service due x).now = c.now := rfl
@[simp] theorem queueItem_keeps_ptOff (service due : Nat) (x : Bytes) : (queueItem c service due x).ptOff = c.ptOff := rfl
@[simp] theorem queueItem_keeps_cyc (service due : Nat) (x : Bytes) : (queueItem c service due x).cyc = c.cyc := rfl
@[simp] theorem queueItem_keeps_t0 (service due : Nat) (x : Bytes) : (queueItem c service due x).t0 = c.t0 := rfl
@[simp] theorem queueItem_keeps_cfg (service due : Nat) (x : Bytes) : (queueItem c service due x).cfg = c.cfg := rfl
@[simp] theorem queueItem_keeps_active (service due : Nat) (x : Bytes) : (queueItem c service due x).active = c.active := rfl
@[simp] theorem queueItem_keeps_sys (service due : Nat) (x : Bytes) : (queueItem c service due x).sys = c.sys := rfl
@[simp] theorem queueItem_keeps_pow (service due : Nat) (x : Bytes) : (queueItem c service due x).pow = c.pow := rfl
@[simp] theorem queueItem_keeps_mb (service due : Nat) (x : Bytes) : (queueItem c service due x).mb = c.mb := rfl
@[simp] theorem queueItem_keeps_anchor (service due : Nat) (x : Bytes) : (queueItem c service due x).anchor = c.anchor := rfl
@[simp] theorem queueItem_keeps_boot (service due : Nat) (x : Bytes) : (queueItem c service due x).boot = c.boot := rfl
@[simp] theorem queueItem_keeps_lt (service due : Nat) (x : Bytes) : (queueItem c service due x).lt = c.lt := rfl
@[simp] theorem queueItem_keeps_pt (service due : Nat) (x : Bytes) : (queueItem c service due x).pt = c.pt := rfl
@[simp] theorem queueItem_keeps_star (service due : Nat) (x : Bytes) : (queueItem c service due x).star = c.star := rfl
@[simp] theorem queueItem_keeps_loops (service due : Nat) (x : Bytes) : (queueItem c service due x).loops = c.loops := rfl
@[simp] theorem queueItem_keeps_joints (service due : Nat) (x : Bytes) : (queueItem c service due x).joints = c.joints := rfl
@[simp] theorem queueItem_keeps_solver (service due : Nat) (x : Bytes) : (queueItem c service due x).solver = c.solver := rfl
@[simp] theorem queueItem_keeps_planner (service due : Nat) (x : Bytes) : (queueItem c service due x).planner = c.planner := rfl
@[simp] theorem queueItem_keeps_prof (service due : Nat) (x : Bytes) : (queueItem c service due x).prof = c.prof := rfl
@[simp] theorem queueItem_keeps_sep (service due : Nat) (x : Bytes) : (queueItem c service due x).sep = c.sep := rfl
@[simp] theorem queueItem_keeps_sio (service due : Nat) (x : Bytes) : (queueItem c service due x).sio = c.sio := rfl
@[simp] theorem queueItem_keeps_metro (service due : Nat) (x : Bytes) : (queueItem c service due x).metro = c.metro := rfl
@[simp] theorem queueItem_keeps_mlink (service due : Nat) (x : Bytes) : (queueItem c service due x).mlink = c.mlink := rfl
@[simp] theorem queueItem_keeps_ster (service due : Nat) (x : Bytes) : (queueItem c service due x).ster = c.ster := rfl
@[simp] theorem queueItem_keeps_deferB (service due : Nat) (x : Bytes) : (queueItem c service due x).deferB = c.deferB := rfl
@[simp] theorem queueItem_keeps_deferP (service due : Nat) (x : Bytes) : (queueItem c service due x).deferP = c.deferP := rfl
@[simp] theorem queueItem_keeps_wire (service due : Nat) (x : Bytes) : (queueItem c service due x).wire = c.wire := rfl
@[simp] theorem queueItem_keeps_free (service due : Nat) (x : Bytes) : (queueItem c service due x).free = c.free := rfl

/-! ### setDev -/

@[simp] theorem setDev_keeps_now (d : DevState) (code : Nat) : (setDev c d code).now = c.now := rfl
@[simp] theorem setDev_keeps_ptOff (d : DevState) (code : Nat) : (setDev c d code).ptOff = c.ptOff := rfl
@[simp] theorem setDev_keeps_cyc (d : DevState) (code : Nat) : (setDev c d code).cyc = c.cyc := rfl
@[simp] theorem setDev_keeps_t0 (d : DevState) (code : Nat) : (setDev c d code).t0 = c.t0 := rfl
@[simp] theorem setDev_keeps_cfg (d : DevState) (code : Nat) : (setDev c d code).cfg = c.cfg := rfl
@[simp] theorem setDev_keeps_active (d : DevState) (code : Nat) : (setDev c d code).active = c.active := rfl
@[simp] theorem setDev_keeps_pow (d : DevState) (code : Nat) : (setDev c d code).pow = c.pow := rfl
@[simp] theorem setDev_keeps_anchor (d : DevState) (code : Nat) : (setDev c d code).anchor = c.anchor := rfl
@[simp] theorem setDev_keeps_boot (d : DevState) (code : Nat) : (setDev c d code).boot = c.boot := rfl
@[simp] theorem setDev_keeps_lt (d : DevState) (code : Nat) : (setDev c d code).lt = c.lt := rfl
@[simp] theorem setDev_keeps_pt (d : DevState) (code : Nat) : (setDev c d code).pt = c.pt := rfl
@[simp] theorem setDev_keeps_star (d : DevState) (code : Nat) : (setDev c d code).star = c.star := rfl
@[simp] theorem setDev_keeps_loops (d : DevState) (code : Nat) : (setDev c d code).loops = c.loops := rfl
@[simp] theorem setDev_keeps_joints (d : DevState) (code : Nat) : (setDev c d code).joints = c.joints := rfl
@[simp] theorem setDev_keeps_solver (d : DevState) (code : Nat) : (setDev c d code).solver = c.solver := rfl
@[simp] theorem setDev_keeps_planner (d : DevState) (code : Nat) : (setDev c d code).planner = c.planner := rfl
@[simp] theorem setDev_keeps_prof (d : DevState) (code : Nat) : (setDev c d code).prof = c.prof := rfl
@[simp] theorem setDev_keeps_sep (d : DevState) (code : Nat) : (setDev c d code).sep = c.sep := rfl
@[simp] theorem setDev_keeps_sio (d : DevState) (code : Nat) : (setDev c d code).sio = c.sio := rfl
@[simp] theorem setDev_keeps_metro (d : DevState) (code : Nat) : (setDev c d code).metro = c.metro := rfl
@[simp] theorem setDev_keeps_mlink (d : DevState) (code : Nat) : (setDev c d code).mlink = c.mlink := rfl
@[simp] theorem setDev_keeps_pair (d : DevState) (code : Nat) : (setDev c d code).pair = c.pair := rfl
@[simp] theorem setDev_keeps_ster (d : DevState) (code : Nat) : (setDev c d code).ster = c.ster := rfl
@[simp] theorem setDev_keeps_deferB (d : DevState) (code : Nat) : (setDev c d code).deferB = c.deferB := rfl
@[simp] theorem setDev_keeps_deferP (d : DevState) (code : Nat) : (setDev c d code).deferP = c.deferP := rfl
@[simp] theorem setDev_keeps_wire (d : DevState) (code : Nat) : (setDev c d code).wire = c.wire := rfl
@[simp] theorem setDev_keeps_free (d : DevState) (code : Nat) : (setDev c d code).free = c.free := rfl

end Sys2Proof.Machine
end

