-- ==== Sys2Proof/Laws/Memory.lean ====
section
/-!
SUPPORT. The scratch memory of a loop engine: a store keeps its form, is read back, and leaves every other address alone.
-/

namespace Sys2Proof.Machine

open Sys2Proof

theorem putCell_wf (a : Nat) (b : Byte) (m : List Host.Cell) (h : Memory.wf m = true) : Memory.wf (putCell a b m) = true := by
  simp only [Memory.wf, decide_eq_true_eq] at h ⊢
  unfold putCell
  rw [List.pairwise_append, List.pairwise_append]
  refine ⟨⟨h.filter _, List.pairwise_singleton _ _, ?_⟩, h.filter _, ?_⟩
  · intro x hx y hy
    simp only [List.mem_filter, decide_eq_true_eq, List.mem_singleton] at hx hy
    subst hy
    exact hx.2
  · intro x hx y hy
    simp only [List.mem_append, List.mem_filter, decide_eq_true_eq, List.mem_singleton] at hx hy
    rcases hx with hx | hx
    · omega
    · subst hx
      exact hy.2

theorem putCells_wf (l : List Nat) (g : Nat → Nat × Byte) (m : List Host.Cell) (h : Memory.wf m = true) :
    Memory.wf (l.foldl (fun n i => putCell (g i).1 (g i).2 n) m) = true := by
  induction l generalizing m with
  | nil => exact h
  | cons x l ih => exact ih _ (putCell_wf _ _ _ h)

/-- A store of a program keeps the form of its scratch memory. -/
theorem writeWord_wf (u : Cpu) (a : Nat) (w : BitVec 32) (h : Memory.wf u.scratch = true) :
    Memory.wf (writeWord u a w).scratch = true := by
  unfold writeWord
  dsimp only
  split
  · exact h
  · split
    · exact h
    · split
      · exact h
      · split
        · exact h
        · split
          · exact putCells_wf (List.range 4) (fun i => (a + i, ((le 4 w.toNat).drop i).headD 0)) _ h
          · exact h

theorem find_filter (m : List Host.Cell) (p : Host.Cell → Bool) (c : Nat) (h : ∀ x : Host.Cell, x.1 = c → p x = true) :
    (m.filter p).find? (fun x => x.1 = c) = m.find? (fun x => x.1 = c) := by
  induction m with
  | nil => rfl
  | cons x m ih =>
    by_cases hx : x.1 = c
    · simp [h x hx, hx]
    · by_cases hp : p x = true <;> simp [hp, hx, ih]

theorem find_filter_none (m : List Host.Cell) (p : Host.Cell → Bool) (c : Nat) (h : ∀ x : Host.Cell, x.1 = c → p x = false) :
    (m.filter p).find? (fun x => x.1 = c) = none := by
  simp only [List.find?_eq_none, List.mem_filter, decide_eq_true_eq, and_imp]
  intro x _ hp hc
  simp [h x hc] at hp

/-- A byte stored is read back. -/
theorem putCell_find_same (a : Nat) (b : Byte) (m : List Host.Cell) : (putCell a b m).find? (fun x => x.1 = a) = some (a, b) := by
  unfold putCell
  rw [List.append_assoc, List.find?_append, find_filter_none _ _ _ (by intro x h; simp [h])]
  simp

/-- A store leaves every other address alone. -/
theorem putCell_find_other (a c : Nat) (b : Byte) (m : List Host.Cell) (h : c ≠ a) :
    (putCell a b m).find? (fun x => x.1 = c) = m.find? (fun x => x.1 = c) := by
  unfold putCell
  rw [List.append_assoc, List.find?_append, List.find?_append]
  rcases Nat.lt_or_gt_of_ne h with h' | h'
  · rw [find_filter _ _ _ (by intro x hx; simp [hx, h']), find_filter_none m (fun x => a < x.1) c (by intro x hx; simp [hx]; omega)]
    simp [h.symm]
  · rw [find_filter_none _ _ _ (by intro x hx; simp [hx]; omega), find_filter m (fun x => a < x.1) c (by intro x hx; simp [hx, h'])]
    simp [h.symm]

/-- Reset: every engine's scratch memory is in its form. -/
theorem reset_scratch_wf : ∀ e : Fin 18, Memory.wf (vget State.reset.chip.loops.eng e).scratch = true := by decide

end Sys2Proof.Machine
end

