-- ==== Sys2Proof/Laws/Tables.lean ====
section
/-!
SUPPORT. Laws of the fixed-size tables and of the byte builders: what a read gives after a change, and how long each layout is.
-/

namespace Sys2Proof

variable {α : Type} [Inhabited α] {n : Nat}

theorem vget_eq (v : Vector α n) (i : Nat) (h : i < n) : vget v i = v[i] := by simp [vget, h]

@[simp] theorem vget_vmod_same (v : Vector α n) (i : Nat) (f : α → α) (h : i < n) : vget (vmod v i f) i = f (vget v i) := by
  simp [vget, vmod, h]

@[simp] theorem vget_vmod_ne (v : Vector α n) (i j : Nat) (f : α → α) (h : i ≠ j) : vget (vmod v i f) j = vget v j := by
  unfold vget vmod
  split
  · split
    · rw [Vector.getElem_set_ne _ _ h]
    · rfl
  · rfl

@[simp] theorem vget_vset_same (v : Vector α n) (i : Nat) (x : α) (h : i < n) : vget (vset v i x) i = x := by
  simp [vset, h]

@[simp] theorem vget_vset_ne (v : Vector α n) (i j : Nat) (x : α) (h : i ≠ j) : vget (vset v i x) j = vget v j := by
  simp [vset, h]

/-- One law for both cases. -/
theorem vget_vmod (v : Vector α n) (i j : Nat) (f : α → α) (h : j < n) :
    vget (vmod v i f) j = if i = j then f (vget v j) else vget v j := by
  by_cases e : i = j
  · subst e; simp [h]
  · simp [e]

theorem vget_vset (v : Vector α n) (i j : Nat) (x : α) (h : j < n) : vget (vset v i x) j = if i = j then x else vget v j := by
  rw [vset, vget_vmod _ _ _ _ h]

@[simp] theorem vget_vmapIdx (v : Vector α n) (f : Nat → α → α) (i : Nat) (h : i < n) : vget (vmapIdx v f) i = f i (vget v i) := by
  simp [vget, vmapIdx, h]

@[simp] theorem vget_replicate (x : α) (i : Nat) (h : i < n) : vget (Vector.replicate n x) i = x := by
  simp [vget, h]

omit [Inhabited α] in
@[simp] theorem vmod_id (v : Vector α n) (i : Nat) : vmod v i (fun x => x) = v := by
  unfold vmod
  split
  · apply Vector.ext; intro j hj; by_cases e : i = j
    · subst e; simp
    · rw [Vector.getElem_set_ne _ _ e]
  · rfl

/-- Two changes that agree on the entry give the same table. -/
theorem vmod_congr (v : Vector α n) (i : Nat) (f g : α → α) (h : f (vget v i) = g (vget v i)) : vmod v i f = vmod v i g := by
  unfold vmod
  split
  · rename_i hi
    rw [vget_eq v i hi] at h
    rw [h]
  · rfl

/-- A bit that is put is there. -/
@[simp] theorem mbit_mput_true (m i : Nat) : mbit (mput m i true) i = true := by
  simp [mbit, mput, Nat.testBit_shiftLeft]

theorem mbit_mput_mono (m i j : Nat) (h : mbit m j = true) : mbit (mput m i true) j = true := by
  simp only [mbit] at h
  simp [mbit, mput, h]

end Sys2Proof

namespace Sys2Proof.Machine

open Sys2Proof

@[simp] theorem le_length (n v : Nat) : (le n v).length = n := by
  induction n generalizing v with
  | zero => rfl
  | succ n ih => simp [le, ih]
@[simp] theorem leI_length (n : Nat) (v : Int) : (leI n v).length = n := by simp [leI]
@[simp] theorem zeros_length (n : Nat) : (zeros n).length = n := by simp [zeros]
@[simp] theorem slice_length (b : Bytes) (off n : Nat) : (slice b off n).length = n := by
  simp [slice]
@[simp] theorem fit_length (n : Nat) (b : Bytes) : (fit n b).length = n := slice_length b 0 n
@[simp] theorem wide_length (v : Int) : (wide v).length = 10 := by simp [wide]

end Sys2Proof.Machine
end

