-- ==== Sys2Proof/Laws/Settle.lean ====
section
/-!
SUPPORT. What the end of every command can do (`settle`), and what follows for a command that changes the module to `d`.
-/

namespace Sys2Proof.Machine

open Sys2Proof

variable (c d e : Chip)

theorem Rest.refl (h : c.now ≤ d.now) : Rest c d d := by
  constructor <;> first | rfl | simp_all

theorem Settled.refl (h : c.now ≤ d.now) : Settled c d d :=
  ⟨Rest.refl c d h, rfl, List.prefix_refl _, fun _ h => h, rfl⟩

/-- A step that adds to what is due, to the reports that wait and to ERR_STATUS keeps the relation. -/
theorem Settled.trans {c d e f : Chip} (h : Settled c d e) (g : Settled c e f) : Settled c d f := by
  obtain ⟨a, m, o, r, p⟩ := h
  obtain ⟨a', m', o', r', p'⟩ := g
  refine ⟨?_, ?_, o.trans o', fun b h => r' b (r b h), p'.trans p⟩
  · constructor
    case now => have := a.now; have := a'.now; omega
    case due => exact a.due.trans a'.due
    case sys => rw [a'.sys, a.sys]
    all_goals first
      | exact a'.ptOff.trans a.ptOff | exact a'.cyc.trans a.cyc | exact a'.t0.trans a.t0 | exact a'.cfg.trans a.cfg
      | exact a'.active.trans a.active | exact a'.pow.trans a.pow | exact a'.anchor.trans a.anchor | exact a'.boot.trans a.boot
      | exact a'.lt.trans a.lt | exact a'.pt.trans a.pt | exact a'.star.trans a.star | exact a'.loops.trans a.loops
      | exact a'.joints.trans a.joints | exact a'.solver.trans a.solver | exact a'.planner.trans a.planner
      | exact a'.prof.trans a.prof | exact a'.sep.trans a.sep | exact a'.sio.trans a.sio | exact a'.metro.trans a.metro
      | exact a'.mlink.trans a.mlink | exact a'.ster.trans a.ster | exact a'.deferB.trans a.deferB
      | exact a'.deferP.trans a.deferP | exact a'.wire.trans a.wire | exact a'.free.trans a.free
  · rw [m', m]

theorem Settled.after {c d e : Chip} (h : Settled c d e) : c.now ≤ e.now := by have := h.rest.now; omega

theorem settled_post (c d : Chip) (h : c.now ≤ d.now) (sub code b2 b3 : Nat) (x : Bytes) : Settled c d (post d sub code b2 b3 x) := by
  refine ⟨?_, rfl, List.prefix_append _ _, fun _ h => h, rfl⟩
  constructor <;> first | rfl | simp [post, enqueue, h]

/-- A vector is sent or waits: nothing but the vectors sent and the pending bits may differ. -/
theorem vector_eq (c : Chip) (n : Nat) :
    vector c n = c.onMb (fun m => { m with pba := (vector c n).mb.pba, irqOut := (vector c n).mb.irqOut }) := by
  unfold vector
  split
  · simp only [Chip.onMb]
    by_cases h : masked c.mb n = true <;> simp [h]
  · rfl

theorem settled_errSet (c d : Chip) (h : c.now ≤ d.now) (bit : Nat) : Settled c d (errSet d bit) := by
  have key : ∀ b, mbit d.mb.errStatus b = true → mbit (mput d.mb.errStatus bit true) b = true :=
    fun b h => mbit_mput_mono _ _ _ h
  simp only [errSet]
  split
  · exact ⟨by constructor <;> first | rfl | simp [h], rfl, List.prefix_refl _, key, rfl⟩
  · rw [vector_eq]
    exact ⟨by constructor <;> first | rfl | simp [h], rfl, List.prefix_refl _, key, rfl⟩

theorem settled_raise (c d : Chip) (h : c.now ≤ d.now) (code o x : Nat) : Settled c d (raiseFault d code true o x) := by
  simp only [raiseFault, if_true]
  split
  · exact Settled.refl c d h
  · refine ⟨?_, rfl, List.prefix_refl _, fun _ h => h, rfl⟩
    constructor <;> first | rfl | simp [h]

theorem settled_foldl {c d : Chip} (f : Chip → Nat → Chip) (hf : ∀ x b, c.now ≤ x.now → Settled c x (f x b))
    (l : List Nat) : ∀ x, Settled c d x → Settled c d (l.foldl f x) := by
  induction l with
  | nil => exact fun x h => h
  | cons b l ih => exact fun x h => ih _ (h.trans (hf x b h.after))

theorem settled_atTime : Settled c d (d.atTime c.now) :=
  ⟨by constructor <;> first | rfl | simp [Chip.atTime, max_comm], rfl, List.prefix_refl _, fun _ h => h, rfl⟩

theorem settled_latch (h : c.now ≤ d.now) : Settled c d (settleLatch c d) :=
  ⟨by constructor <;> first | rfl | simp [settleLatch, h], rfl, List.prefix_refl _, fun _ h => h, rfl⟩

theorem settled_report (h : c.now ≤ d.now) : Settled c d (settleReport c d) := by
  unfold settleReport; split
  · exact settled_post _ _ h _ _ _ _ _
  · exact Settled.refl _ _ h

theorem settled_halts (h : c.now ≤ d.now) (n : Nat) : Settled c d (settleHalts n d) := by
  unfold settleHalts; split
  · refine settled_foldl _ (fun x b hx => ?_) _ d (Settled.refl _ _ h)
    split
    · exact settled_raise _ _ hx _ _ _
    · exact Settled.refl _ _ hx
  · exact Settled.refl _ _ h

theorem settled_state (h : c.now ≤ d.now) : Settled c d (settleState c d) := by
  unfold settleState; split
  · exact settled_errSet _ _ h _
  · exact Settled.refl _ _ h

/-- The end of every command: it leaves everything `Settled` names alone. -/
theorem settle_settled (c d : Chip) : Settled c d (settle c d) := by
  have h0 := settled_atTime c d
  simp only [settle]
  split
  · exact h0
  · have h1 := h0.trans (settled_latch _ _ h0.after)
    have h2 := h1.trans (settled_report _ _ h1.after)
    have h3 := h2.trans (settled_halts _ _ h2.after (fallen c.sys d.sys))
    exact h3.trans (settled_state _ _ h3.after)

/-- A command of `run` that makes `d` completes with `d`, where it leaves the anchors and the metrology die alone. -/
theorem run_completes {i : Instr} {s : State} {f : Chip → Chip} {d : Chip} (hi : exec i s = run f s) (hf : f s.chip = d)
    (ha : d.anchor = s.chip.anchor) (hm : d.metro = s.chip.metro) : Completes i s d := by
  have h := settle_settled s.chip d
  refine ⟨_, hi, rfl, ?_⟩
  rw [hf, ← ha, ← hm, ← h.rest.anchor, ← h.rest.metro]
  exact h

theorem runMetro_completes {i : Instr} {s : State} {f : Chip → Chip} {d : Chip} (hi : exec i s = runMetro f s) (hf : f s.chip = d)
    (ha : d.anchor = s.chip.anchor) : Completes i s d := by
  have h := settle_settled s.chip d
  refine ⟨_, hi, rfl, ?_⟩
  rw [hf, ← ha, ← h.rest.anchor]
  exact h

theorem runAnchor_completes {i : Instr} {s : State} {f : Chip → Chip} {d : Chip} (hi : exec i s = runAnchor f s) (hf : f s.chip = d)
    (hm : d.metro = s.chip.metro) : Completes i s d := by
  have h := settle_settled s.chip d
  refine ⟨_, hi, rfl, ?_⟩
  rw [hf, ← hm, ← h.rest.metro]
  exact h

/-- A command of `run` of whose result `P` holds, whatever the end of the command adds. -/
theorem run_runs {i : Instr} {s : State} {f : Chip → Chip} {P : Chip → Prop} (hi : exec i s = run f s)
    (h : P { settle s.chip (f s.chip) with anchor := s.chip.anchor, metro := s.chip.metro }) : Runs i s P :=
  ⟨_, hi, rfl, h⟩

end Sys2Proof.Machine
end

