-- ==== Sys2Proof/Laws/Serve.lean ====
section
/-!
SUPPORT. What writing entries to rings can do, and how a host command that is heard is answered.
-/

namespace Sys2Proof.Machine

open Sys2Proof

/-- `d` is `c` but for rings of `R` and the mailbox's signalling; what waits for DELIVER_ENTRY is as it was. -/
structure RingOnly (R : Nat → Prop) (c d : Chip) : Prop where
  chip : d = { c with mb := d.mb }
  out : d.mb.out = c.mb.out
  rings : ∀ r, ¬ R r → vget d.mb.rings r = vget c.mb.rings r

/-- What the rings hold is unchanged. -/
def SameBuf (c d : Chip) : Prop := ∀ r, (vget d.mb.rings r).buf = (vget c.mb.rings r).buf

variable {R : Nat → Prop} {c d e : Chip}

theorem RingOnly.refl : RingOnly R c c := ⟨rfl, rfl, fun _ _ => rfl⟩

theorem RingOnly.trans (h : RingOnly R c d) (g : RingOnly R d e) : RingOnly R c e := by
  refine ⟨?_, g.out.trans h.out, fun r hr => (g.rings r hr).trans (h.rings r hr)⟩
  rw [g.chip, h.chip]

theorem SameBuf.refl : SameBuf c c := fun _ => rfl
theorem SameBuf.trans (h : SameBuf c d) (g : SameBuf d e) : SameBuf c e := fun r => (g r).trans (h r)

/-- A change of the mailbox that leaves its rings and what waits alone. -/
theorem ringOnly_onMb (f : Mailbox → Mailbox) (ho : (f c.mb).out = c.mb.out) (hr : (f c.mb).rings = c.mb.rings) :
    RingOnly R c (c.onMb f) := ⟨rfl, ho, fun _ _ => by simp [hr]⟩

theorem sameBuf_onMb (f : Mailbox → Mailbox) (hr : (f c.mb).rings = c.mb.rings) : SameBuf c (c.onMb f) := fun _ => by simp [hr]

theorem ringOnly_onRing (r : Nat) (f : Ring → Ring) (h : R r) : RingOnly R c (onRing c r f) := by
  refine ⟨rfl, rfl, fun k hk => ?_⟩
  have : r ≠ k := fun e => hk (e ▸ h)
  simp [onRing, this]

theorem onRing_get (r : Nat) (f : Ring → Ring) (h : r < 32) : vget (onRing c r f).mb.rings r = f (vget c.mb.rings r) := by
  simp [onRing, h]

theorem sameBuf_onRing (r : Nat) (f : Ring → Ring) (h : ∀ g, (f g).buf = g.buf) : SameBuf c (onRing c r f) := by
  intro k
  by_cases e : r = k
  · subst e
    by_cases hr : r < 32
    · simp [onRing, hr, h]
    · simp [vget, hr]
  · simp [onRing, e]

theorem ringOnly_writeBack (r : Nat) : RingOnly R c (writeBack c r) := by
  unfold writeBack; split
  · exact ringOnly_onMb _ rfl rfl
  · exact RingOnly.refl

theorem sameBuf_writeBack (r : Nat) : SameBuf c (writeBack c r) := by
  unfold writeBack; split
  · exact sameBuf_onMb _ rfl
  · exact SameBuf.refl

theorem ringOnly_moveRing (r : Nat) (f : Ring → Ring) (h : R r) : RingOnly R c (moveRing c r f) :=
  (ringOnly_onRing r f h).trans (ringOnly_writeBack r)

theorem moveRing_buf (r : Nat) (f : Ring → Ring) (h : r < 32) :
    (vget (moveRing c r f).mb.rings r).buf = (f (vget c.mb.rings r)).buf := by
  rw [moveRing, sameBuf_writeBack, onRing_get r f h]

theorem ringOnly_vector (n : Nat) : RingOnly R c (vector c n) := by
  rw [vector_eq]; exact ringOnly_onMb _ rfl rfl

theorem sameBuf_vector (n : Nat) : SameBuf c (vector c n) := by
  rw [vector_eq]; exact sameBuf_onMb _ rfl

theorem ringOnly_ringInt (r : Nat) (h : R r) : RingOnly R c (ringInt c r) := by
  have key : RingOnly R c (onRing (c.onMb (fun m => { m with intStatus := mput m.intStatus r true })) r
      (fun g => { g with unsignalled := 0 })) :=
    RingOnly.trans (ringOnly_onMb _ rfl rfl) (ringOnly_onRing _ _ h)
  simp only [ringInt]; split
  · split
    · exact key
    · exact key.trans (ringOnly_vector _)
  · exact RingOnly.refl

theorem sameBuf_ringInt (r : Nat) : SameBuf c (ringInt c r) := by
  have key : SameBuf c (onRing (c.onMb (fun m => { m with intStatus := mput m.intStatus r true })) r
      (fun g => { g with unsignalled := 0 })) :=
    SameBuf.trans (sameBuf_onMb _ rfl) (sameBuf_onRing _ _ fun _ => rfl)
  simp only [ringInt]; split
  · split
    · exact key
    · exact key.trans (sameBuf_vector _)
  · exact SameBuf.refl

theorem ringOnly_signalled (r n : Nat) (h : R r) : RingOnly R c (signalled c r n) := by
  have key : RingOnly R c (onRing c r (fun g => { g with unsignalled := g.unsignalled + n })) := ringOnly_onRing _ _ h
  simp only [signalled]; split
  · exact key.trans (ringOnly_ringInt r h)
  · exact key

theorem sameBuf_signalled (r n : Nat) : SameBuf c (signalled c r n) := by
  have key : SameBuf c (onRing c r (fun g => { g with unsignalled := g.unsignalled + n })) := sameBuf_onRing _ _ fun _ => rfl
  simp only [signalled]; split
  · exact key.trans (sameBuf_ringInt r)
  · exact key

theorem ringOnly_tunSend (r : Nat) (es : List Entry) (b : Bool) : RingOnly R c (tunSend c r es b) := by
  simp only [tunSend]; exact ringOnly_onMb _ rfl rfl
theorem sameBuf_tunSend (r : Nat) (es : List Entry) (b : Bool) : SameBuf c (tunSend c r es b) := sameBuf_onMb _ rfl

/-- Writing entries: the ring gains them behind what it holds; nothing but the ring and the signalling changes. -/
theorem ringOnly_putEntries (r : Nat) (es : List Entry) (h : R r) : RingOnly R c (putEntries c r es) := by
  have key : RingOnly R c (moveRing c r (fun g => { g with buf := g.buf ++ es, prod := (g.prod + es.length) % 65536 })) :=
    ringOnly_moveRing _ _ h
  simp only [putEntries]; split
  · split
    · exact key.trans (RingOnly.trans (ringOnly_onMb _ rfl rfl) (ringOnly_tunSend _ _ _))
    · exact key
  · exact key.trans (ringOnly_signalled _ _ h)

theorem putEntries_buf (r : Nat) (es : List Entry) (h : r < 32) :
    (vget (putEntries c r es).mb.rings r).buf = (vget c.mb.rings r).buf ++ es := by
  have key : (vget (moveRing c r (fun g => { g with buf := g.buf ++ es, prod := (g.prod + es.length) % 65536 })).mb.rings r).buf
      = (vget c.mb.rings r).buf ++ es := moveRing_buf r _ h
  simp only [putEntries]; split
  · split
    · exact (SameBuf.trans (sameBuf_onMb _ rfl) (sameBuf_tunSend _ _ _) r).trans key
    · exact key
  · exact (sameBuf_signalled _ _ r).trans key

/-- Entries that may not be dropped: written, or held back; in either case nothing but their ring and the signalling changes. -/
theorem ringOnly_putOrHold (r : Nat) (es : List Entry) (h : R r) : RingOnly R c (putOrHold c r es) := by
  unfold putOrHold; split
  · exact ringOnly_putEntries r es h
  · exact ringOnly_onRing _ _ h

/-- A response changes nothing but the command's ring, the response's ring and the signalling. -/
theorem ringOnly_respond (ring seq op : Nat) (p : Bytes) (h : R ring) (h' : R (answerRing ring)) :
    RingOnly R c (respond c ring seq op p) := by
  simp only [respond]
  split
  · rename_i hr
    simp only [answerRing, hr, if_true] at h'
    exact (ringOnly_onRing _ _ h).trans (ringOnly_putOrHold _ _ h')
  · exact (ringOnly_moveRing _ _ h).trans (ringOnly_ringInt _ h)

theorem entriesOf_mono {m n : Nat} (h : m ≤ n) : entriesOf m ≤ entriesOf n := by
  unfold entriesOf
  have : (m + 51) / 52 ≤ (n + 51) / 52 := Nat.div_le_div_right (by omega)
  omega

@[simp] theorem entries_length (op cls len : Nat) (p : Bytes) (l : Bool) (f : Nat → Nat) :
    (entries op cls len p l f).length = entriesOf len := by simp [entries]

theorem ringRoom_mono {r m n : Nat} (h : ringRoom c r n = true) (hm : m ≤ n) : ringRoom c r m = true := by
  simp only [ringRoom, Bool.and_eq_true, decide_eq_true_eq] at *
  exact ⟨h.1, le_trans (Nat.add_le_add_left hm _) h.2⟩

/-- The response is in its ring (15 R432-R434). -/
theorem respond_buf (ring seq op : Nat) (p : Bytes) (hr : ring < 8 ∨ ring = 30 ∨ ring = 31)
    (room : ring < 8 → ringRoom c (ring + 8) (entriesOf p.length) = true) :
    (vget (respond c ring seq op p).mb.rings (answerRing ring)).buf =
      (if ring < 8 then (vget c.mb.rings (ring + 8)).buf else []) ++ entries op 2 p.length p false (fun _ => seq) := by
  simp only [respond, answerRing]
  split
  · rename_i h
    have ne : ring ≠ ring + 8 := by omega
    have e : vget (onRing c ring (fun g => { g with msg := none })).mb.rings (ring + 8) = vget c.mb.rings (ring + 8) := by
      simp [onRing]
    have room' : ringRoom (onRing c ring (fun g => { g with msg := none })) (ring + 8)
        (entries op 2 p.length p false (fun _ => seq)).length = true := by
      rw [entries_length, ← room h]; simp only [ringRoom, e]
    rw [putOrHold, if_pos room', putEntries_buf _ _ (by omega), e]
  · rename_i h
    rw [sameBuf_ringInt, moveRing_buf _ _ (by omega)]
    rfl

theorem heard_ring {op longest layout q} (h : heard op longest layout q c = true) : q.ring < 8 ∨ q.ring = 30 ∨ q.ring = 31 := by
  simp only [heard, Bool.and_eq_true, Bool.or_eq_true, decide_eq_true_eq] at h
  tauto

theorem heard_room {op longest layout q} (h : heard op longest layout q c = true) (hr : q.ring < 8) :
    ringRoom c (q.ring + 8) (entriesOf longest) = true := by
  simp only [heard, Bool.and_eq_true, Bool.or_eq_true, decide_eq_true_eq, Bool.not_eq_true', decide_eq_false_iff_not] at h
  tauto

theorem heard_layout {op longest layout q} (h : heard op longest layout q c = true) : layout q.payload = true := by
  simp only [heard, Bool.and_eq_true] at h
  exact h.2

/-- The module after an accepted command's body, with the mirrored command on its way to the partner. -/
def mirrored (op : Nat) (st : Status) (p : Bytes) (c d : Chip) : Chip :=
  if st.full && pairGroup op = .mirrored && mirrors c then queueItem d 0x0101 (d.count + 2) (le 2 op ++ p) else d

/-- A heard command is judged and answered at once. -/
theorem serve_heard {op longest : Nat} {layout : Bytes → Bool} {body : Req → Chip → Reply} {q : Req}
    (h : heard op longest layout q c = true) :
    serve op longest layout body q c =
      let r := body q c
      let x := if r.st.full && pairGroup op = .mirrored && mirrors c then
        { r with chip := queueItem r.chip 0x0101 (c.count + 2) (le 2 op ++ q.payload) } else r
      if x.later then onRing x.chip q.ring (fun g => { g with msg := none })
      else respond x.chip q.ring q.seq op x.payload := by
  have hj : judge op layout body q c = body q c := by
    simp only [heard, Bool.and_eq_true, Bool.or_eq_true, decide_eq_true_eq] at h
    obtain ⟨⟨⟨⟨⟨⟨_, _⟩, _⟩, _⟩, ha⟩, hp⟩, hl⟩ := h
    have hp' : (decide (pairGroup op ≠ .unitLocal) && !holdsToken c) = false := by
      rcases hp with hp | hp <;> simp [hp]
    rw [judge, ha, hl, hp']; rfl
  have hr := heard_ring h
  have room := fun r => heard_room h r
  simp only [heard, Bool.and_eq_true, Bool.or_eq_true, decide_eq_true_eq] at h
  obtain ⟨⟨⟨⟨⟨⟨_, hs⟩, hm⟩, _⟩, _⟩, _⟩, _⟩ := h
  have hm' : (vget c.mb.rings q.ring).msg.isSome = false := by
    cases e : (vget c.mb.rings q.ring).msg <;> simp_all
  have g1 : (!(decide (q.ring < 8) || decide (q.ring = 30) || decide (q.ring = 31))) = false := by
    rcases hr with hr | hr | hr <;> simp [hr]
  have g2 : (decide (q.ring < 8) && !ringRoom c (q.ring + 8) (entriesOf longest)) = false := by
    by_cases hq : q.ring < 8
    · simp [room hq]
    · simp [hq]
  simp only [serve, g1, hs, hm', g2, hj]
  rfl

/-- How a heard host command completes, once its body is known: the response, the rest, the other rings, the reports, the pair. -/
theorem host_answers {i : Instr} {op longest : Nat} {layout : Bytes → Bool} {body : Req → Chip → Reply} {q : Req} {s : State}
    {st : Status} {data : Bytes} {d : Chip} (hi : exec i s = host op longest layout body q s)
    (h : heard op longest layout q s.chip = true) (hb : body q s.chip = { st := st, data := data, chip := d })
    (hd : st.full = true ∨ data = []) (hl : 4 + data.length ≤ longest) (hr : d.mb.rings = s.chip.mb.rings)
    (ha : d.anchor = s.chip.anchor) (hm : d.metro = s.chip.metro) :
    Answers i op q s st data d := by
  set d' := if st.full && pairGroup op = .mirrored && mirrors s.chip then
      queueItem d 0x0101 (s.chip.count + 2) (le 2 op ++ q.payload) else d with hd'
  have rest : d' = { d with pair := { d.pair with tx := d'.pair.tx } } := by
    rw [hd']; split <;> rfl
  have pay : (le 1 st.code ++ zeros 3 ++ (if st.full || false then data else [])) = le 1 st.code ++ zeros 3 ++ data := by
    rcases hd with hd | hd <;> simp [hd]
  have hserve : serve op longest layout body q s.chip = respond d' q.ring q.seq op (le 1 st.code ++ zeros 3 ++ data) := by
    rw [serve_heard h, hb]
    simp only [Reply.payload]
    rw [hd']
    split
    · simp only [pay]; rfl
    · simp only [pay]; rfl
  have len : (le 1 st.code ++ zeros 3 ++ data).length = 4 + data.length := by simp; omega
  have mb' : d'.mb = d.mb := by rw [rest]
  set e := respond d' q.ring q.seq op (le 1 st.code ++ zeros 3 ++ data) with he
  let R : Nat → Prop := fun r => r = q.ring ∨ r = answerRing q.ring
  have hre : RingOnly R d' e := ringOnly_respond _ _ _ _ (Or.inl rfl) (Or.inr rfl)
  have hs := settle_settled s.chip e
  set f := settle s.chip e
  have ef : e = { d' with mb := e.mb } := hre.chip
  have anchorE : e.anchor = s.chip.anchor := by rw [ef, rest]; exact ha
  have metroE : e.metro = s.chip.metro := by rw [ef, rest]; exact hm
  refine ⟨{ s with chip := { f with anchor := s.chip.anchor, metro := s.chip.metro } }, ?_, rfl, ?_, ?_, ?_, ?_, ?_⟩
  · rw [hi, host, run, hserve]
  · have hb' := respond_buf (c := d') q.ring q.seq op (le 1 st.code ++ zeros 3 ++ data) (heard_ring h) (by
      intro hq
      have := ringRoom_mono (heard_room h hq) (entriesOf_mono hl)
      rw [len]
      simpa only [ringRoom, mb', hr] using this)
    rw [len, mb', hr] at hb'
    show (vget f.mb.rings (answerRing q.ring)).buf = _
    have : f.mb.rings = e.mb.rings := by rw [hs.mb]
    rw [this]; exact hb'
  · have g : Rest s.chip e f := hs.rest
    have k : { f with anchor := s.chip.anchor, metro := s.chip.metro } = f := by
      rw [← anchorE, ← metroE, ← g.anchor, ← g.metro]
    show Rest s.chip d { f with anchor := s.chip.anchor, metro := s.chip.metro }
    rw [k]
    rw [ef, rest] at g
    exact ⟨g.now, g.ptOff, g.cyc, g.t0, g.cfg, g.active, g.sys, g.due, g.pow, g.anchor, g.boot, g.lt, g.pt, g.star, g.loops,
      g.joints, g.solver, g.planner, g.prof, g.sep, g.sio, g.metro, g.mlink, g.ster, g.deferB, g.deferP, g.wire, g.free⟩
  · intro r h1 h2
    show vget f.mb.rings r = _
    have : f.mb.rings = e.mb.rings := by rw [hs.mb]
    rw [this, hre.rings r (by simp [R, h1, h2]), mb']
  · show d.mb.out <+: f.mb.out
    rw [← mb', ← hre.out]; exact hs.out
  · show f.pair = { d.pair with tx := f.pair.tx }
    have : e.pair = d'.pair := by rw [ef]
    rw [hs.pair, this, rest]

end Sys2Proof.Machine
end

