-- ==== Sys2Proof/Laws/SettleFields.lean ====
section
/-!
SUPPORT. The end of every command, field by field: what `settle` leaves of the module.
-/

namespace Sys2Proof.Machine

variable (c d : Chip)

@[simp] theorem settle_now : (settle c d).now = max c.now d.now := (settle_settled c d).rest.now
@[simp] theorem settle_ptOff : (settle c d).ptOff = d.ptOff := (settle_settled c d).rest.ptOff
@[simp] theorem settle_cyc : (settle c d).cyc = d.cyc := (settle_settled c d).rest.cyc
@[simp] theorem settle_t0 : (settle c d).t0 = d.t0 := (settle_settled c d).rest.t0
@[simp] theorem settle_cfg : (settle c d).cfg = d.cfg := (settle_settled c d).rest.cfg
@[simp] theorem settle_active : (settle c d).active = d.active := (settle_settled c d).rest.active
@[simp] theorem settle_pow : (settle c d).pow = d.pow := (settle_settled c d).rest.pow
@[simp] theorem settle_anchor : (settle c d).anchor = d.anchor := (settle_settled c d).rest.anchor
@[simp] theorem settle_boot : (settle c d).boot = d.boot := (settle_settled c d).rest.boot
@[simp] theorem settle_lt : (settle c d).lt = d.lt := (settle_settled c d).rest.lt
@[simp] theorem settle_pt : (settle c d).pt = d.pt := (settle_settled c d).rest.pt
@[simp] theorem settle_star : (settle c d).star = d.star := (settle_settled c d).rest.star
@[simp] theorem settle_loops : (settle c d).loops = d.loops := (settle_settled c d).rest.loops
@[simp] theorem settle_joints : (settle c d).joints = d.joints := (settle_settled c d).rest.joints
@[simp] theorem settle_solver : (settle c d).solver = d.solver := (settle_settled c d).rest.solver
@[simp] theorem settle_planner : (settle c d).planner = d.planner := (settle_settled c d).rest.planner
@[simp] theorem settle_prof : (settle c d).prof = d.prof := (settle_settled c d).rest.prof
@[simp] theorem settle_sep : (settle c d).sep = d.sep := (settle_settled c d).rest.sep
@[simp] theorem settle_sio : (settle c d).sio = d.sio := (settle_settled c d).rest.sio
@[simp] theorem settle_metro : (settle c d).metro = d.metro := (settle_settled c d).rest.metro
@[simp] theorem settle_mlink : (settle c d).mlink = d.mlink := (settle_settled c d).rest.mlink
@[simp] theorem settle_pair : (settle c d).pair = d.pair := (settle_settled c d).pair
@[simp] theorem settle_ster : (settle c d).ster = d.ster := (settle_settled c d).rest.ster
@[simp] theorem settle_deferB : (settle c d).deferB = d.deferB := (settle_settled c d).rest.deferB
@[simp] theorem settle_deferP : (settle c d).deferP = d.deferP := (settle_settled c d).rest.deferP
@[simp] theorem settle_wire : (settle c d).wire = d.wire := (settle_settled c d).rest.wire
@[simp] theorem settle_free : (settle c d).free = d.free := (settle_settled c d).rest.free
@[simp] theorem settle_sys_dev : (settle c d).sys.dev = d.sys.dev := by rw [(settle_settled c d).rest.sys]
@[simp] theorem settle_sys_fromAuto : (settle c d).sys.fromAuto = d.sys.fromAuto := by rw [(settle_settled c d).rest.sys]
@[simp] theorem settle_sys_duhorn : (settle c d).sys.duhorn = d.sys.duhorn := by rw [(settle_settled c d).rest.sys]
@[simp] theorem settle_sys_heartbeat : (settle c d).sys.heartbeat = d.sys.heartbeat := by rw [(settle_settled c d).rest.sys]
@[simp] theorem settle_sys_imageOk : (settle c d).sys.imageOk = d.sys.imageOk := by rw [(settle_settled c d).rest.sys]
@[simp] theorem settle_sys_supplyOk : (settle c d).sys.supplyOk = d.sys.supplyOk := by rw [(settle_settled c d).rest.sys]
@[simp] theorem settle_sys_tempOk : (settle c d).sys.tempOk = d.sys.tempOk := by rw [(settle_settled c d).rest.sys]
@[simp] theorem settle_sys_slotsOk : (settle c d).sys.slotsOk = d.sys.slotsOk := by rw [(settle_settled c d).rest.sys]
@[simp] theorem settle_sys_axesOk : (settle c d).sys.axesOk = d.sys.axesOk := by rw [(settle_settled c d).rest.sys]
@[simp] theorem settle_sys_confirmed : (settle c d).sys.confirmed = d.sys.confirmed := by rw [(settle_settled c d).rest.sys]
@[simp] theorem settle_sys_safetyDefaults : (settle c d).sys.safetyDefaults = d.sys.safetyDefaults := by rw [(settle_settled c d).rest.sys]
@[simp] theorem settle_sys_fallback : (settle c d).sys.fallback = d.sys.fallback := by rw [(settle_settled c d).rest.sys]
@[simp] theorem settle_sys_fallbackMap : (settle c d).sys.fallbackMap = d.sys.fallbackMap := by rw [(settle_settled c d).rest.sys]
@[simp] theorem settle_sys_degCauses : (settle c d).sys.degCauses = d.sys.degCauses := by rw [(settle_settled c d).rest.sys]
@[simp] theorem settle_sys_haltCode : (settle c d).sys.haltCode = d.sys.haltCode := by rw [(settle_settled c d).rest.sys]
@[simp] theorem settle_sys_haltObject : (settle c d).sys.haltObject = d.sys.haltObject := by rw [(settle_settled c d).rest.sys]
@[simp] theorem settle_sys_haltCycle : (settle c d).sys.haltCycle = d.sys.haltCycle := by rw [(settle_settled c d).rest.sys]
@[simp] theorem settle_sys_log : (settle c d).sys.log = d.sys.log := by rw [(settle_settled c d).rest.sys]
@[simp] theorem settle_sys_logged : (settle c d).sys.logged = d.sys.logged := by rw [(settle_settled c d).rest.sys]
@[simp] theorem settle_sys_nor : (settle c d).sys.nor = d.sys.nor := by rw [(settle_settled c d).rest.sys]
@[simp] theorem settle_sys_norCount : (settle c d).sys.norCount = d.sys.norCount := by rw [(settle_settled c d).rest.sys]
@[simp] theorem settle_sys_clearPending : (settle c d).sys.clearPending = d.sys.clearPending := by rw [(settle_settled c d).rest.sys]
@[simp] theorem settle_sys_deviceReset : (settle c d).sys.deviceReset = d.sys.deviceReset := by rw [(settle_settled c d).rest.sys]
@[simp] theorem settle_sys_autoLatched : (settle c d).sys.autoLatched = d.sys.autoLatched := by rw [(settle_settled c d).rest.sys]
@[simp] theorem settle_sys_readyWait : (settle c d).sys.readyWait = d.sys.readyWait := by rw [(settle_settled c d).rest.sys]
@[simp] theorem settle_sys_autoStopping : (settle c d).sys.autoStopping = d.sys.autoStopping := by rw [(settle_settled c d).rest.sys]
@[simp] theorem settle_sys_autoOffEnd : (settle c d).sys.autoOffEnd = d.sys.autoOffEnd := by rw [(settle_settled c d).rest.sys]
@[simp] theorem settle_sys_resetting : (settle c d).sys.resetting = d.sys.resetting := by rw [(settle_settled c d).rest.sys]
@[simp] theorem settle_sys_releasedAt : (settle c d).sys.releasedAt = d.sys.releasedAt := by rw [(settle_settled c d).rest.sys]
@[simp] theorem settle_sys_tCase : (settle c d).sys.tCase = d.sys.tCase := by rw [(settle_settled c d).rest.sys]
@[simp] theorem settle_sys_hotRun : (settle c d).sys.hotRun = d.sys.hotRun := by rw [(settle_settled c d).rest.sys]
@[simp] theorem settle_sys_tPeak : (settle c d).sys.tPeak = d.sys.tPeak := by rw [(settle_settled c d).rest.sys]
@[simp] theorem settle_sys_tDie : (settle c d).sys.tDie = d.sys.tDie := by rw [(settle_settled c d).rest.sys]
@[simp] theorem settle_sys_tSafe : (settle c d).sys.tSafe = d.sys.tSafe := by rw [(settle_settled c d).rest.sys]
@[simp] theorem settle_mb_rings : (settle c d).mb.rings = d.mb.rings := by rw [(settle_settled c d).mb]
@[simp] theorem settle_mb_intStatus : (settle c d).mb.intStatus = d.mb.intStatus := by rw [(settle_settled c d).mb]
@[simp] theorem settle_mb_intMask : (settle c d).mb.intMask = d.mb.intMask := by rw [(settle_settled c d).mb]
@[simp] theorem settle_mb_errMask : (settle c d).mb.errMask = d.mb.errMask := by rw [(settle_settled c d).mb]
@[simp] theorem settle_mb_wbLo : (settle c d).mb.wbLo = d.mb.wbLo := by rw [(settle_settled c d).mb]
@[simp] theorem settle_mb_wbEn : (settle c d).mb.wbEn = d.mb.wbEn := by rw [(settle_settled c d).mb]
@[simp] theorem settle_mb_wbHi : (settle c d).mb.wbHi = d.mb.wbHi := by rw [(settle_settled c d).mb]
@[simp] theorem settle_mb_wb : (settle c d).mb.wb = d.mb.wb := by rw [(settle_settled c d).mb]
@[simp] theorem settle_mb_msix : (settle c d).mb.msix = d.mb.msix := by rw [(settle_settled c d).mb]
@[simp] theorem settle_mb_rdata : (settle c d).mb.rdata = d.mb.rdata := by rw [(settle_settled c d).mb]
@[simp] theorem settle_mb_lineEvtDrop : (settle c d).mb.lineEvtDrop = d.mb.lineEvtDrop := by rw [(settle_settled c d).mb]
@[simp] theorem settle_mb_ttrigDrop : (settle c d).mb.ttrigDrop = d.mb.ttrigDrop := by rw [(settle_settled c d).mb]
@[simp] theorem settle_mb_session : (settle c d).mb.session = d.mb.session := by rw [(settle_settled c d).mb]
@[simp] theorem settle_mb_tunOpen : (settle c d).mb.tunOpen = d.mb.tunOpen := by rw [(settle_settled c d).mb]
@[simp] theorem settle_mb_sessions : (settle c d).mb.sessions = d.mb.sessions := by rw [(settle_settled c d).mb]
@[simp] theorem settle_mb_tunDiscard : (settle c d).mb.tunDiscard = d.mb.tunDiscard := by rw [(settle_settled c d).mb]
@[simp] theorem settle_mb_tunTries : (settle c d).mb.tunTries = d.mb.tunTries := by rw [(settle_settled c d).mb]
@[simp] theorem settle_mb_tunSent : (settle c d).mb.tunSent = d.mb.tunSent := by rw [(settle_settled c d).mb]
@[simp] theorem settle_mb_tunOut : (settle c d).mb.tunOut = d.mb.tunOut := by rw [(settle_settled c d).mb]
@[simp] theorem settle_mb_classP : (settle c d).mb.classP = d.mb.classP := by rw [(settle_settled c d).mb]

end Sys2Proof.Machine
end

