-- ==== Sys2Proof/WellFormed.lean ====
section
/-!
DEFINITION. Which command terms stand for something that can reach the module: field widths, index ranges, frame lengths.
-/

namespace Sys2Proof

/-- A run of at most `n` bytes. -/
def bytesLe (b : Bytes) (n : Nat) : Bool := b.length ≤ n

/-- A message of 15 R435: one of 32 rings, a 16-bit sequence, at most 65 535 payload bytes. -/
def Req.wf (q : Req) : Bool := q.ring < 32 && q.seq < 65536 && q.payload.length ≤ 65535

/-- An entry of 15 R435: 52 payload bytes, 16-bit opcode, sequence and length, 8-bit class. -/
def EntryRead.wf (e : EntryRead) : Bool :=
  e.opcode < 65536 && e.seq < 65536 && e.len < 65536 && e.cls < 256 && e.payload.length = 52

/-- The reads of one entry: one, and up to three re-reads while the check fails (15 R436). -/
def readsWf (r : List EntryRead) : Bool := 1 ≤ r.length && r.length ≤ 4 && r.all EntryRead.wf

/-- An offset of the 64-KiB register page (15 R429). -/
def pageOff (off : Nat) : Bool := off < 65536

/-- A temperature in signed Q8.8 (16 R460). -/
def tempWf (t : Int) : Bool := -32768 ≤ t && t ≤ 32767

/-- Well-formed commands. -/
def Instr.wf : Instr → Bool
  | .cycleBoundary _ => true
  | .ssiFrame _ raw _ _ => raw < 2 ^ 32
  | .predictionInstant => true
  | .lineHoldoverExpiry _ => true
  | .sourceFault _ cause => cause < 4
  | .eventFire _ => true
  | .latchEdge _ _ _ => true
  | .latchRecordWrite _ => true
  | .lineStatePublish _ => true
  | .lineStateReceive _ _ dgram => bytesLe dgram 1472
  | .timeTriggerFire _ => true
  | .syncReceived _ _ _ _ => true
  | .ptpPortSlave _ _ => true
  | .ptpHoldoverExpiry => true
  | .timeStep => true
  | .txTimestamp _ id _ seqId _ frame => id < 256 && seqId < 65536 && frame.length ≤ 1514
  | .uplinkReceived _ _ _ frame => bytesLe frame 256
  | .axisDispatch _ off => off < 250000
  | .inputMissingDispatch _ => true
  | .axisCommit _ off => off < 250000
  | .axisProtectionFault _ cause => 2 ≤ cause && cause ≤ 4
  | .loopDeadline => true
  | .downlinkSend _ => true
  | .echoRequestSend => true
  | .echoRespReceived _ _ _ frame => bytesLe frame 256
  | .claimReceived _ _ got => bytesLe got.frame 256
  | .linkStateChange _ _ _ => true
  | .channelCountExpiry _ _ => true
  | .coldStartEnd => true
  | .claimRefusedExpiry _ => true
  | .claimReleaseDown _ => true
  | .acyclicBlockReceived _ block => block.length = 64
  | .acyclicRetry _ => true
  | .nodeResponseTimeout _ => true
  | .classCStart _ => true
  | .feedForwardDone _ _ off => off < 250000
  | .classPJobStart _ => true
  | .ikIteratePublished _ _ _ => true
  | .solverJobDone _ _ => true
  | .solverJobDeadline _ => true
  | .solverResultExpiry _ => true
  | .plannerTick => true
  | .plannerLoadWindow load => load ≤ 6553600
  | .plannerCoreRemoved _ _ => true
  | .streamGapExpiry _ => true
  | .homeSearchTimeout _ => true
  | .holdCurrentDelay _ => true
  | .enableTimeout _ => true
  | .brakeEngageExpiry _ => true
  | .powerOffTimeout _ => true
  | .stopOverdue _ => true
  | .jointTestEnd _ => true
  | .offTimeElapsed _ => true
  | .separationPeriod _ _ => true
  | .reportMissing _ => true
  | .classEffective => true
  | .scanPduReceived _ dgram => dgram.src < 4294967296 && bytesLe dgram.data 1472
  | .sensorTimeout _ => true
  | .safetyPduReceived conn pdu => conn < 2 ^ 32 && bytesLe pdu 32
  | .safetyConnWatchdog conn => conn < 2 ^ 32
  | .sioLogicCycle _ => true
  | .safeInputChange _ _ _ => true
  | .inputPairDiscrepancy _ _ => true
  | .pulseMissing _ _ => true
  | .darkPulseStart _ => true
  | .darkPulseEnd _ _ => true
  | .outTestOverdue _ => true
  | .outExtVoltage _ => true
  | .outOverload _ => true
  | .edmTimeout _ => true
  | .armedTimeout _ => true
  | .cat1Expiry _ => true
  | .operatorReset _ => true
  | .resetStuck _ => true
  | .confirmResetTimeout => true
  | .clearFaultTimeout => true
  | .metroMessageReceived msg => bytesLe msg 64
  | .weighWindowTimeout _ => true
  | .messageGap => true
  | .selfCheckStart _ => true
  | .selfCheckDone _ _ => true
  | .zeroOverdue _ => true
  | .checkOverdue _ => true
  | .batchClose => true
  | .sealNChange _ => true
  | .metroPowerUp _ => true
  | .metroSilent => true
  | .interlockPulse _ => true
  | .heartbeatLost => true
  | .pairSyncReceived frame _ => bytesLe frame 1024
  | .mirrorReceived frame => bytesLe frame 4096
  | .pairLinkLost => true
  | .digestCompare => true
  | .pairClassReceived frame => bytesLe frame 1024
  | .sensorRelayReceived frame => bytesLe frame 2048
  | .partnerWaitExpiry => true
  | .isolationExpiry => true
  | .stateTransferDone => true
  | .swapConfirm => true
  | .sliceDue => true
  | .sliceSkipped => true
  | .plannedMigration => true
  | .sliceDone kind inst res => 1 ≤ kind && kind ≤ 6 && inst < 49 && res ≤ 7
  | .laneHoldEnd => true
  | .rxMismatch kind inst => kind = 6 && inst < 22
  | .doorbell _ v => v < 65536
  | .mailboxEntryReceived _ reads => readsWf reads
  | .ringEnable _ v => v < 2 ^ 32
  | .consWrite _ v => v < 65536
  | .w1cClear off v => pageOff off && v < 2 ^ 32
  | .readClear off => pageOff off
  | .registerWrite off v width => pageOff off && v < 2 ^ 32 && (width = 1 || width = 2 || width = 4)
  | .deliverEntry => true
  | .telemetryPeriod => true
  | .interruptCoalesce _ => true
  | .dmaErr _ => true
  | .tunnelDatagram _ _ dgram => bytesLe dgram 1472
  | .tunnelResend _ => true
  | .heartbeatTick => true
  | .temperatureReading tCase tDie tSafe => tempWf tCase && tempWf tDie && tempWf tSafe
  | .supplyRise _ _ _ => true
  | .sequenceViolation rule _ _ => 1 ≤ rule && rule ≤ 7
  | .brownout _ _ _ => true
  | .supplyAbsent _ => true
  | .safetySupplyLoss _ _ => true
  | .fieldSupplyFault _ _ => true
  | .overtemp _ => true
  | .clockFault _ _ => true
  | .safetyClockFault => true
  | .resetRelease _ => true
  | .resetN _ _ => true
  | .resetNStuck _ => true
  | .srstN _ _ => true
  | .safetySubimageReload _ => true
  | .perstN _ => true
  | .pcieRefclkLoss => true
  | .encoderWiringFault _ kind => kind < 3
  | .epwrRetry _ => true
  | .bootRom => true
  | .bootWatchdog _ => true
  | .safeIdleReached => true
  | .imageActivation _ => true
  | .flashOperationDone sigs subs => sigs < 4 && subs < 4
  | .sysGetIdentity q => q.wf
  | .sysGetVersion q => q.wf
  | .sysGetStatus q => q.wf
  | .setDeviceState q => q.wf
  | .clearFault q => q.wf
  | .sysGetFaultLog q => q.wf
  | .sysGetEnv q => q.wf
  | .sysEcho q => q.wf
  | .sysReset q => q.wf
  | .sysClearLatch q => q.wf
  | .lineGetState q => q.wf
  | .linePreset q => q.wf
  | .lineSelectSource q => q.wf
  | .lineVmasterSet q => q.wf
  | .lineQuery q => q.wf
  | .linePublish q => q.wf
  | .eventArm q => q.wf
  | .eventCancel q => q.wf
  | .eventGet q => q.wf
  | .latchConfigure q => q.wf
  | .ptimeGet q => q.wf
  | .ptimePortConfig q => q.wf
  | .ptimeStep q => q.wf
  | .ptimeFormatSelect q => q.wf
  | .ptimeTxqRead q => q.wf
  | .ptimeFrameSend q => q.wf
  | .timeTriggerArm q => q.wf
  | .timeTriggerCancel q => q.wf
  | .cellGetStatus q => q.wf
  | .cellGetPort q => q.wf
  | .cellClearCounters q => q.wf
  | .cellResync q => q.wf
  | .cellNodeRead q => q.wf
  | .cellNodeWrite q => q.wf
  | .cellReleaseClaim q => q.wf
  | .loopGetEngine q => q.wf
  | .loopGetAxis q => q.wf
  | .loopClearCounters q => q.wf
  | .loopGetProgram q => q.wf
  | .armEnable q => q.wf
  | .armDisable q => q.wf
  | .armGetState q => q.wf
  | .jointCoefWrite q => q.wf
  | .jointCoefRead q => q.wf
  | .jointBankSwap q => q.wf
  | .jointSetSupervision q => q.wf
  | .jointGet q => q.wf
  | .jointTest q => q.wf
  | .armClearFault q => q.wf
  | .solverGetArm q => q.wf
  | .solverSetTool q => q.wf
  | .solverSetPayload q => q.wf
  | .solverSubmit q => q.wf
  | .solverResult q => q.wf
  | .solverCancel q => q.wf
  | .solverWarmFlush q => q.wf
  | .solverGetTile q => q.wf
  | .solverClearCounters q => q.wf
  | .planPick q => q.wf
  | .planCancelPick q => q.wf
  | .planGetPick q => q.wf
  | .planGetSegment q => q.wf
  | .planGetStatus q => q.wf
  | .zoneGet q => q.wf
  | .planClearCounters q => q.wf
  | .profGet q => q.wf
  | .profSetLimits q => q.wf
  | .profMove q => q.wf
  | .profHold q => q.wf
  | .profTableLoad q => q.wf
  | .profTableStart q => q.wf
  | .profGear q => q.wf
  | .profStreamOpen q => q.wf
  | .profStreamData q => q.wf
  | .profHome q => q.wf
  | .profRegister q => q.wf
  | .profStepTableWrite q => q.wf
  | .auxEnable q => q.wf
  | .auxDisable q => q.wf
  | .profClearFault q => q.wf
  | .profTableClear q => q.wf
  | .sepGetStatus q => q.wf
  | .sepGetArm q => q.wf
  | .sepGetSensor q => q.wf
  | .sepSetCap q => q.wf
  | .sepClearFault q => q.wf
  | .sepReadField q => q.wf
  | .sepClearCounters q => q.wf
  | .sioGetStatus q => q.wf
  | .sioGetPair q => q.wf
  | .sioGetOutput q => q.wf
  | .sioOutSet q => q.wf
  | .sioClearFault q => q.wf
  | .safetyGetConn q => q.wf
  | .safetyClearCounters q => q.wf
  | .safetyConfirm q => q.wf
  | .safetyUnconfirm q => q.wf
  | .metroGetStatus q => q.wf
  | .metroGetChannel q => q.wf
  | .metroGetIdent q => q.wf
  | .metroReadAudit q => q.wf
  | .metroGetPubkey q => q.wf
  | .metroResend q => q.wf
  | .metroSvcReadParam req => bytesLe req 1500
  | .metroSvcWriteParam req => bytesLe req 1500
  | .metroSvcAdjZero req => bytesLe req 1500
  | .metroSvcAdjSpan req => bytesLe req 1500
  | .metroSvcWeigh req => bytesLe req 1500
  | .metroSvcFwLoad req _ => bytesLe req 1500
  | .metroSvcDiscard req => bytesLe req 1500
  | .pairGetStatus q => q.wf
  | .pairSwap q => q.wf
  | .pairSolo q => q.wf
  | .pairClearCounters q => q.wf
  | .stestGetStatus q => q.wf
  | .stestGetBlock q => q.wf
  | .stestRun q => q.wf
  | .stestSuspend q => q.wf
  | .stestClearCounters q => q.wf
  | .imageGetStatus q => q.wf
  | .imageLoad q => q.wf
  | .imageActivate q => q.wf
  | .fwGetStatus q => q.wf
  | .fwLoad q => q.wf
  | .fwSwitch q => q.wf
  | .attestGet q => q.wf
  | .keyRotate q _ _ => q.wf
  | .encoderEdge _ _ _ _ => true
  | .announceReceived _ _ _ gmId stepsRemoved => gmId.length = 8 && stepsRemoved < 65536
  | .delayRespReceived _ _ => true
  | .crossCellHoldoverExpiry => true
  | .arpRequestReceived _ _ _ => true
  | .loadCellSample _ _ _ _ => true
  | .metroSupplyLoss => true
  | .metroStreamReceived => true
  | .pairLaneStateChange _ _ => true
  | .pairUplinkReceived _ frame => bytesLe frame 512

end Sys2Proof
end

