-- ==== Sys2Proof/Tests/Slice0.lean ====
section
/-!
SUPPORT. Tests: ill-formed terms that WellFormed refuses, single steps on small states, and for every obligation states and operands that
meet the hypotheses of each of its clauses.
-/

namespace Sys2Proof.Tests

open Sys2Proof Sys2Proof.Machine

/-- A module that serves: supplies up, Duhorn running, an image active, every ring in service. -/
def up : Chip := {
  active := true, sys := { dev := .commissioning, duhorn := true },
  pow := { sup := Vector.replicate 14 { present := true, up := true }, safeRun := true, rstoutLow := false },
  mb := { rings := Vector.replicate 32 { enable := true } }, star := { run := true } }

/-- The module in a state of the device. -/
def dev (d : DevState) : Chip := up.onSys fun s => { s with dev := d }

def st (c : Chip) : State := { chip := c }

/-- A command on ring 0. -/
def cmd (b : Bytes) : Req := { ring := 0, seq := 5, payload := b }

/-- A command on ring 31. -/
def cmd31 (b : Bytes) : Req := { ring := 31, seq := 5, payload := b }

/-- Four lines of one source and one state. -/
def lines (g : LineCfg) (n : Line) : Chip := {
  up with
  cfg := { lines := { line := Vector.replicate 4 g } }, lt := { line := Vector.replicate 4 n } }

/-- A Duhorn package: one block signed for slot 0, a body of zeros that is its safety sub-image; the block's signature verifies. -/
def good : FwImage := {
  data := [0x4B, 0x58, 0x46, 0x57, 1, 0, 0, 1] ++ zeros 8 ++ le 4 6288 ++ le 4 3208 ++ le 4 3080 ++ le 4 3208 ++ le 4 3080 ++ zeros 4
    ++ shake256 (zeros 3080) 64 ++ zeros 24 ++ zeros 3080 ++ zeros 3080
  total := 6288, complete := true, blocks := 1, subBlocks := 1 }

/-- Anchors whose key slots hold the digest of a key of zeros. -/
def anchors : Anchors := {
  keyDigest := Vector.replicate 3 (shake256 (zeros 1793) 32), safeKeyDigest := Vector.replicate 3 (shake256 (zeros 1793) 32) }

theorem good_digest : good.digestOk = true := by
  unfold FwImage.digestOk
  exact decide_eq_true (by
    have h : good.body = zeros 3080 := by decide +kernel
    rw [h]; rfl)

/-- A block that carries a key of zeros, names slot 0 and verifies signs for slot 0. -/
theorem good_slots (o : Nat) (h : slice good.data (o + 4) 1793 = zeros 1793) (h' : byteN good.data o = 0) :
    signedSlots (Vector.replicate 3 (shake256 (zeros 1793) 32)) good.data o 1 1 = 1 := by
  have k : vget (Vector.replicate 3 (shake256 (zeros 1793) 32)) 0 = shake256 (zeros 1793) 32 := vget_replicate _ _ (by decide)
  simp [signedSlots, maskOf, List.range_succ, h, h', k, mbit]

theorem good_header : good.headerOk = true := by decide +kernel

theorem good_ok : packageOk anchors good = true := by
  have h : good.signing anchors = 1 := good_slots 128 (by decide +kernel) (by decide +kernel)
  simp only [packageOk, good_header, good_digest, h]
  decide +kernel

theorem good_valid : packageValid anchors good = true := by
  have h : good.subSigning anchors = 1 := by
    show signedSlots _ good.data (ru good.data 28 4 + ru good.data 32 4 - 3080 * byteN good.data 7) (byteN good.data 7) 1 = 1
    have e : ru good.data 28 4 + ru good.data 32 4 - 3080 * byteN good.data 7 = 3208 ∧ byteN good.data 7 = 1 := by decide +kernel
    rw [e.1, e.2]
    exact good_slots 3208 (by decide +kernel) (by decide +kernel)
  simp only [packageValid, good_ok, h]
  decide +kernel

/-- A configuration slot that passes steps 1-4: one section of no bytes, a certificate of slot 0 for any unit. -/
def slotOk : CfgSlot := {
  data := [0x4B, 0x58, 0x43, 0x49, 1, 0, 0x96, 0] ++ zeros 4 ++ le 4 4564 ++ le 2 1 ++ zeros 30 ++ le 4 84 ++ le 4 3284 ++ zeros 8
    ++ le 2 0x100 ++ zeros 2 ++ le 4 80 ++ zeros 12 ++ [0x4B, 0x58, 0x49, 0x43] ++ zeros 3196 ++ zeros 1280
  total := 4564, complete := true, certSig := true, imgSig := true }

def boot (b : Boot) (d : DevState := .boot) : Chip := { (dev d) with boot := b, anchor := anchors }

/-- A frame with its check. -/
def checked (b : Bytes) : Bytes := b ++ le 4 (crc32c b)

/-- The star running, with every port, node and channel alike. -/
def cell (p : PortEntry) (n : Node) (x : Chan) : Chip := {
  up with
  sys := { up.sys with slotsOk := true }
  cfg := { slot := { port := Vector.replicate 24 p } }
  star := { run := true, node := Vector.replicate 24 { n with ch := Vector.replicate 2 x } } }

/-- Engine 17 with axis 127, its configuration and the state every axis is in, all inputs fresh. -/
def loop (g : AxisCfg) (x : LoopAxis) : Chip := {
  up with
  cfg := { axis := Vector.replicate 128 (some { g with node := 24 }), programs := [{ identity := 7 }] }
  loops := { eng := vset (Vector.replicate 18 {}) 17 { axes := [127] }, ax := Vector.replicate 128 x }
  star := { run := true, node := Vector.replicate 24 { fresh := true } } }

/-- Arm 11 with axis 95 on node 24 and auxiliary axis 31 with axis 127 on node 23, every sequence and node alike. -/
def own (x : ArmSeq) (n : Node) : Chip := {
  up with
  cfg := {
    slot := { port := Vector.replicate 24 { a := 1, chA := true } }
    axis := vset (vset (Vector.replicate 128 none) 95 (some { node := 24 })) 127 (some { node := 23, phase := true })
    lines := { line := Vector.replicate 4 { source := 1 } }
    arm := vset (Vector.replicate 12 none) 11 (some { axes := [95] })
    aux := vset (Vector.replicate 32 none) 31 (some { axes := [127] }) }
  joints := { arm := Vector.replicate 12 x, aux := Vector.replicate 32 x }
  sep := { arm := Vector.replicate 12 { e := 4 } }
  star := { run := true, node := Vector.replicate 24 { n with ch := Vector.replicate 2 { st := .active } } } }

/-- Every arm with a model of one joint, every tile and arm alike, and these jobs. -/
def solve (t : Tile) (a : SolArm) (jobs : List Job) : Chip := {
  up with
  cfg := { model := Vector.replicate 12 (some { joints := [{ joint := 127 }] }) }
  solver := { arm := Vector.replicate 12 a, tile := Vector.replicate 9 t, jobs := jobs } }

/-- A job of the host for arm 11. -/
def job : Job := { id := 7, type := 3, arm := 11, host := true, cap := 16, deadline := 9 }

/-- A module in AUTOMATIC with a planner, arms, models, lines and a zone. -/
def plan (p : Planner) : Chip := {
  (dev .automatic) with
  cfg := {
    plan := some {}, arm := Vector.replicate 12 (some {}), model := Vector.replicate 12 (some { payMax := 5 })
    lines := { line := Vector.replicate 4 { source := 1 } }, zones := [{ id := 7, line := 3, arms := 0xFFF, coupled := false }] }
  sep := { arm := Vector.replicate 12 { e := 4 } }
  joints := { arm := Vector.replicate 12 { st := .hold } }
  planner := p }

/-- A pick of arm 11 on line 3. -/
def pick : Pick := {
  id := 7, mask := 0x800, line := 3, priority := false, reassign := false, pItem := 0, pLast := 9, payload := 0, raw := [], tag := 7 }

/-- A segment of arm 11 for that pick. -/
def seg : Seg := {
  id := 9, pred := none, owner := 11, lineSpan := false, line := 3, endRest := true, checkpoint := true, cls := 4
  start := 0, span := 9, tag := 7, axes := [(0, 0)] }

/-- The owners of `own` in HOLD, every profile alike, with these chains and segments in store. -/
def moves (x : Prof) (ch : Chain := {}) (store : List Seg := []) : Chip := {
  (own { st := .hold } {}) with prof := { ax := Vector.replicate 128 x, chain := Vector.replicate 44 ch, store := store } }

/-- The segment that PROF_TABLE_LOAD carries for auxiliary axis 31, with its check. -/
def segment : Bytes :=
  let a := [0, 0, 0, 0x80, 255, 255, 255, 255, 0x5F, 1, 0, 255, 0, 0, 255, 0] ++ zeros 8 ++ le 8 31250 ++ zeros 4
  a ++ le 4 (crc32c (a ++ zeros 16)) ++ zeros 16

/-- Thirty-two bytes, written out one by one. -/
def spread (u : Bytes) : Bytes := (List.range 32).map fun i => (fit 32 u).getD i 0

theorem spread_eq (u : Bytes) : spread u = fit 32 u := by
  refine List.ext_getElem (by rw [fit_length]; rfl) ?_
  intro i h1 h2
  simp only [spread, List.getElem_map, List.getElem_range, List.getD_eq_getElem?_getD, List.getElem?_eq_getElem h2, Option.getD_some]


/-- Eight sensors on connection 7 and twelve supervised arms, all alike. -/
def separ (x : SepArm) (n : Sensor := {}) (cn : List Conn := []) : Chip := {
  up with
  cfg := { sep := {
    nx := 512, ny := 8, sensor := Vector.replicate 8 (some { conn := 7, own := 9 }), arm := Vector.replicate 12 (some {}) } }
  sep := { arm := Vector.replicate 12 x, sensor := Vector.replicate 8 n }
  sio := { conn := cn } }

/-- A safety PDU with its check. -/
def pdu (b : Bytes) : Bytes := fit 28 b ++ le 4 (crcSafety (fit 28 b))

/-- The safe inputs and outputs, both channels opened, every pair alike. -/
def safe (x : InPair) (o : OutPair) (i : InPairCfg := {}) (p : OutPairCfg := {}) : Chip := {
  up with
  cfg := { sio := { inp := Vector.replicate 16 i, out := Vector.replicate 8 p } }
  sio := {
    field := true
    chan := Vector.replicate 2 { inp := Vector.replicate 16 x, out := Vector.replicate 8 o, edm := 1, conn := .opened } } }

/-- A command on ring 30. -/
def cmd30 (b : Bytes) : Req := { ring := 30, seq := 5, payload := b }

/-- Connection 127 and all before it alike. -/
def conns (x : Conn) : Chip := up.onSio fun s => { s with conn := List.replicate 128 x }

/-- The metrology die in this state. -/
def die (m : Metro) : Chip := { up with metro := m }

/-- The die adjusting, every channel alike. -/
def adjusting (w : WChan) : Chip := die { power := true, st := .adjust, chan := Vector.replicate 8 w }

/-- The copy of the die that the module answers from. -/
def copied (m : Metro) : Chip := { up with mlink := { copy := { m with st := .run } } }

/-- The check of 512 zeros, 64 at a time. -/
theorem crc_zeros_512 : crc32c (zeros 512) = 821882304 := by
  have e : zeros 512 = zeros 64 ++ (zeros 64 ++ (zeros 64 ++ (zeros 64 ++ (zeros 64 ++ (zeros 64 ++ (zeros 64 ++ zeros 64)))))) := by
    simp only [zeros, List.replicate_append_replicate, -List.reduceReplicate]
  have h0 : (zeros 64).foldl crcByte 4294967295 = 4231468184 := by decide +kernel
  have h1 : (zeros 64).foldl crcByte 4231468184 = 4158167844 := by decide +kernel
  have h2 : (zeros 64).foldl crcByte 4158167844 = 2345306063 := by decide +kernel
  have h3 : (zeros 64).foldl crcByte 2345306063 = 1200442991 := by decide +kernel
  have h4 : (zeros 64).foldl crcByte 1200442991 = 64332339 := by decide +kernel
  have h5 : (zeros 64).foldl crcByte 64332339 = 1158271177 := by decide +kernel
  have h6 : (zeros 64).foldl crcByte 1158271177 = 3425213895 := by decide +kernel
  have h7 : (zeros 64).foldl crcByte 3425213895 = 3473084991 := by decide +kernel
  rw [crc32c, e]
  simp only [List.foldl_append, -List.reduceReplicate, h0, h1, h2, h3, h4, h5, h6, h7]
  decide

/-- A mirror frame of cycle 0 from unit 2, all of it zero. -/
def mirror : Bytes := [0x32, 0, 255, 0, 0, 0, 0, 0, 0, 0, 0xC0, 1, 2, 1] ++ zeros 430 ++ le 4 3560461010

theorem mirror_crc : crc32c (mirror.take (448 - 4)) = 3560461010 := by
  have e : mirror.take (448 - 4) = ([0x32, 0, 255, 0, 0, 0, 0, 0, 0, 0, 0xC0, 1, 2, 1] ++ zeros 46)
      ++ (zeros 64 ++ (zeros 64 ++ (zeros 64 ++ (zeros 64 ++ (zeros 64 ++ zeros 64))))) := by decide +kernel
  have h : ([0x32, 0, 255, 0, 0, 0, 0, 0, 0, 0, 0xC0, 1, 2, 1] ++ zeros 46 : Bytes).foldl crcByte 4294967295 = 2902365199 := by
    decide +kernel
  have h0 : (zeros 64).foldl crcByte 2902365199 = 1997371864 := by decide +kernel
  have h1 : (zeros 64).foldl crcByte 1997371864 = 3974391916 := by decide +kernel
  have h2 : (zeros 64).foldl crcByte 3974391916 = 1516668643 := by decide +kernel
  have h3 : (zeros 64).foldl crcByte 1516668643 = 3132495046 := by decide +kernel
  have h4 : (zeros 64).foldl crcByte 3132495046 = 1376458776 := by decide +kernel
  have h5 : (zeros 64).foldl crcByte 1376458776 = 734506285 := by decide +kernel
  rw [crc32c, e, List.foldl_append, h]
  simp only [List.foldl_append, -List.reduceReplicate, h0, h1, h2, h3, h4, h5]
  decide

/-- The unit of this identity in a pair, in this state of it. -/
def duo (p : Pair) (id : Nat := 1) : Chip := { up with cfg := { pair := some { identity := id } }, pair := p }

/-- A SYNC frame of unit 2 for cycle 0. -/
def sync : Bytes := checked ([0x31, 0, 255, 0, 0, 0, 0, 0, 0, 0, 48, 0, 2, 1] ++ zeros 30)

/-- A line published by mask 1, in a unit of a pair. -/
def publishing (p : Pair) : Chip := {
  (duo p) with
  cfg := { pair := some { identity := 1 }, lines := { line := Vector.replicate 4 { source := 1 } } }
  lt := { line := Vector.replicate 4 { pubMask := 1 } } }

/-- Sterling in this state, engine 17 in service and the others in the pool. -/
def sterl (x : Sterling) : Chip := {
  up with ster := x, loops := { eng := vset (Vector.replicate 18 {}) 17 { st := .inService } } }

/-- Engines 0 and 1 have passed, and the axes of engine 17 are copied to engine 0. -/
def spare : Sterling := {
  blocks := [(1, 0, { result := 1 }), (1, 1, { result := 1 })], slices := [⟨1, 17, 0, false, none, false, false⟩], copied := some (17, 0) }

/-- A slice of this block runs. -/
def slicing (kind i : Nat) (m : Bool := false) : Chip := sterl { slices := [⟨kind, i, 0, false, some 0, m, false⟩] }

/-- A CLASS frame of unit 2 with the safety PDU of arm 11. -/
def classFrame : Bytes :=
  checked ([0x33, 0, 255, 0, 0, 0, 0, 0, 0, 0, 52, 0, 2, 1, 0, 0] ++ pdu [0x17, 0, 0, 0x60, 1, 0, 0, 0, 0, 0, 11])

/-- The unit that has that connection open and waits for the frame. -/
def classWait : Chip := {
  (duo { st := some .primary }) with
  sep := { start := some (0, 0) }, sio := { conn := [{ id := 0x60000017, st := .opened }] } }

theorem taken_eta {α : Type} (x : α × Bool) (h : x.2 = true) : x = (x.1, true) := by
  cases x
  cases h
  rfl

theorem slice_mid (a m c : Bytes) (i n : Nat) (hi : a.length = i) (hn : m.length = n) : slice (a ++ m ++ c) i n = m := by
  subst hi hn
  simp [slice, List.append_assoc, zeros]

/-- A step table of zeros, and the words at its end. -/
def stepTable (n : Nat) : Bytes := [3, 0, 0, 0] ++ zeros 512 ++ le 4 n

theorem stepTable_slice (n : Nat) : slice (stepTable n) 4 512 = zeros 512 :=
  slice_mid [3, 0, 0, 0] (zeros 512) (le 4 n) 4 512 rfl (List.length_replicate ..)

/-! ### WellFormed refuses what cannot reach the module -/

theorem test_wf_raw : (Instr.ssiFrame 3 (2 ^ 32) true false).wf = false := by decide
theorem test_wf_cause : (Instr.sourceFault 3 4).wf = false := by decide
theorem test_wf_frame : (Instr.uplinkReceived 23 1 0 (zeros 257)).wf = false := by decide +kernel
theorem test_wf_dgram : (Instr.scanPduReceived 7 ⟨0, zeros 1473⟩).wf = false := by decide +kernel
theorem test_wf_stamp : (Instr.txTimestamp 5 256 0 0 true []).wf = false := by decide
theorem test_wf_offset : (Instr.axisDispatch 17 250000).wf = false := by decide
theorem test_wf_protection : (Instr.axisProtectionFault 17 1).wf = false := by decide
theorem test_wf_block : (Instr.acyclicBlockReceived 23 (zeros 63)).wf = false := by decide
theorem test_wf_load : (Instr.plannerLoadWindow 6553601).wf = false := by decide
theorem test_wf_conn : (Instr.safetyPduReceived (2 ^ 32) []).wf = false := by decide
theorem test_wf_slice : (Instr.sliceDone 7 0 0).wf = false := by decide
theorem test_wf_mismatch : (Instr.rxMismatch 6 22).wf = false := by decide
theorem test_wf_index : (Instr.doorbell 31 65536).wf = false := by decide
theorem test_wf_reads : (Instr.mailboxEntryReceived 31 []).wf = false := by decide
theorem test_wf_entry : (Instr.mailboxEntryReceived 31 [{ (default : EntryRead) with payload := zeros 51 }]).wf = false := by decide
theorem test_wf_page : (Instr.readClear 65536).wf = false := by decide
theorem test_wf_width : (Instr.registerWrite 0 0 3).wf = false := by decide
theorem test_wf_temperature : (Instr.temperatureReading 32768 0 0).wf = false := by decide
theorem test_wf_rule : (Instr.sequenceViolation 8 13 0).wf = false := by decide
theorem test_wf_wiring : (Instr.encoderWiringFault 3 3).wf = false := by decide
theorem test_wf_flash : (Instr.flashOperationDone 4 0).wf = false := by decide
theorem test_wf_ring : (Instr.sysEcho { ring := 32, seq := 0, payload := [] }).wf = false := by decide
theorem test_wf_sequence : (Instr.sysEcho { ring := 31, seq := 65536, payload := [] }).wf = false := by decide
theorem test_wf_accepts : (Instr.sysEcho { ring := 31, seq := 65535, payload := [1] }).wf = true := by decide

/-! ### Values of the spec's worked examples -/

/-- 18, the power board out of order, step 3. -/
theorem test_rststat_sequence :
    ({ up.pow with supplyIx := 5, rule := 3, cause := .sequence, count := 1, seqHold := true } : Power).rststat = 0x05320181 := by decide

/-- The same, step 5. -/
theorem test_rststat_power_on :
    ({ up.pow with supplyIx := 15, cause := .powerOn, count := 2 } : Power).rststat = 0x0F000201 := by decide

/-- The same, step 2. -/
theorem test_dev_status_in_reset : devStatus {} = 0x0000FF01 := by decide

/-- 02, LINE0: of the ratio 10 240/3 every third count is 3 414 line counts and the other two 3 413. -/
theorem test_carried_remainder :
    ([1, 2, 3, 4].map fun k => ((List.range k).foldl (fun n i => takeRaw (i + 1 : Nat) 0 n) { num := 10240, den := 3 }).z)
      = [3413, 6826, 10240, 13653] := by decide

/-- 12, an item on W0, step 4: 189 723.6 counts at 2.384 mg per count are 452 301 mg, and 452 000 mg at e = 2 000 mg. -/
theorem test_mass : weighMass 948618 5 0 0x4003126E978D4FDF 0 = 452301 ∧ toScale 452301 2000 = 452000 := by
  decide +kernel

/-- Binary64: 1/10 is the word 0x3FB999999999999A, and 2^1024 less half a last place is no finite number. -/
theorem test_binary64 :
    f64Round (1 / 10) = f64Val 0x3FB999999999999A ∧ f64Round (scaled (2 ^ 54 - 1) 970) = none := by
  decide +kernel

/-! ### States and operands that meet the hypotheses of the obligations -/

theorem witness_system_commands_act :
    (∃ (q : Req) (s : State), heard 0x0108 1024 (fun b => b.length ≤ 1020) q s.chip)
    ∧ (∃ (q : Req) (s : State) (d : _), heard 0x010A 6 (lay 4 fun b => [bLe b 0 0x1F, rsv b 1 3]) q s.chip ∧ d = s.chip.onSys (fun y => { y with latch := y.latch &&& (y.latch ^^^ byteN q.payload 0) }))
    ∧ (∃ (q : Req) (s : State), heard 0x0109 4 laySysReset q s.chip ∧ ¬ (s.chip.pair.st = some .primary ∧ s.chip.pair.partner = 2) ∧ (s.chip.sys.dev = .safeIdle ∨ s.chip.sys.dev = .configured ∨ s.chip.sys.dev = .faultHalt) ∧ allArms s.chip (fun a => a.st = .disabled || a.st = .faulted) ∧ allAux s.chip (fun a => a.st = .disabled || a.st = .faulted) ∧ nodesStopped s.chip)
    ∧ (∃ (q : Req) (s : State) (log : _) (top : _) (more : _), heard 0x0106 144 layFaultLog q s.chip ∧ ru q.payload 0 4 = 0xFFFFFFFF ∧ log = (if byteN q.payload 5 = 0 then s.chip.sys.log else s.chip.sys.nor) ∧ log = top :: more)
    ∧ (∃ (q : Req) (s : State), heard 0x0105 4 layNone q s.chip ∧ s.chip.sys.dev = .faultHalt ∧ s.chip.sys.haltCauses = [] ∧ allArms s.chip armRest ∧ allAux s.chip armRest ∧ s.chip.sys.clearPending = none)
    ∧ (∃ (s : State) (o : _) (e : _), s.chip.sys.clearPending = some (o, e))
    ∧ (∃ (q : Req) (s : State), heard 0x0101 60 layNone q s.chip)
    ∧ (∃ (q : Req) (s : State), heard 0x0102 40 layNone q s.chip ∧ s.chip.sys.duhorn = false)
    ∧ (∃ (q : Req) (s : State) (f : _), heard 0x0102 40 layNone q s.chip ∧ s.chip.sys.duhorn = true ∧ f = vget s.chip.boot.fw s.chip.boot.running)
    ∧ (∃ (q : Req) (s : State), heard 0x0103 36 layNone q s.chip ∧ s.chip.sys.duhorn = false)
    ∧ (∃ (q : Req) (s : State) (y : _), heard 0x0103 36 layNone q s.chip ∧ y = s.chip.sys ∧ y.duhorn = true)
    ∧ (∃ (q : Req) (s : State), heard 0x0107 28 layNone q s.chip) :=
  ⟨⟨cmd [1, 2, 3], st up, by decide⟩,
    ⟨cmd (zeros 4), st up, _, by exact ⟨by decide, rfl⟩⟩,
    ⟨cmd ([0x96, 0, 0xDE, 0xC0] ++ zeros 4), st (dev .configured), by constructorm* _ ∧ _ <;> decide⟩,
    ⟨cmd ([255, 255, 255, 255, 1, 0] ++ zeros 2), st (up.onSys fun s => { s with log := [⟨1, 1, 1, 1, 1, 1, 1, 1, 1⟩] }), _, _, _, by exact ⟨by decide, by decide, rfl, rfl⟩⟩,
    ⟨cmd [], st (dev .faultHalt), by constructorm* _ ∧ _ <;> decide⟩,
    ⟨st (up.onSys fun s => { s with clearPending := some (⟨0, 0, 0⟩, 7) }), _, _, by rfl⟩,
    ⟨cmd [], st up, by decide⟩,
    ⟨cmd31 [], st ({ up with sys := { dev := .boot } }), by exact ⟨by decide, by decide⟩⟩,
    ⟨cmd [], st up, _, by exact ⟨by decide, by decide, rfl⟩⟩,
    ⟨cmd31 [], st ({ up with sys := { dev := .boot } }), by exact ⟨by decide, by decide⟩⟩,
    ⟨cmd [], st up, _, by exact ⟨by decide, rfl, rfl⟩⟩,
    ⟨cmd [], st up, by decide⟩⟩

theorem witness_device_state_requests :
    (∃ (q : Req) (s : State), heard 0x0104 12 laySetState q s.chip ∧ ((byteN q.payload 0 = 4 ∧ s.chip.sys.dev = .commissioning ∧ allArms s.chip (·.st = .disabled)) ∨ (byteN q.payload 0 = 5 ∧ s.chip.sys.dev = .configured ∧ s.chip.sys.haltCauses = []) ∨ (byteN q.payload 0 = 6 ∧ (s.chip.sys.dev = .configured ∨ s.chip.sys.dev = .commissioning) ∧ s.chip.sys.confirmed ∧ s.chip.sys.allOk) ∨ (byteN q.payload 0 = 7 ∧ s.chip.sys.dev = .ready ∧ autoOffRuns s.chip = false ∧ s.chip.sys.confirmed ∧ s.chip.sys.allOk ∧ s.chip.sys.safetyDefaults = false)))
    ∧ (∃ (q : Req) (s : State), heard 0x0104 12 laySetState q s.chip ∧ byteN q.payload 0 = s.chip.sys.dev.code ∧ s.chip.sys.autoLatched = none)
    ∧ (∃ (q : Req) (s : State), heard 0x0104 12 laySetState q s.chip ∧ ((byteN q.payload 0 = 4 ∧ s.chip.sys.dev = .ready) ∨ (byteN q.payload 0 = 5 ∧ s.chip.sys.dev = .automatic) ∨ (byteN q.payload 0 = 7 ∧ s.chip.sys.dev = .configured)))
    ∧ (∃ (q : Req) (s : State), heard 0x0104 12 laySetState q s.chip ∧ byteN q.payload 0 = 6 ∧ s.chip.sys.dev = .configured ∧ s.chip.sys.confirmed = false)
    ∧ (∃ (s : State), (s.chip.sys.duhorn = false ∨ s.chip.sys.dev = .off ∨ s.chip.sys.dev = .reset))
    ∧ (∃ (s : State) (t : _), s.chip.sys.duhorn = true ∧ s.chip.sys.dev ≠ .off ∧ s.chip.sys.dev ≠ .reset ∧ s.chip.pair.st = none ∧ t = nextStart s.chip) :=
  ⟨⟨cmd (fit 4 [4]), st up, by exact ⟨by decide, by decide⟩⟩,
    ⟨cmd (fit 4 [5]), st up, by exact ⟨by decide, by decide, by decide⟩⟩,
    ⟨cmd (fit 4 [4]), st (dev .ready), by exact ⟨by decide, by decide⟩⟩,
    ⟨cmd (fit 4 [6]), st (dev .configured), by exact ⟨by decide, by decide, by decide, by decide⟩⟩,
    ⟨st (dev .off), by decide⟩,
    ⟨st up, _, by exact ⟨by decide, by decide, by decide, by decide, rfl⟩⟩⟩

theorem witness_indices_move_within_the_depth :
    (∃ (r : Fin 32) (v : _) (s : State), ringsServed s.chip ∧ r.val < 30 ∧ hostRing r ∧ attached s.chip r = false ∧ (v + 65536 - (vget s.chip.mb.rings r).cons) % 65536 ≤ (vget s.chip.mb.rings r).depth)
    ∧ (∃ (r : Fin 32) (v : _) (s : State), ringsServed s.chip ∧ r.val < 30 ∧ hostRing r ∧ attached s.chip r = false ∧ (vget s.chip.mb.rings r).depth < (v + 65536 - (vget s.chip.mb.rings r).cons) % 65536)
    ∧ (∃ (r : Fin 32) (s : State), ringsServed s.chip ∧ (hostRing r = false ∨ attached s.chip r = true))
    ∧ (∃ (r : Fin 32) (v : _) (s : State), ringsServed s.chip ∧ 30 ≤ r.val ∧ (vget s.chip.mb.rings r).cons = (vget s.chip.mb.rings r).prod ∧ (v + 65536 - (vget s.chip.mb.rings r).cons) % 65536 ≤ (vget s.chip.mb.rings r).depth / 2)
    ∧ (∃ (r : Fin 32) (v : _) (s : State), ringsServed s.chip ∧ hostRing r = false ∧ attached s.chip r = false ∧ (vget s.chip.mb.rings r).held = [] ∧ (v + 65536 - (vget s.chip.mb.rings r).cons) % 65536 ≤ (vget s.chip.mb.rings r).used)
    ∧ (∃ (r : Fin 32) (s : State), ringsServed s.chip ∧ hostRing r = true) :=
  ⟨⟨7, 256, st up, by exact ⟨by decide, by decide, by decide, by decide, by decide⟩⟩,
    ⟨7, 257, st up, by exact ⟨by decide, by decide, by decide, by decide, by decide⟩⟩,
    ⟨8, st up, by exact ⟨by decide, by decide⟩⟩,
    ⟨31, 128, st up, by exact ⟨by decide, by decide, by decide, by decide⟩⟩,
    ⟨15, 0, st up, by exact ⟨by decide, by decide, by decide, by decide, by decide⟩⟩,
    ⟨0, st up, by exact ⟨by decide, by decide⟩⟩⟩

theorem witness_ring_enable_takes_base_and_depth :
    (∃ (r : Fin 32) (v : _) (s : State), ringsServed s.chip ∧ attached s.chip r = false ∧ mbit v 4 = true ∧ (vget s.chip.mb.rings r).enable = false ∧ keepsContent r = false)
    ∧ (∃ (r : Fin 32) (v : _) (s : State), ringsServed s.chip ∧ attached s.chip r = false ∧ mbit v 4 = true ∧ (vget s.chip.mb.rings r).enable = false ∧ keepsContent r = true)
    ∧ (∃ (r : Fin 32) (v : _) (s : State), ringsServed s.chip ∧ attached s.chip r = false ∧ mbit v 4 = false ∧ (vget s.chip.mb.rings r).enable = true) :=
  ⟨⟨7, 16, st (up.onMb fun m => { m with rings := Vector.replicate 32 {} }), by exact ⟨by decide, by decide, by decide, by decide, by decide⟩⟩,
    ⟨15, 16, st (up.onMb fun m => { m with rings := Vector.replicate 32 {} }), by exact ⟨by decide, by decide, by decide, by decide, by decide⟩⟩,
    ⟨0, 0, st up, by exact ⟨by decide, by decide, by decide, by decide⟩⟩⟩

theorem witness_page_reads_and_writes :
    (∃ (s : State), ringsServed s.chip)
    ∧ (∃ (s : State), ringsServed s.chip)
    ∧ (∃ (k : Fin 132) (v : _) (s : State), ringsServed s.chip ∧ (mbit s.chip.mb.pba (k / 4) = false ∨ (k.val % 4 = 3 ∧ mbit v 0 = true)))
    ∧ (∃ (n : Fin 33) (v : _) (s : State), ringsServed s.chip ∧ mbit s.chip.mb.pba n = true ∧ mbit v 0 = false)
    ∧ (∃ (off : _) (width : _) (s : State), ringsServed s.chip ∧ (width ≠ 4 ∨ off = 0 ∨ off = 4 ∨ off = 0xC ∨ off = 0x10 ∨ off = 0x18))
    ∧ (∃ (off : _) (s : State), pageServed s.chip ∧ ringOf (off - off % 4) = none)
    ∧ (∃ (s : State), pageServed s.chip)
    ∧ (∃ (s : State) (off : _) (v : _), ringsServed s.chip ∧ v < 2 ^ 32 ∧ (off = 0x24 ∨ off = 0x2C ∨ off = 0x34 ∨ (∃ r : Fin 32, off = 0x1000 + 64 * r.val ∨ off = 0x1004 + 64 * r.val) ∨ ∃ k : Fin 132, off = 0x8000 + 4 * k.val)) :=
  ⟨⟨st up, by decide⟩,
    ⟨st up, by decide⟩,
    ⟨131, 0, st up, by exact ⟨by decide, by decide⟩⟩,
    ⟨32, 0, st (up.onMb fun m => { m with pba := 2 ^ 32 }), by exact ⟨by decide, by decide, by decide⟩⟩,
    ⟨0, 2, st up, by exact ⟨by decide, by decide⟩⟩,
    ⟨4, st up, by exact ⟨by decide, by decide⟩⟩,
    ⟨st up, by decide⟩,
    ⟨st up, 0x34, 1, by exact ⟨by decide, by decide, .inr (.inr (.inl rfl))⟩⟩⟩

theorem witness_writing_one_clears :
    (∃ (v : _) (s : State), ringsServed s.chip ∧ v < 2 ^ 32)
    ∧ (∃ (s : State), ringsServed s.chip)
    ∧ (∃ (s : State), ringsServed s.chip)
    ∧ (∃ (s : State), pageServed s.chip) :=
  ⟨⟨1, st up, by exact ⟨by decide, by decide⟩⟩,
    ⟨st up, by decide⟩,
    ⟨st up, by decide⟩,
    ⟨st up, by decide⟩⟩

theorem witness_signalling_and_tunnel :
    (∃ (r : Fin 32) (s : State), 0 < (vget s.chip.mb.rings r).unsignalled)
    ∧ (∃ (r : Fin 32) (s : State), (vget s.chip.mb.rings r).irqEn = true ∧ 0 < (vget s.chip.mb.rings r).unsignalled)
    ∧ (∃ (r : Fin 32) (s : State), (vget s.chip.mb.rings r).enable = true)
    ∧ (∃ (src : _) (port : _) (s : State), s.chip.cfg.sys.tunnel ≠ 0 ∧ s.chip.active = true ∧ (src, port) ≠ s.chip.cfg.sys.peer)
    ∧ (∃ (src : _) (port : _) (d : _) (s : State), s.chip.cfg.sys.tunnel ≠ 0 ∧ s.chip.active = true ∧ (src, port) = s.chip.cfg.sys.peer ∧ d.length = 16 ∧ ru d 0 2 = 1 ∧ byteN d 3 = 3 ∧ byteN d 6 = 0 ∧ ru d 8 4 = 0 ∧ ru d 12 4 = crc32c (slice d 0 12))
    ∧ (∃ (r : Fin 32) (s : State), attached s.chip r ∧ hostRing r = false ∧ s.chip.mb.tunOpen = true ∧ (vget s.chip.mb.rings r).buf ≠ [] ∧ 4 ≤ vget s.chip.mb.tunTries r)
    ∧ (∃ (r : Fin 32) (s : State), attached s.chip r ∧ hostRing r = false ∧ s.chip.mb.tunOpen = true ∧ (vget s.chip.mb.rings r).buf ≠ [] ∧ vget s.chip.mb.tunTries r < 4)
    ∧ (∃ (c : Chip) (n : Fin 33), masked c.mb n = true ∧ c.pow.linkUp = true ∧ c.pow.perstLow = false)
    ∧ (∃ (c : Chip) (n : Fin 33), masked c.mb n = false ∧ mbit c.mb.pba n = true ∧ c.pow.linkUp = true ∧ c.pow.perstLow = false) :=
  ⟨⟨31, st (up.onMb fun m => { m with rings := Vector.replicate 32 { unsignalled := 1 } }), by decide⟩,
    ⟨31, st (up.onMb fun m => { m with rings := Vector.replicate 32 { irqEn := true, unsignalled := 1 } }), by exact ⟨by decide, by decide⟩⟩,
    ⟨0, st up, by decide⟩,
    ⟨1, 2, st { up with cfg := { sys := { tunnel := 1 } } }, by exact ⟨by decide, by decide, by decide⟩⟩,
    ⟨1, 2, (let h := [1, 0, 0, 3] ++ zeros 8; h ++ le 4 (crc32c h)), st { up with cfg := { sys := { tunnel := 1, peer := (1, 2) } } }, by decide +kernel⟩,
    ⟨8, st { up with cfg := { sys := { tunnel := 256 } }, mb := { tunOpen := true, rings := Vector.replicate 32 { buf := [default] }, tunTries := Vector.replicate 32 4 } }, by exact ⟨by decide, by decide, by decide, by decide, by decide⟩⟩,
    ⟨8, st { up with cfg := { sys := { tunnel := 256 } }, mb := { tunOpen := true, rings := Vector.replicate 32 { buf := [default] } } }, by exact ⟨by decide, by decide, by decide, by decide, by decide⟩⟩,
    ⟨up.onMb fun m => { m with msix := Vector.replicate 132 1 }, 32, by exact ⟨by decide, by decide, by decide⟩⟩,
    ⟨up.onMb fun m => { m with pba := 2 ^ 32 }, 32, by exact ⟨by decide, by decide, by decide, by decide⟩⟩⟩

theorem witness_entries_and_reports :
    (∃ (r : Fin 32) (s : State) (e : EntryRead), r.val < 8 ∧ attached s.chip r = false ∧ serves s.chip r ∧ (vget s.chip.mb.rings r).msg = none ∧ (vget s.chip.mb.rings r).used ≠ 0 ∧ (vget s.chip.mb.rings r).abandoned = false ∧ (vget s.chip.mb.rings r).await = false ∧ (vget s.chip.mb.rings r).part = [] ∧ e.checkOk = true ∧ e.seq = (vget s.chip.mb.rings r).expect ∧ e.first = true ∧ e.last = true ∧ e.ackreq = false ∧ e.cls = 1 ∧ e.len ≤ 52 ∧ listedOpcode e.opcode ∧ ringAccepts s.chip.sys.duhorn r e.opcode)
    ∧ (∃ (r : Fin 32) (s : State) (a : EntryRead) (b : EntryRead) (c : EntryRead) (e : EntryRead), r.val < 8 ∧ attached s.chip r = false ∧ serves s.chip r ∧ (vget s.chip.mb.rings r).msg = none ∧ (vget s.chip.mb.rings r).used ≠ 0 ∧ (vget s.chip.mb.rings r).abandoned = false ∧ (vget s.chip.mb.rings r).await = false ∧ (vget s.chip.mb.rings r).rejects = 0 ∧ a.checkOk = false ∧ b.checkOk = false ∧ c.checkOk = false ∧ e.checkOk = false)
    ∧ (∃ (s : State) (m : _) (l : _) (g : _), s.chip.mb.out = m :: l ∧ m.ring < 32 ∧ m.opcode ≠ 0x0280 ∧ g = vget s.chip.mb.rings m.ring ∧ ringRoom s.chip m.ring (entriesOf m.len))
    ∧ (∃ (s : State) (m : _) (l : _), s.chip.mb.out = m :: l ∧ m.ring < 28 ∧ m.opcode ≠ 0x0280 ∧ m.opcode ≠ 0x0380 ∧ ringRoom s.chip m.ring (entriesOf m.len) = false)
    ∧ (∃ (s : State), s.chip.active = true) :=
  ⟨⟨0, st (up.onMb fun m => { m with rings := Vector.replicate 32 { enable := true, prod := 1 } }), { opcode := 0x0101, seq := 0, first := true, last := true, ackreq := false, retry := false, cls := 1, len := 0, payload := zeros 52, checkOk := true }, by constructorm* _ ∧ _ <;> decide⟩,
    ⟨7, st (up.onMb fun m => { m with rings := Vector.replicate 32 { enable := true, prod := 1 } }), default, default, default, default, by constructorm* _ ∧ _ <;> decide⟩,
    ⟨st (up.onMb fun m => { m with out := [⟨16, 0x0104, 3, [], 16⟩] }), _, _, _, by exact ⟨rfl, by decide, by decide, rfl, by decide⟩⟩,
    ⟨st (up.onMb fun m => { m with rings := Vector.replicate 32 {}, out := [⟨16, 0x0104, 3, [], 16⟩] }), _, _, by exact ⟨rfl, by decide, by decide, by decide, by decide⟩⟩,
    ⟨st up, by decide⟩⟩

theorem witness_supplies_are_judged :
    (∃ (mv : _) (s : State), s.chip.sys.dev = .reset ∧ s.chip.pow.valid = true ∧ s.chip.pow.nextPowerOn = false ∧ (vget s.chip.pow.sup 1).present = false ∧ (vget s.chip.pow.sup 0).up = false ∧ 85 ≤ mv ∧ s.chip.pow.cause = .powerOn)
    ∧ (∃ (t : _) (s : State) (a : _), s.chip.pow.absentSince = some a ∧ controlAbsent s.chip ∧ a + 10000000 ≤ t) :=
  ⟨⟨85, { chip := { pow := {} } }, by constructorm* _ ∧ _ <;> decide⟩,
    ⟨20000000, { chip := {} }, 0, by exact ⟨by decide, by decide, by decide⟩⟩⟩

theorem witness_causes_of_reset :
    (∃ (s : State), s.chip.sys.dev ≠ .reset ∧ s.chip.sys.dev ≠ .off)
    ∧ (∃ (s : State), s.chip.sys.dev ≠ .reset ∧ s.chip.sys.dev ≠ .off)
    ∧ (∃ (s : State) (k : Fin 14), s.chip.sys.dev ≠ .reset ∧ s.chip.sys.dev ≠ .off ∧ s.chip.pow.valid = true ∧ k.val < 8)
    ∧ (∃ (s : State) (k : Fin 14) (mv : _), s.chip.sys.dev ≠ .reset ∧ s.chip.sys.dev ≠ .off ∧ s.chip.pow.valid = true ∧ k.val < 8 ∧ (vget s.chip.pow.sup k).up = true ∧ (Config.supplyRow k).2.2.2 ≤ mv ∧ mv < (Config.supplyRow k).1)
    ∧ (∃ (s : State) (w : _) (t : _), s.chip.boot.watchdog = some w ∧ s.chip.sys.dev = .boot ∧ w + 10000000000 ≤ t)
    ∧ (∃ (s : State), s.chip.sys.duhorn = true ∧ s.chip.sys.resetting = true ∧ s.chip.sys.dev ≠ .reset ∧ s.chip.sys.dev ≠ .off)
    ∧ (∃ (s : State), (vget s.chip.pow.sup 0).present = true) :=
  ⟨⟨st up, by exact ⟨by decide, by decide⟩⟩,
    ⟨st up, by exact ⟨by decide, by decide⟩⟩,
    ⟨st up, 7, by exact ⟨by decide, by decide, by decide, by decide⟩⟩,
    ⟨st up, 0, 75, by constructorm* _ ∧ _ <;> decide⟩,
    ⟨st (boot { watchdog := some 0 }), 0, 10000000000, by exact ⟨by decide, by decide, by decide⟩⟩,
    ⟨st (up.onSys fun s => { s with resetting := true }), by exact ⟨by decide, by decide, by decide, by decide⟩⟩,
    ⟨st up, by decide⟩⟩

theorem witness_reset_lands_act :
    (∃ (s : State) (a : _) (t : _), s.chip.pow.releaseSince = some a ∧ s.chip.sys.dev = .reset ∧ releaseOk s.chip ∧ a + 10000000 ≤ t ∧ s.chip.sys.resetting = false)
    ∧ (∃ (s : State) (t : _), s.chip.pow.resetLow = true ∧ s.chip.pow.resetLowAt + 10000000000 ≤ t)
    ∧ (∃ (s : State), s.chip.sys.dev ≠ .reset ∧ s.chip.sys.dev ≠ .off)
    ∧ (∃ (s : State), s.chip.sys.duhorn = true ∧ s.chip.pow.safeRun = false ∧ s.chip.pow.srstLow = false ∧ safetyUp s.chip) :=
  ⟨⟨st { up with sys := { dev := .reset }, pow := { up.pow with releaseSince := some 0 } }, 0, 10000000, by decide⟩,
    ⟨st (up.onPow fun p => { p with resetLow := true }), 10000000000, by exact ⟨by decide, by decide⟩⟩,
    ⟨st up, by exact ⟨by decide, by decide⟩⟩,
    ⟨st (up.onPow fun p => { p with safeRun := false }), by exact ⟨by decide, by decide, by decide, by decide⟩⟩⟩

theorem witness_beats_and_temperatures :
    (∃ (s : State), s.chip.sys.duhorn = true ∧ s.chip.sys.resetting = false)
    ∧ (∃ (s : State) (a : _), s.chip.sys.dev ≠ .reset ∧ s.chip.sys.dev ≠ .off ∧ a ≤ 25600)
    ∧ (∃ (s : State) (a : _), s.chip.sys.dev ≠ .reset ∧ s.chip.sys.dev ≠ .off ∧ 25600 < a) :=
  ⟨⟨st up, by exact ⟨by decide, by decide⟩⟩,
    ⟨st up, 25600, by exact ⟨by decide, by decide, by decide⟩⟩,
    ⟨st up, 25601, by exact ⟨by decide, by decide, by decide⟩⟩⟩

theorem witness_boot_picks_an_image :
    (∃ (s : State), s.chip.sys.dev = .boot ∧ s.chip.boot.watchdog = none ∧ s.chip.boot.recovery = false ∧ s.chip.boot.trial = false ∧ s.chip.boot.swapAtBoot = false ∧ s.chip.boot.preferred < 2 ∧ packageValid (completeBurn s.chip.anchor) (vget s.chip.boot.fw s.chip.boot.preferred))
    ∧ (∃ (s : State), s.chip.sys.dev = .boot ∧ s.chip.boot.watchdog = none ∧ s.chip.boot.recovery = false ∧ s.chip.boot.trial = true ∧ s.chip.boot.attempts < 2 ∧ s.chip.boot.swapAtBoot = false ∧ s.chip.boot.preferred < 2 ∧ packageValid (completeBurn s.chip.anchor) (vget s.chip.boot.fw s.chip.boot.preferred))
    ∧ (∃ (s : State), s.chip.sys.dev = .boot ∧ s.chip.boot.watchdog = none ∧ s.chip.boot.recovery = false ∧ (∀ k : Fin 2, packageValid (completeBurn s.chip.anchor) (vget s.chip.boot.fw k) = false))
    ∧ (∃ (s : State) (w : _), s.chip.sys.dev = .boot ∧ s.chip.boot.watchdog = some w) :=
  ⟨⟨st (boot { preferred := 1, fw := Vector.replicate 2 good }), by exact ⟨by decide, by decide, by decide, by decide, by decide, by decide, (good_valid : packageValid (completeBurn anchors) good = true)⟩⟩,
    ⟨st (boot { preferred := 1, trial := true, attempts := 1, fw := Vector.replicate 2 good }), by exact ⟨by decide, by decide, by decide, by decide, by decide, by decide, by decide, (good_valid : packageValid (completeBurn anchors) good = true)⟩⟩,
    ⟨st (boot {}), by exact ⟨by decide, by decide, by decide, by decide⟩⟩,
    ⟨st (boot { watchdog := some 4 }), 4, by exact ⟨by decide, by decide⟩⟩⟩

theorem witness_images_activate :
    (∃ (s : State) (n : _) (o : _), s.chip.sys.dev = .safeIdle ∧ s.chip.boot.activation = some n ∧ o = vget s.chip.boot.cfgSlot n ∧ (o.complete = false ∨ o.wellFormed = false ∨ o.certOk = false ∨ mbit (activeMask s.chip.anchor.keys) o.certSlot = false ∨ o.imgSig = false))
    ∧ (∃ (s : State) (n : _) (o : _), s.chip.sys.dev = .safeIdle ∧ s.chip.boot.activation = some n ∧ o = vget s.chip.boot.cfgSlot n ∧ o.complete = true ∧ o.wellFormed = true ∧ o.certOk = true ∧ mbit (activeMask s.chip.anchor.keys) o.certSlot = true ∧ o.imgSig = true ∧ verLe o.minDuhorn (vget s.chip.boot.fw s.chip.boot.running).version = false)
    ∧ (∃ (s : State) (n : _) (o : _), s.chip.sys.dev = .safeIdle ∧ s.chip.boot.activation = some n ∧ o = vget s.chip.boot.cfgSlot n ∧ slotBars s.chip o = none ∧ (∀ e ∈ o.dir, e.num ≠ 0x0C00)) :=
  ⟨⟨st (boot { activation := some 1 } .safeIdle), 1, _, by exact ⟨by decide, by decide, rfl, by decide⟩⟩,
    ⟨st (boot { activation := some 1, cfgSlot := Vector.replicate 2 { slotOk with data := patch slotOk.data 24 [1] } } .safeIdle), 1, _, by exact ⟨by decide, by decide, rfl, by decide, by decide +kernel, by decide +kernel, by decide +kernel, by decide, by decide +kernel⟩⟩,
    ⟨st (boot { activation := some 1, cfgSlot := Vector.replicate 2 slotOk } .safeIdle), 1, _, by exact ⟨by decide, by decide, rfl, by decide +kernel, by decide +kernel⟩⟩⟩

theorem witness_flash_commands_act :
    (∃ (q : Req) (s : State) (b : _), heard 0x0E10 44 layNone q s.chip ∧ b = s.chip.boot)
    ∧ (∃ (q : Req) (s : State) (x : _), heard 0x0E01 66 layNone q s.chip ∧ x = vget s.chip.boot.cfgSlot (stagedSlot s.chip.boot) ∧ slotBars s.chip x = none)
    ∧ (∃ (q : Req) (s : State) (x : _) (n : _), heard 0x0E02 8 (fun b => chunkLay b && ru b 4 4 ≤ 33554432 && bLe b 8 1 && rsv b 9 7) q s.chip ∧ n = stagedSlot s.chip.boot ∧ x = vget s.chip.boot.cfgSlot n ∧ s.chip.boot.op = none ∧ s.chip.boot.swapAtBoot = false ∧ (ru q.payload 0 4 = 0 ∨ (ru q.payload 0 4 = x.data.length ∧ ru q.payload 4 4 = x.total)))
    ∧ (∃ (q : Req) (s : State) (n : _), heard 0x0E11 9 (fun b => chunkLay b && ru b 4 4 ≤ 67108864 && (bLe b 8 1 || byteN b 8 = 0xFF) && bLe b 9 1 && rsv b 10 6) q s.chip ∧ n = (if byteN q.payload 8 = 0xFF then otherImage s.chip else byteN q.payload 8) ∧ n ≠ s.chip.boot.running ∧ s.chip.boot.op = none ∧ s.chip.boot.trial = false ∧ ru q.payload 0 4 = 0 ∧ s.chip.anchor.secVer ≤ byteN q.payload 22)
    ∧ (∃ (s : State) (o : _) (f : _), s.chip.boot.op = some o ∧ o.isFw = true ∧ o.target < 2 ∧ (o.ring = 30 ∨ o.ring = 31) ∧ f = vget s.chip.boot.fw o.target)
    ∧ (∃ (s : State) (o : _) (f : _), s.chip.boot.op = some o ∧ o.isFw = false ∧ o.target < 2 ∧ (o.ring = 30 ∨ o.ring = 31) ∧ f = vget s.chip.boot.cfgSlot o.target)
    ∧ (∃ (q : Req) (s : State), heard 0x0E03 5 (lay 4 fun b => [bLe b 0 2, rsv b 1 3]) q s.chip ∧ byteN q.payload 0 = 0 ∧ s.chip.sys.dev = .safeIdle ∧ s.chip.boot.activation = none ∧ s.chip.boot.op = none ∧ slotBars s.chip (vget s.chip.boot.cfgSlot (stagedSlot s.chip.boot)) = none)
    ∧ (∃ (q : Req) (s : State), heard 0x0E03 5 (lay 4 fun b => [bLe b 0 2, rsv b 1 3]) q s.chip ∧ byteN q.payload 0 = 1 ∧ s.chip.boot.op = none ∧ slotBars s.chip (vget s.chip.boot.cfgSlot (stagedSlot s.chip.boot)) = none) :=
  ⟨⟨cmd31 [], st up, _, by exact ⟨by decide, rfl⟩⟩,
    ⟨cmd31 [], st (boot { cfgSlot := Vector.replicate 2 slotOk } .safeIdle), _, by exact ⟨by decide, rfl, by decide +kernel⟩⟩,
    ⟨cmd31 ([0, 0, 0, 0, 0, 1] ++ zeros 26), st up, _, _, by exact ⟨by decide, rfl, rfl, by decide, by decide, by decide⟩⟩,
    ⟨cmd31 ([0, 0, 0, 0, 0, 1, 0, 0, 1] ++ zeros 23), st up, _, by exact ⟨by decide, rfl, by decide, by decide, by decide, by decide, by decide⟩⟩,
    ⟨st (boot { op := some ⟨true, 31, 0, 1, 0, zeros 16, 16, true⟩ } .safeIdle), _, _, by exact ⟨rfl, by decide, by decide, by decide, rfl⟩⟩,
    ⟨st (boot { op := some ⟨false, 31, 0, 1, 0, zeros 16, 16, true⟩ } .safeIdle), _, _, by exact ⟨rfl, by decide, by decide, by decide, rfl⟩⟩,
    ⟨cmd31 (zeros 4), st (boot { cfgSlot := Vector.replicate 2 slotOk } .safeIdle), by exact ⟨by decide, by decide, by decide, by decide, by decide, by decide +kernel⟩⟩,
    ⟨cmd31 (fit 4 [1]), st (boot { cfgSlot := Vector.replicate 2 slotOk } .safeIdle), by exact ⟨by decide, by decide, by decide, by decide +kernel⟩⟩⟩

theorem witness_trust_commands_act :
    (∃ (q : Req) (s : State) (f : _), heard 0x0E12 6 (lay 4 fun b => [bLe b 0 2, rsv b 1 3]) q s.chip ∧ byteN q.payload 0 = 0 ∧ s.chip.boot.op = none ∧ s.chip.active = false ∧ f = vget s.chip.boot.fw (otherImage s.chip) ∧ packageOk s.chip.anchor f ∧ verLe (0, 0, 0) f.version)
    ∧ (∃ (q : Req) (s : State) (v : _), heard 0x0E12 6 (lay 4 fun b => [bLe b 0 2, rsv b 1 3]) q s.chip ∧ byteN q.payload 0 = 1 ∧ s.chip.boot.op = none ∧ s.chip.sys.duhorn = true ∧ s.chip.boot.runTrial = true ∧ s.chip.boot.trial = true ∧ v = min 64 (vget s.chip.boot.fw s.chip.boot.running).secVer)
    ∧ (∃ (q : Req) (s : State) (on : _) (off : _), heard 0x0E21 7 (lay 3112 fun b => [1 ≤ byteN b 0 && byteN b 0 ≤ 2, byteN b 1 ≤ 2 || byteN b 1 = 0xFF, rsv b 2 2, rsv b 1829 3]) q s.chip ∧ on = byteN q.payload 0 ∧ off = byteN q.payload 1 ∧ (s.chip.sys.dev = .safeIdle ∨ s.chip.sys.dev = .configured) ∧ slice q.payload 4 32 = fit 32 Config.unitId ∧ vget s.chip.anchor.keys on = .standby ∧ off < 3 ∧ off ≠ on ∧ vget s.chip.anchor.keys off = .active ∧ s.chip.active = false ∧ (∀ k : Fin 2, (vget s.chip.boot.fw k).complete = true → (vget s.chip.boot.fw k).signing s.chip.anchor &&& activeMask (rotated s.chip.anchor.keys on off) ≠ 0) ∧ s.chip.boot.op = none ∧ shake256 (slice q.payload 36 1793) 32 = vget s.chip.anchor.keyDigest on)
    ∧ (∃ (q : Req) (s : State), heard 0x0E21 7 (lay 3112 fun b => [1 ≤ byteN b 0 && byteN b 0 ≤ 2, byteN b 1 ≤ 2 || byteN b 1 = 0xFF, rsv b 2 2, rsv b 1829 3]) q s.chip ∧ vget s.chip.anchor.keys (byteN q.payload 0) ≠ .standby)
    ∧ (∃ (q : Req) (s : State), heard 0x0E20 3208 (fun b => bLe b 0 1 && rsv b 1 3 && b.length = (if byteN b 0 = 0 then 36 else 4)) q s.chip ∧ byteN q.payload 0 = 0 ∧ s.chip.sys.duhorn = true)
    ∧ (∃ (q : Req) (s : State), heard 0x0E20 3208 (fun b => bLe b 0 1 && rsv b 1 3 && b.length = (if byteN b 0 = 0 then 36 else 4)) q s.chip ∧ byteN q.payload 0 = 1) :=
  ⟨⟨cmd31 (zeros 4), st { (boot { fw := Vector.replicate 2 good } .safeIdle) with active := false }, _, by exact ⟨by decide, by decide, by decide, by decide, rfl, (good_ok : packageOk anchors good = true), by decide⟩⟩,
    ⟨cmd31 (fit 4 [1]), st (boot { runTrial := true, trial := true, fw := Vector.replicate 2 { data := zeros 6 ++ [65] } } .safeIdle), 64, by constructorm* _ ∧ _ <;> decide⟩,
    ⟨cmd31 ([1, 0, 0, 0] ++ spread Config.unitId ++ zeros 3076), st { (boot {} .safeIdle) with active := false }, 1, 0, by exact ⟨by decide +kernel, by decide +kernel, by decide +kernel, by decide, (by show slice ([1, 0, 0, 0] ++ spread Config.unitId ++ zeros 3076) 4 32 = _; rw [← spread_eq]; rfl), by decide, by decide, by decide, by decide, by decide, by decide, by decide, (by rw [show slice (cmd31 ([1, 0, 0, 0] ++ spread Config.unitId ++ zeros 3076)).payload 36 1793 = zeros 1793 from by decide +kernel]; rfl)⟩⟩,
    ⟨cmd31 ([2] ++ zeros 3111), st { up with anchor := { keys := Vector.replicate 3 .revoked } }, by decide +kernel⟩,
    ⟨cmd31 (zeros 36), st up, by exact ⟨by decide, by decide, by decide⟩⟩,
    ⟨cmd31 (fit 4 [1]), st up, by exact ⟨by decide, by decide⟩⟩⟩

theorem witness_encoders_count :
    (∃ (s : State) (e : Fin 4) (x : _) (t : Nat), x = vget s.chip.lt.enc e ∧ (∀ u, x.seenEdge = some u → u + 25 ≤ s.chip.plantAt t))
    ∧ (∃ (s : State) (e : Fin 4) (x : _), x = vget s.chip.lt.enc e)
    ∧ (∃ (s : State) (e : Fin 4) (x : _) (a : _) (b : _) (t : Nat) (u : _), x = vget s.chip.lt.enc e ∧ (a ≠ x.a ∨ b ≠ x.b) ∧ x.seenEdge = some u ∧ s.chip.plantAt t < u + 25)
    ∧ (∃ (s : State) (e : Fin 4) (x : _), x = vget s.chip.lt.enc e)
    ∧ (∃ (s : State) (e : Fin 4) (l : _) (n : _) (d : _) (t : _) (raw : _), ssiLine s.chip e = some (l, n, d) ∧ (vget s.chip.lt.enc e).frameAt = some t ∧ raw < 2 ^ (s.chip.lcfg l).ssiBits ∧ (s.chip.lcfg l).parity = false ∧ (vget s.chip.lt.enc e).ssi = none)
    ∧ (∃ (s : State) (e : Fin 4) (l : _) (n : _) (d : _) (t : _) (raw : _) (p : _) (k : _), ssiLine s.chip e = some (l, n, d) ∧ (vget s.chip.lt.enc e).frameAt = some t ∧ (k = true ∨ ((s.chip.lcfg l).parity = true ∧ p = false) ∨ 2 ^ (s.chip.lcfg l).ssiBits ≤ raw))
    ∧ (∃ (s : State) (e : Fin 4), (ssiLine s.chip e = none ∨ (vget s.chip.lt.enc e).frameAt = none))
    ∧ (∃ (s : State) (e : Fin 4) (t : _), (vget s.chip.lt.enc e).retryAt = some t)
    ∧ (∃ (s : State) (e : Fin 4), (vget s.chip.lt.enc e).retryAt = none) :=
  ⟨⟨st up, 3, _, 0, by exact ⟨rfl, fun u h => by cases h⟩⟩,
    ⟨st up, 3, _, by rfl⟩,
    ⟨st { up with lt := { enc := Vector.replicate 4 { seenEdge := some 0 } } }, 3, _, true, false, 24, _, by exact ⟨rfl, Or.inl (by decide), rfl, by decide⟩⟩,
    ⟨st up, 3, _, by rfl⟩,
    ⟨st { (lines { source := 2, ssiBits := 24 } { st := .valid, source := 2, input := 3 }) with lt := { line := Vector.replicate 4 { st := .valid, source := 2, input := 3 }, enc := Vector.replicate 4 { frameAt := some 7 } } }, 3, _, _, _, 7, 16777215, by exact ⟨rfl, rfl, by decide, by decide, by decide⟩⟩,
    ⟨st { (lines { source := 2, ssiBits := 24 } { st := .valid, source := 2, input := 3 }) with lt := { line := Vector.replicate 4 { st := .valid, source := 2, input := 3 }, enc := Vector.replicate 4 { frameAt := some 7 } } }, 3, _, _, _, 7, 16777216, true, false, by exact ⟨rfl, rfl, by decide⟩⟩,
    ⟨st up, 3, by decide⟩,
    ⟨st { up with lt := { enc := Vector.replicate 4 { retryAt := some 9 } } }, 3, 9, by decide⟩,
    ⟨st up, 3, by decide⟩⟩

theorem witness_lines_advance :
    (∃ (s : State) (l : Fin 4) (e : _), (s.chip.line l).st = .holdover ∧ (s.chip.line l).holdEnd = some e)
    ∧ (∃ (s : State) (l : Fin 4), ((s.chip.line l).st ≠ .holdover ∨ (s.chip.line l).holdEnd = none))
    ∧ (∃ (s : State) (l : Fin 4) (n : _), n = s.chip.line l ∧ s.chip.active = true ∧ holdsToken s.chip ∧ n.pubMask = 1 ∧ n.st ≠ .idle ∧ n.source ≠ 4 ∧ s.chip.cyc % 2 ^ n.pubE = 0)
    ∧ (∃ (s : State) (l : Fin 4), (s.chip.active = false ∨ (s.chip.line l).pubMask = 0 ∨ s.chip.cyc % 2 ^ (s.chip.line l).pubE ≠ 0))
    ∧ (∃ (s : State) (l : Fin 4) (k : Fin 2) (d : _) (n : _), n = s.chip.line l ∧ s.chip.active = true ∧ n.st ≠ .idle ∧ n.source = 4 ∧ mbit n.input k ∧ n.rxSeq = none ∧ d.length = 52 ∧ ru d 0 4 = (s.chip.lcfg l).plantId ∧ ru (slice d 4 48) 44 4 = crc32c (slice (slice d 4 48) 0 44))
    ∧ (∃ (s : State) (l : Fin 4) (d : _), (d.length ≠ 52 ∨ ru d 0 4 ≠ (s.chip.lcfg l).plantId))
    ∧ (∃ (s : State), s.chip.deferP = [] ∧ s.chip.lt.events = [] ∧ s.chip.pt.trigs = [] ∧ (∀ l : Fin 4, lineEnabled s.chip l = false) ∧ (∀ l : Fin 4, (s.chip.line l).switching = none))
    ∧ (∃ (s : State) (d : _) (l : Fin 4), s.chip.deferP = [d] ∧ d.due ≤ s.chip.cyc ∧ d.opcode = 0x0204 ∧ byteN d.payload 0 = l ∧ (s.chip.line l).source = 3 ∧ s.chip.lt.events = [] ∧ s.chip.pt.trigs = [] ∧ (∀ k : Fin 4, lineEnabled s.chip k = false) ∧ (∀ k : Fin 4, (s.chip.line k).switching = none)) :=
  ⟨⟨st { (lines { source := 1 } { st := .holdover, holdEnd := some 9 }) with lt := { line := Vector.replicate 4 { st := .holdover, holdEnd := some 9 }, events := [{ slot := 3, ev := { line := 3 } }] } }, 3, 9, by exact ⟨by decide, by decide⟩⟩,
    ⟨st up, 3, by decide⟩,
    ⟨st (lines { source := 1 } { st := .valid, source := 1, pubMask := 1, pubE := 2 }), 3, _, by exact ⟨rfl, by decide, by decide, by decide, by decide, by decide, by decide⟩⟩,
    ⟨st up, 3, by decide⟩,
    ⟨st (lines { source := 4 } { st := .syncing, source := 4, input := 3 }), 3, 1, (zeros 4 ++ (zeros 44 ++ le 4 (crc32c (zeros 44)))), _, by exact ⟨rfl, by decide, by decide, by decide, by decide, by decide, by decide +kernel, by decide +kernel, by decide +kernel⟩⟩,
    ⟨st up, 0, zeros 51, by decide⟩,
    ⟨st up, by exact ⟨by decide, by decide, by decide, by decide, by decide⟩⟩,
    ⟨st { (lines {} { source := 3 }) with deferP := [⟨0, 0, 0, 0x0204, [3]⟩] }, _, 3, by exact ⟨rfl, by decide, by decide, by decide, by decide, by decide, by decide, by decide, by decide⟩⟩⟩

theorem witness_line_commands_act :
    (∃ (q : Req) (s : State), heard 0x0201 52 (lay 1 fun b => [isLine (byteN b 0)]) q s.chip)
    ∧ (∃ (q : Req) (s : State) (l : _), heard 0x0202 4 (lay 16 fun b => [isLine (byteN b 0), bLe b 1 1, rsv b 2 6]) q s.chip ∧ l = byteN q.payload 0 ∧ lineEnabled s.chip l ∧ (s.chip.line l).st ≠ .idle ∧ presetBars s.chip l = false ∧ (lineMod s.chip l = 0 ∨ (0 ≤ ri q.payload 8 8 ∧ ri q.payload 8 8 < lineMod s.chip l)))
    ∧ (∃ (q : Req) (s : State) (l : _), heard 0x0202 4 (lay 16 fun b => [isLine (byteN b 0), bLe b 1 1, rsv b 2 6]) q s.chip ∧ l = byteN q.payload 0 ∧ lineEnabled s.chip l ∧ lineMod s.chip l = 0 ∧ (s.chip.line l).st = .idle)
    ∧ (∃ (q : Req) (s : State) (l : _) (n : _), heard 0x0203 4 (lay 24 fun b => [isLine (byteN b 0), bLe b 1 4, rsv b 3 5]) q s.chip ∧ l = byteN q.payload 0 ∧ n = s.chip.line l ∧ lineEnabled s.chip l ∧ byteN q.payload 1 = 3 ∧ byteN q.payload 2 < 4 ∧ ri q.payload 16 8 = 0 ∧ n.switching = none ∧ n.usable = false)
    ∧ (∃ (q : Req) (s : State) (l : _) (n : _), heard 0x0203 4 (lay 24 fun b => [isLine (byteN b 0), bLe b 1 4, rsv b 3 5]) q s.chip ∧ l = byteN q.payload 0 ∧ n = s.chip.line l ∧ lineEnabled s.chip l ∧ byteN q.payload 1 = 3 ∧ byteN q.payload 2 < 4 ∧ ri q.payload 16 8 = 0 ∧ n.switching = none ∧ n.usable = true)
    ∧ (∃ (q : Req) (s : State) (l : _), heard 0x0204 4 (lay 32 fun b => [isLine (byteN b 0), rsv b 1 7, decide (0 < ri b 16 8), ru b 24 8 ≠ 0]) q s.chip ∧ l = byteN q.payload 0 ∧ lineEnabled s.chip l ∧ (s.chip.line l).st ≠ .idle ∧ (s.chip.line l).source = 3)
    ∧ (∃ (q : Req) (s : State) (l : _) (e : _) (t : _), heard 0x0205 32 (lay 18 fun b => [isLine (byteN b 0), rsv b 1 7, ru b 14 4 < 1000000000]) q s.chip ∧ l = byteN q.payload 0 ∧ e = (s.chip.line l).state ∧ t = ofWide q.payload 8 ∧ lineEnabled s.chip l ∧ (s.chip.line l).st ≠ .idle ∧ e.t ≤ t ∧ t ≤ e.t + 1000000000)
    ∧ (∃ (q : Req) (s : State) (l : _), heard 0x0206 4 (lay 8 fun b => [isLine (byteN b 0), bLe b 1 3, bLe b 2 5, rsv b 3 1]) q s.chip ∧ l = byteN q.payload 0 ∧ lineEnabled s.chip l ∧ 2 ^ byteN q.payload 2 * s.chip.period ≤ 1000000 ∧ (s.chip.line l).st ≠ .idle ∧ (s.chip.line l).source ≠ 4) :=
  ⟨⟨cmd [3], st up, by decide⟩,
    ⟨cmd ([3] ++ zeros 15), st (lines { source := 1, modulus := 9 } { st := .valid }), 3, by constructorm* _ ∧ _ <;> decide⟩,
    ⟨cmd ([3] ++ zeros 15), st (lines { source := 1 } {}), 3, by exact ⟨by decide, by decide, by decide, by decide, by decide⟩⟩,
    ⟨cmd ([3, 3, 3] ++ zeros 21), st (lines { source := 1 } {}), 3, _, by exact ⟨by decide, by decide, rfl, by decide, by decide, by decide, by decide, by decide, by decide⟩⟩,
    ⟨cmd ([3, 3, 3] ++ zeros 21), st (lines { source := 1 } { st := .valid }), 3, _, by exact ⟨by decide, by decide, rfl, by decide, by decide, by decide, by decide, by decide, by decide⟩⟩,
    ⟨cmd ([0] ++ zeros 15 ++ [1] ++ zeros 7 ++ [1] ++ zeros 7), st (lines { source := 3 } { st := .valid, source := 3 }), 0, by exact ⟨by decide, by decide, by decide, by decide, by decide⟩⟩,
    ⟨cmd ([0] ++ zeros 17), st (lines { source := 1 } { st := .valid }), 0, _, _, by exact ⟨by decide, by decide, rfl, rfl, by decide, by decide, by decide, by decide⟩⟩,
    ⟨cmd ([0, 3, 5] ++ zeros 5), st (lines { source := 1 } { st := .valid }), 0, by constructorm* _ ∧ _ <;> decide⟩⟩

theorem witness_line_events_act :
    (∃ (q : Req) (s : State) (v : _) (k : _), heard 0x0210 16 layEvent q s.chip ∧ v = parseEv q.payload ∧ k = ru q.payload 0 2 ∧ k < reserveBase s.chip ∧ k ≠ 0xFFFF ∧ lineEnabled s.chip v.line ∧ lineMod s.chip v.line = 0 ∧ behind s.chip v = false ∧ v.action ≠ 4 ∧ v.action ≠ 5 ∧ v.action ≠ 7 ∧ (s.chip.line v.line).st ≠ .idle ∧ findSlot s.chip k = none)
    ∧ (∃ (q : Req) (s : State) (v : _) (k : _), heard 0x0210 16 layEvent q s.chip ∧ v = parseEv q.payload ∧ k = ru q.payload 0 2 ∧ k < reserveBase s.chip ∧ lineEnabled s.chip v.line ∧ lineMod s.chip v.line = 0 ∧ behind s.chip v = true ∧ v.fireIfPast = false)
    ∧ (∃ (q : Req) (s : State) (x : _), heard 0x0211 6 (lay 2 fun b => [ru b 0 2 < 1024]) q s.chip ∧ ru q.payload 0 2 < reserveBase s.chip ∧ findSlot s.chip (ru q.payload 0 2) = some x)
    ∧ (∃ (q : Req) (s : State), heard 0x0212 52 (lay 2 fun b => [ru b 0 2 < 1024]) q s.chip ∧ findSlot s.chip (ru q.payload 0 2) = none)
    ∧ (∃ (q : Req) (s : State) (x : _), heard 0x0212 52 (lay 2 fun b => [ru b 0 2 < 1024]) q s.chip ∧ findSlot s.chip (ru q.payload 0 2) = some x ∧ x.ev.pitch = 0 ∧ x.st ≠ .fired)
    ∧ (∃ (s : State) (k : Fin 1024) (x : _) (d : _), s.chip.lt.events = [x] ∧ (∀ t ∈ s.chip.pt.trigs, t.loaded = false) ∧ x.slot = k.val ∧ x.st = .loaded ∧ x.due = some d ∧ x.ev.pitch = 0 ∧ x.ev.action = 1 ∧ x.ev.report = true ∧ x.ev.line < 4 ∧ x.ev.dirPos = true ∧ x.ev.dirNeg = false ∧ x.refire = 0 ∧ (s.chip.line x.ev.line).st = .valid) :=
  ⟨⟨cmd ([127, 3, 0, 1, 1] ++ zeros 35), st (lines { source := 1 } { st := .syncing }), _, _, by exact ⟨by decide, rfl, rfl, by decide, by decide, by decide, by decide, by constructorm* _ ∧ _ <;> decide⟩⟩,
    ⟨cmd ([0, 0, 0, 1, 1] ++ zeros 35), st (lines { source := 1 } { st := .valid }), _, _, by exact ⟨by decide, rfl, rfl, by decide, by decide, by decide, by decide, by decide⟩⟩,
    ⟨cmd [0, 0], st { up with lt := { events := [{ slot := 0, ev := {} }] } }, _, by exact ⟨by decide, by decide, rfl⟩⟩,
    ⟨cmd [255, 3], st up, by exact ⟨by decide, by decide⟩⟩,
    ⟨cmd [0, 0], st { up with lt := { events := [{ slot := 0, ev := {} }] } }, _, by exact ⟨by decide, rfl, by decide, by decide⟩⟩,
    ⟨st { (lines { source := 1 } { st := .valid }) with lt := { line := Vector.replicate 4 { st := .valid }, events := [{ slot := 895, ev := { action := 1, report := true, dirPos := true, line := 3 }, st := .loaded, due := some 7 }] } }, 895, _, 7, by exact ⟨rfl, by decide, by decide, by decide, by decide, by constructorm* _ ∧ _ <;> decide⟩⟩⟩

theorem witness_latches_capture :
    (∃ (s : State) (i : Fin 16) (h : _), h = vget s.chip.lt.latch i ∧ mbit h.edge 0 = true ∧ (h.gated = false ∨ h.gate = true) ∧ comparators s.chip = [] ∧ h.buf.length < 16)
    ∧ (∃ (s : State) (i : Fin 16) (h : _), h = vget s.chip.lt.latch i ∧ mbit h.edge 0 = true ∧ (h.gated = false ∨ h.gate = true) ∧ comparators s.chip = [] ∧ 16 ≤ h.buf.length)
    ∧ (∃ (s : State) (i : Fin 16) (r : Bool), comparators s.chip = [] ∧ mbit (vget s.chip.lt.latch i).edge (if r then 0 else 1) = false)
    ∧ (∃ (s : State) (i : Fin 16) (r : _) (l : _) (g : _), (vget s.chip.lt.latch i).buf = r :: l ∧ vget s.chip.cfg.sys.evRing 1 = g ∧ g < 32 ∧ ringRoom s.chip g 1)
    ∧ (∃ (q : Req) (s : State), heard 0x0220 4 (lay 8 fun b => [bLe b 0 15, 1 ≤ byteN b 1 % 4, bLe b 1 7, ru b 2 2 ≤ 1000, isLine (byteN b 4), rsv b 5 3]) q s.chip) :=
  ⟨⟨st { up with lt := { latch := Vector.replicate 16 { edge := 1, buf := List.replicate 15 ⟨0, 0, 0, 0, 0, 0⟩ } } }, 15, _, by exact ⟨rfl, by decide, by decide, by decide, by decide⟩⟩,
    ⟨st { up with lt := { latch := Vector.replicate 16 { edge := 1, buf := List.replicate 16 ⟨0, 0, 0, 0, 0, 0⟩ } } }, 15, _, by exact ⟨rfl, by decide, by decide, by decide, by decide⟩⟩,
    ⟨st up, 15, true, by exact ⟨by decide, by decide⟩⟩,
    ⟨st { up with lt := { latch := Vector.replicate 16 { edge := 1, buf := [⟨0, 0, 0, 0, 0, 0⟩] } } }, 15, _, _, _, by exact ⟨rfl, rfl, by decide, by decide⟩⟩,
    ⟨cmd ([15, 3, 0xE8, 3, 3] ++ zeros 3), st up, by decide⟩⟩

theorem witness_plant_time_follows_the_master :
    (∃ (s : State) (k : Fin 4) (origin : _) (corr : _) (rx : _) (o : _), s.chip.pt.slave = some k.val ∧ s.chip.pt.stNext = .locked ∧ s.chip.pt.step = none ∧ holdsToken s.chip ∧ o = syncOffset s.chip k origin corr rx ∧ o.natAbs ≤ 100)
    ∧ (∃ (s : State) (k : Fin 4) (origin : _) (corr : _) (rx : _) (o : _), s.chip.pt.slave = some k.val ∧ s.chip.pt.stNext = .locked ∧ s.chip.pt.step = none ∧ holdsToken s.chip ∧ o = syncOffset s.chip k origin corr rx ∧ 1000 < o.natAbs ∧ 3 ≤ s.chip.pt.badRun)
    ∧ (∃ (s : State) (k : Fin 4) (origin : _) (corr : _) (rx : _) (o : _), s.chip.pt.slave = some k.val ∧ s.chip.pt.stNext = .acquiring ∧ s.chip.pt.step = none ∧ holdsToken s.chip ∧ o = syncOffset s.chip k origin corr rx ∧ o.natAbs ≤ 100 ∧ o.natAbs ≤ s.chip.cfg.ptime.slewWindow ∧ 15 ≤ s.chip.pt.goodRun)
    ∧ (∃ (s : State) (k : Fin 4), s.chip.pt.slave ≠ some k.val)
    ∧ (∃ (s : State) (k : Fin 4), s.chip.active = true ∧ (vget s.chip.pt.ports k).profile ≠ 0 ∧ follows s.chip.pt.stNext = false)
    ∧ (∃ (s : State), s.chip.active = true ∧ s.chip.pt.stNext = .locked)
    ∧ (∃ (s : State) (e : _), s.chip.pt.holdEnd = some e ∧ s.chip.pt.stNext = .holdover)
    ∧ (∃ (s : State) (e : _), s.chip.pt.crossEnd = some e ∧ s.chip.pt.st = .holdover)
    ∧ (∃ (s : State) (k : Fin 4), s.chip.pt.slave = some k.val ∧ follows s.chip.pt.st)
    ∧ (∃ (s : State) (k : Fin 4), s.chip.pt.slave ≠ some k.val)
    ∧ (∃ (s : State) (k : Fin 4) (d : _), (vget s.chip.pt.ports k).profile = 1 ∧ vget s.chip.pt.syncDiff k = some d)
    ∧ (∃ (s : State) (k : Fin 4), 2 ≤ (vget s.chip.pt.ports k).profile)
    ∧ (∃ (s : State) (k : Fin 4), (vget s.chip.pt.ports k).profile = 0)
    ∧ (∃ (s : State) (d : _) (b : _) (T : _), s.chip.pt.step = some (d, b) ∧ T = s.chip.period) :=
  ⟨⟨st (up.onPt fun p => { p with slave := some 3, st := .locked }), 3, -5, 0, 0, _, by exact ⟨by decide, by decide, by decide, by decide, rfl, by decide⟩⟩,
    ⟨st (up.onPt fun p => { p with slave := some 3, st := .locked, badRun := 3 }), 3, 0, 0, 9000, _, by exact ⟨by decide, by decide, by decide, by decide, rfl, by decide, by decide⟩⟩,
    ⟨st (up.onPt fun p => { p with slave := some 3, st := .acquiring, goodRun := 15 }), 3, -5, 0, 0, _, by exact ⟨by decide, by decide, by decide, by decide, rfl, by decide, by decide, by decide⟩⟩,
    ⟨st up, 3, by decide⟩,
    ⟨st (up.onPt fun p => { p with ports := Vector.replicate 14 { profile := 1 } }), 3, by exact ⟨by decide, by decide, by decide⟩⟩,
    ⟨st (up.onPt fun p => { p with st := .locked }), by exact ⟨by decide, by decide⟩⟩,
    ⟨st (up.onPt fun p => { p with st := .holdover, holdEnd := some 5 }), 5, by exact ⟨by decide, by decide⟩⟩,
    ⟨st (up.onPt fun p => { p with st := .holdover, crossEnd := some 5 }), 5, by exact ⟨by decide, by decide⟩⟩,
    ⟨st (up.onPt fun p => { p with slave := some 3, st := .acquiring }), 3, by exact ⟨by decide, by decide⟩⟩,
    ⟨st up, 3, by decide⟩,
    ⟨st (up.onPt fun p => { p with ports := Vector.replicate 14 { profile := 1 }, syncDiff := Vector.replicate 4 (some 8) }), 3, 8, by exact ⟨by decide, by decide⟩⟩,
    ⟨st (up.onPt fun p => { p with ports := Vector.replicate 14 { profile := 3 } }), 3, by decide⟩,
    ⟨st up, 3, by decide⟩,
    ⟨st (up.onPt fun p => { p with step := some (-7, true) }), _, _, _, by exact ⟨rfl, rfl⟩⟩⟩

theorem witness_transmit_stamps_are_queued :
    (∃ (s : State) (k : Fin 6) (id : _) (raw : Int) (f : Bytes) (o : _) (x : _), id < 0x80 ∧ o = inserts (vget s.chip.pt.ports k) f ∧ x = txLand s.chip k raw ∧ (vget s.chip.pt.txq k).length < 16)
    ∧ (∃ (s : State) (k : Fin 6) (id : _) (raw : Int) (f : Bytes) (o : _) (x : _), id < 0x80 ∧ o = inserts (vget s.chip.pt.ports k) f ∧ x = txLand s.chip k raw ∧ 16 ≤ (vget s.chip.pt.txq k).length)
    ∧ (∃ (s : State) (k : Fin 6) (id : _) (raw : Int) (h : _) (t : _), txFrameOf s.chip k id = some h ∧ t = roundDiv (txLand s.chip k raw) 655360 ∧ (vget s.chip.pt.txq k).length < 16)
    ∧ (∃ (q : Req) (s : State) (k : _) (l : _), heard 0x0305 44 (lay 2 fun b => [bLe b 0 5, 1 ≤ byteN b 1 && byteN b 1 ≤ 2]) q s.chip ∧ k = byteN q.payload 0 ∧ l = (vget s.chip.pt.txq k).filter (fun e => 0x80 ≤ e.id))
    ∧ (∃ (q : Req) (s : State) (k : _), heard 0x0306 4 layFrame q s.chip ∧ k = byteN q.payload 0 ∧ s.chip.active = true ∧ mbit s.chip.cfg.ptime.hostPorts k ∧ mbit (byteN q.payload 1) 0 = true ∧ vget s.chip.pt.txAsked k + ((vget s.chip.pt.txq k).filter (fun e => 0x80 ≤ e.id)).length < 4)
    ∧ (∃ (q : Req) (s : State) (k : _), heard 0x0306 4 layFrame q s.chip ∧ k = byteN q.payload 0 ∧ (s.chip.active = false ∨ mbit s.chip.cfg.ptime.hostPorts k = false)) :=
  ⟨⟨st (up.onPt fun p => { p with ports := Vector.replicate 14 { profile := 1, oneStep := true } }), 5, 0x7F, 0, zeros 12 ++ [0x88, 0xF7] ++ zeros 44, _, _, by exact ⟨by decide, rfl, rfl, by decide⟩⟩,
    ⟨st (up.onPt fun p => { p with txq := Vector.replicate 6 (List.replicate 16 ⟨1, 0, 0, 0⟩) }), 5, 0, 0, [], _, _, by exact ⟨by decide, rfl, rfl, by decide⟩⟩,
    ⟨st (up.onPt fun p => { p with txFrames := [(5, 2, 128, 50, zeros 60)] }), 5, 128, 0, _, _, by exact ⟨rfl, rfl, by decide⟩⟩,
    ⟨cmd [5, 2], st (up.onPt fun p => { p with txq := Vector.replicate 6 [⟨0x80, 0, 0, 0⟩, ⟨0x7F, 0, 0, 0⟩, ⟨0xFF, 0, 0, 0⟩, ⟨0x81, 0, 0, 0⟩] }), _, _, by exact ⟨by decide, rfl, rfl⟩⟩,
    ⟨cmd ([5, 1, 0x80, 0, 0, 0, 60, 0] ++ zeros 60), st up, _, by exact ⟨by decide, rfl, by decide, by decide, by decide, by decide⟩⟩,
    ⟨cmd ([5, 1, 0x80, 0, 0, 0, 60, 0] ++ zeros 60), st { up with cfg := { ptime := { hostPorts := 0x1F } } }, _, by exact ⟨by decide, rfl, by decide⟩⟩⟩

theorem witness_plant_time_commands_act :
    (∃ (q : Req) (s : State) (p : _), heard 0x0301 44 layNone q s.chip ∧ p = s.chip.pt)
    ∧ (∃ (q : Req) (s : State), heard 0x0302 4 layPort q s.chip ∧ portBreach s.chip (byteN q.payload 0) (parsePort q.payload) = false)
    ∧ (∃ (q : Req) (s : State), heard 0x0304 4 layFormat q s.chip)
    ∧ (∃ (q : Req) (s : State), heard 0x0303 12 layNone q s.chip ∧ stepPermitted s.chip true ∧ s.chip.pt.step = none ∧ s.chip.pt.stepPending = true)
    ∧ (∃ (q : Req) (s : State), heard 0x0303 12 layNone q s.chip ∧ s.chip.pt.stepPending = false ∧ s.chip.pt.step = none)
    ∧ (∃ (q : Req) (s : State) (k : _), heard 0x0310 5 layTrig q s.chip ∧ k = byteN q.payload 0 ∧ k < 32 ∧ findTrig s.chip k = none ∧ nextTprAt s.chip ≤ ofWide q.payload 8)
    ∧ (∃ (q : Req) (s : State) (k : _) (t : _), heard 0x0310 5 layTrig q s.chip ∧ k = byteN q.payload 0 ∧ k < 32 ∧ findTrig s.chip k = some t ∧ nextTprAt s.chip ≤ ofWide q.payload 8)
    ∧ (∃ (q : Req) (s : State) (t : _), heard 0x0311 8 (lay 1 fun b => [bLe b 0 31]) q s.chip ∧ findTrig s.chip (byteN q.payload 0) = some t)
    ∧ (∃ (s : State) (k : Fin 32) (t : _), s.chip.pt.trigs = [t] ∧ (∀ x ∈ s.chip.lt.events, x.st ≠ .loaded) ∧ t.slot = k.val ∧ t.loaded = true ∧ t.action = 1 ∧ t.report = true ∧ t.period = 0) :=
  ⟨⟨cmd [], st up, _, by exact ⟨by decide, rfl⟩⟩,
    ⟨cmd ([3, 1, 0, 0, 0, 0xFE, 1, 3] ++ zeros 12), st up, by exact ⟨by decide, by decide⟩⟩,
    ⟨cmd [0, 5, 1], st up, by decide⟩,
    ⟨cmd [], st (up.onPt fun p => { p with stepPending := true }), by exact ⟨by decide, by decide, by decide, by decide⟩⟩,
    ⟨cmd [], st up, by exact ⟨by decide, by decide, by decide⟩⟩,
    ⟨cmd ([31, 1, 0, 0] ++ zeros 8 ++ [0, 1] ++ zeros 18), st up, _, by exact ⟨by decide, rfl, by decide, by decide, by decide⟩⟩,
    ⟨cmd ([31, 1, 0, 0] ++ zeros 8 ++ [0, 1] ++ zeros 18), st (up.onPt fun p => { p with trigs := [⟨31, 1, true, false, 0, 0, 0, 0, 0, 0, 0, 0, false, false⟩] }), _, _, by exact ⟨by decide, rfl, by decide, rfl, by decide⟩⟩,
    ⟨cmd [31], st (up.onPt fun p => { p with trigs := [⟨31, 1, true, false, 0, 0, 0, 0, 0, 0, 0, 0, false, false⟩] }), _, by exact ⟨by decide, rfl⟩⟩,
    ⟨st { (up.onPt fun p => { p with trigs := [⟨31, 1, true, false, 0, 0, 0, 0, 0, 0, 0, 0, true, false⟩] }) with deferP := [⟨0, 0, 0, 0x0311, [31]⟩] }, 31, _, by exact ⟨rfl, by decide, by decide, by decide, by decide, by decide, by decide⟩⟩⟩

theorem witness_star_frames_acts :
    (∃ (s : State) (k : Fin 24) (h : Fin 2) (off : Int) (f : Bytes) (sl : _) (n : _), s.chip.star.run = true ∧ n = s.chip.node k ∧ (s.chip.ch k h).st = .active ∧ n.slot = some sl ∧ frameFault f 2 (k + 1) sl s.chip.count (fun f => ru f 8 2 = s.chip.count % 65536 && uplinkBody (s.chip.port k) f) = 0 ∧ off.natAbs ≤ 512 ∧ 5 * off + 256 * (f.length : Int) ≤ 70400 ∧ n.copy = none ∧ n.fresh = false ∧ s.chip.pair.st = none ∧ s.chip.cfg.slot.fwd = [] ∧ (s.chip.port k).pdu = false)
    ∧ (∃ (s : State) (k : Fin 24) (h : Fin 2) (off : Int) (f : Bytes) (sl : _), s.chip.star.run = true ∧ (s.chip.ch k h).st = .active ∧ (s.chip.node k).slot = some sl ∧ frameFault f 2 (k + 1) sl s.chip.count (fun f => ru f 8 2 = s.chip.count % 65536 && uplinkBody (s.chip.port k) f) = 0 ∧ 896 < off.natAbs)
    ∧ (∃ (s : State) (k : Fin 24) (h : Fin 2) (f : _) (sl : _), s.chip.star.run = true ∧ (s.chip.ch k h).st = .active ∧ (s.chip.node k).slot = some sl ∧ 32 ≤ f.length ∧ f.length ≤ 256 ∧ ru f (f.length - 4) 4 ≠ crc32c (f.take (f.length - 4)))
    ∧ (∃ (s : State) (k : Fin 24) (h : Fin 2), s.chip.star.run = true ∧ 0 < (s.chip.port k).a ∧ sendsDownlinks s.chip ∧ chSends s.chip k h ∧ (s.chip.ch k h).st = .active) :=
  ⟨⟨st (cell { a := 1 } { slot := some 0 } { st := .active }), 23, 1, 512, checked ([2, 24, 0, 0, 0, 0, 0, 0, 0, 0, 48, 0, 0, 1, 0, 0, 3, 0, 0, 0, 1] ++ zeros 23), 0, _, by exact ⟨by decide, rfl, by decide, by decide, by decide +kernel, by decide, by decide +kernel, by decide, by decide, by decide, by decide, by decide⟩⟩,
    ⟨st (cell { a := 1 } { slot := some 0 } { st := .active }), 23, 1, -897, checked ([2, 24, 0, 0, 0, 0, 0, 0, 0, 0, 48, 0, 0, 1, 0, 0, 3, 0, 0, 0, 1] ++ zeros 23), 0, by decide +kernel⟩,
    ⟨st (cell { a := 1 } { slot := some 0 } { st := .active }), 23, 1, zeros 32, 0, by decide +kernel⟩,
    ⟨st (cell { a := 1 } { slot := some 0 } { st := .active }), 23, 1, by exact ⟨by decide, by decide, by decide, by decide, by decide⟩⟩⟩

theorem witness_channels_change_state :
    (∃ (s : State) (k : Fin 24) (h : Fin 2), laneOut s.chip k h = false ∧ (s.chip.ch k h).st = .down)
    ∧ (∃ (s : State) (k : Fin 24) (h : Fin 2), laneOut s.chip k h = false ∧ (s.chip.ch k h).st = .active)
    ∧ (∃ (s : State) (k : Fin 24) (h : Fin 2), (s.chip.ch k h).st = .lock ∧ 64 ≤ (s.chip.ch k h).count ∧ (s.chip.node k).slot.isSome)
    ∧ (∃ (s : State) (k : Fin 24) (h : Fin 2), (s.chip.ch k h).st = .active ∧ (s.chip.ch k h).got = false ∧ 63 ≤ (s.chip.ch k h).silent)
    ∧ (∃ (s : State) (k : Fin 24) (h : Fin 2), (s.chip.ch k h).st = .excluded ∧ 63 ≤ (s.chip.ch k h).count)
    ∧ (∃ (s : State) (k : Fin 24) (h : Fin 2), (s.chip.ch k h).st = .ranging ∧ (s.chip.ch k h).retry = 1)
    ∧ (∃ (s : State) (k : Fin 24) (h : Fin 2), chSends s.chip k h ∧ (s.chip.ch k h).st = .ranging ∧ (s.chip.ch k h).retry = 0 ∧ (s.chip.ch k h).next = none)
    ∧ (∃ (s : State) (k : Fin 24) (h : Fin 2) (rtt : _) (f : _) (t : _) (x : _), x = s.chip.ch k h ∧ s.chip.star.run = true ∧ x.st = .ranging ∧ x.echoAt = some t ∧ frameFault f 5 (k + 1) 0xFF s.chip.count (fun f => f.length = 32 && ru f 8 2 = x.echo && rsv f 20 8) = 0 ∧ 64 * (s.chip.t0 + Config.tUpEnd s.chip.cfg.sys.period) ≤ 64 * t + rtt ∧ 64 * t + rtt ≤ 64 * (s.chip.t0 + Config.tUpEnd s.chip.cfg.sys.period + 2000) ∧ x.samples.length < 15)
    ∧ (∃ (s : State) (e : _), s.chip.star.coldEnd = some e) :=
  ⟨⟨st (cell { a := 1 } { slot := some 0 } { st := .down }), 23, 1, by exact ⟨by decide, by decide⟩⟩,
    ⟨st (cell { a := 1 } { slot := some 0 } { st := .active }), 23, 1, by exact ⟨by decide, by decide⟩⟩,
    ⟨st (cell { a := 1 } { slot := some 0 } { st := .lock, count := 64 }), 23, 1, by exact ⟨by decide, by decide, by decide⟩⟩,
    ⟨st (cell { a := 1 } { slot := some 0 } { st := .active, silent := 63 }), 23, 1, by exact ⟨by decide, by decide, by decide⟩⟩,
    ⟨st (cell { a := 1 } { slot := some 0 } { st := .excluded, count := 63 }), 23, 1, by exact ⟨by decide, by decide⟩⟩,
    ⟨st (cell { a := 1 } { slot := some 0 } { st := .ranging, retry := 1 }), 23, 1, by exact ⟨by decide, by decide⟩⟩,
    ⟨st (cell { a := 1 } { slot := some 0 } { st := .ranging }), 23, 1, by exact ⟨by decide, by decide, by decide, by decide⟩⟩,
    ⟨st (cell { a := 1 } { slot := some 0 } { st := .ranging, echoAt := some (Config.tUpEnd 0) }), 23, 1, 0, checked ([5, 24, 255, 0, 0, 0, 0, 0, 0, 0, 32, 0, 0, 1, 0, 0] ++ zeros 12), Config.tUpEnd 0, _, by exact ⟨rfl, by decide, by decide, by decide, by decide +kernel, by decide, by decide, by decide⟩⟩,
    ⟨st (up.onStar fun x => { x with coldEnd := some 5 }), 5, by decide⟩⟩

theorem witness_claims_and_node_requests :
    (∃ (s : State) (k : Fin 24) (h : Fin 2) (off : _) (f : _) (u : _), s.chip.star.run = true ∧ (s.chip.ch k h).st = .claiming ∧ (s.chip.ch k h).claimOpen = true ∧ inService s.chip (64 * s.chip.t0 + off) ∧ u = (s.chip.cyc, ru f 8 2) ∧ frameFault f 6 (k + 1) 0xFF s.chip.count (fun f => f.length = 48 && rsv f 29 1 && rsv f 36 8) = 0 ∧ (s.chip.node k).refused = 0 ∧ (s.chip.node k).claimWait = none ∧ (s.chip.node k).claimSeq ≠ some u ∧ (k.val + 1, byteN f 28, ru f 16 4, ru f 20 4) ∈ s.chip.cfg.slot.claims ∧ ru f 30 2 ≤ (s.chip.port k).tPrep)
    ∧ (∃ (s : State) (k : Fin 24) (h : Fin 2) (off : _) (f : _) (u : _), s.chip.star.run = true ∧ (s.chip.ch k h).st = .claiming ∧ (s.chip.ch k h).claimOpen = true ∧ inService s.chip (64 * s.chip.t0 + off) ∧ u = (s.chip.cyc, ru f 8 2) ∧ frameFault f 6 (k + 1) 0xFF s.chip.count (fun f => f.length = 48 && rsv f 29 1 && rsv f 36 8) = 0 ∧ (s.chip.node k).refused = 0 ∧ (s.chip.node k).claimWait = none ∧ (s.chip.node k).claimSeq ≠ some u ∧ (k.val + 1, byteN f 28, ru f 16 4, ru f 20 4) ∉ s.chip.cfg.slot.claims)
    ∧ (∃ (s : State) (k : Fin 24) (h : Fin 2) (off : _) (f : _) (u : _), s.chip.star.run = true ∧ (s.chip.ch k h).st = .claiming ∧ (s.chip.ch k h).claimOpen = true ∧ inService s.chip (64 * s.chip.t0 + off) ∧ u = (s.chip.cyc, ru f 8 2) ∧ frameFault f 6 (k + 1) 0xFF s.chip.count (fun f => f.length = 48 && rsv f 29 1 && rsv f 36 8) = 0 ∧ (s.chip.node k).claimSeq = some u)
    ∧ (∃ (s : State) (k : Fin 24) (h : Fin 2) (f : _), s.chip.star.run = true ∧ (s.chip.ch k h).st = .claiming ∧ (s.chip.ch k h).claimOpen = false ∧ frameFault f 6 (k + 1) 0xFF s.chip.count (fun f => f.length = 48 && rsv f 29 1 && rsv f 36 8) = 0)
    ∧ (∃ (s : State) (k : Fin 24), (s.chip.node k).refused = 1)
    ∧ (∃ (s : State) (k : Fin 24) (sl : _), chUsed s.chip k 0 = true ∧ chUsed s.chip k 1 = false ∧ (s.chip.ch k 0).st = .down ∧ 64 ≤ (s.chip.ch k 0).downFor ∧ (s.chip.node k).slot = some sl ∧ (s.chip.node k).claimed = true)
    ∧ (∃ (s : State) (k : Fin 24) (b : _) (t : _) (n : _), n = s.chip.node k ∧ n.transfer = some t ∧ acycValid b ∧ mbit (byteN b 1) 0 = true ∧ mbit (byteN b 1) 1 = false ∧ ru b 4 2 = t.id)
    ∧ (∃ (s : State) (k : Fin 24) (t : _), (s.chip.node k).transfer = some t ∧ (∀ b ∈ t.blocks, b.overdue s.chip.cyc → b.tries < 4))
    ∧ (∃ (s : State) (k : Fin 24) (t : _) (b : _), (s.chip.node k).transfer = some t ∧ b ∈ t.blocks ∧ b.overdue s.chip.cyc ∧ 4 ≤ b.tries ∧ t.ring < 8 ∧ ringRoom s.chip (t.ring + 8) 1)
    ∧ (∃ (s : State) (k : Fin 24) (t : _), (s.chip.node k).transfer = some t ∧ t.begun = false ∧ t.ring < 8 ∧ ringRoom s.chip (t.ring + 8) 1) :=
  ⟨⟨st { (cell { a := 1, claim := true } {} { st := .claiming, claimOpen := true }) with cfg := { slot := { slots := [(0, false), (0, true)], port := Vector.replicate 24 { a := 1, claim := true }, claims := [(24, 0, 0, 0)] } } }, 23, 1, 64 * Config.tUpEnd 0, checked ([6, 24, 255, 0, 0, 0, 0, 0, 0, 0, 48, 0, 0, 1, 0, 0] ++ zeros 28), _, by exact ⟨by decide, by decide, by decide, by decide, rfl, by decide +kernel, by decide, by decide, by decide, by decide +kernel, by decide +kernel⟩⟩,
    ⟨st { (cell { a := 1, claim := true } {} { st := .claiming, claimOpen := true }) with cfg := { slot := { slots := [(0, false), (0, true)], port := Vector.replicate 24 { a := 1, claim := true } } } }, 23, 1, 64 * (Config.tUpEnd 0 + 2000), checked ([6, 24, 255, 0, 0, 0, 0, 0, 0, 0, 48, 0, 0, 1, 0, 0] ++ zeros 28), _, by exact ⟨by decide, by decide, by decide, by decide, rfl, by decide +kernel, by decide, by decide, by decide, by decide +kernel⟩⟩,
    ⟨st { (cell { a := 1, claim := true } { claimSeq := some (0, 0) } { st := .claiming, claimOpen := true }) with cfg := { slot := { slots := [(0, false), (0, true)], port := Vector.replicate 24 { a := 1, claim := true } } } }, 23, 1, 64 * Config.tUpEnd 0, checked ([6, 24, 255, 0, 0, 0, 0, 0, 0, 0, 48, 0, 0, 1, 0, 0] ++ zeros 28), _, by exact ⟨by decide, by decide, by decide, by decide, rfl, by decide +kernel, by decide +kernel⟩⟩,
    ⟨st (cell { a := 1 } {} { st := .claiming }), 23, 1, checked ([6, 24, 255, 0, 0, 0, 0, 0, 0, 0, 48, 0, 0, 1, 0, 0] ++ zeros 28), by decide +kernel⟩,
    ⟨st (cell {} { refused := 1 } {}), 23, by decide⟩,
    ⟨st (cell { a := 1, chA := true } { slot := some 0, claimed := true } { st := .down, downFor := 64 }), 23, 0, by constructorm* _ ∧ _ <;> decide⟩,
    ⟨st (cell {} { transfer := some { opcode := 0x0410, ring := 0, seq := 5, id := 7, blocks := [{ seq := 0, data := [] }], deadline := 9 } } {}), 23, checked ([1, 1, 0, 0, 7, 0] ++ zeros 54), _, _, by exact ⟨rfl, rfl, by decide +kernel, by decide, by decide, by decide⟩⟩,
    ⟨st { (cell {} { transfer := some { opcode := 0x0410, ring := 0, seq := 5, id := 7, blocks := [{ seq := 0, data := [], tries := 3, due := false }], deadline := 9 } } {}) with cyc := 2 }, 23, _, by exact ⟨rfl, by decide⟩⟩,
    ⟨st { (cell {} { transfer := some { opcode := 0x0410, ring := 7, seq := 5, id := 7, blocks := [{ seq := 0, data := [], tries := 4, due := false }], deadline := 9 } } {}) with cyc := 2 }, 23, _, { seq := 0, data := [], tries := 4, due := false }, by exact ⟨rfl, by decide, by decide, by decide, by decide, by decide⟩⟩,
    ⟨st (cell {} { transfer := some { opcode := 0x0410, ring := 7, seq := 5, id := 7, blocks := [{ seq := 0, data := [] }], deadline := 9 } } {}), 23, _, by exact ⟨rfl, by decide, by decide, by decide⟩⟩⟩

theorem witness_cell_commands_act :
    (∃ (q : Req) (s : State), heard 0x0401 36 layNone q s.chip)
    ∧ (∃ (q : Req) (s : State) (k : _) (h : _) (x : _), heard 0x0402 52 (lay 2 fun b => [isNode (byteN b 0), bLe b 1 1]) q s.chip ∧ k = byteN q.payload 0 - 1 ∧ h = byteN q.payload 1 ∧ x = s.chip.ch k h ∧ chUsed s.chip k h)
    ∧ (∃ (q : Req) (s : State), heard 0x0403 4 (lay 2 fun b => [bLe b 0 24, bLe b 1 3]) q s.chip ∧ byteN q.payload 0 = 0 ∧ byteN q.payload 1 = 3)
    ∧ (∃ (q : Req) (s : State) (k : _), heard 0x0404 4 (lay 2 fun b => [isNode (byteN b 0), bLe b 1 3]) q s.chip ∧ k = byteN q.payload 0 - 1 ∧ maskUsed s.chip k (byteN q.payload 1) ∧ (chUsed s.chip k 0 ∨ chUsed s.chip k 1) ∧ nodeInUse s.chip k = false)
    ∧ (∃ (q : Req) (s : State) (k : _), heard 0x0410 (8 + ru q.payload 10 2) (lay 12 fun b => [isNode (byteN b 0), rsv b 1 3, 1 ≤ ru b 10 2 && ru b 10 2 ≤ 4084]) q s.chip ∧ k = byteN q.payload 0 - 1 ∧ (chUsed s.chip k 0 ∨ chUsed s.chip k 1) ∧ chCount s.chip k .active ≠ 0 ∧ (s.chip.node k).transfer = none)
    ∧ (∃ (q : Req) (s : State) (k : _), heard 0x0411 4 layNodeWrite q s.chip ∧ k = byteN q.payload 0 - 1 ∧ (chUsed s.chip k 0 ∨ chUsed s.chip k 1) ∧ chCount s.chip k .active ≠ 0 ∧ (s.chip.node k).transfer = none)
    ∧ (∃ (q : Req) (s : State) (k : _), heard 0x0411 4 layNodeWrite q s.chip ∧ k = byteN q.payload 0 - 1 ∧ (chUsed s.chip k 0 ∨ chUsed s.chip k 1) ∧ chCount s.chip k .active = 0)
    ∧ (∃ (q : Req) (s : State) (k : _) (sl : _), heard 0x0420 5 (lay 1 fun b => [isNode (byteN b 0)]) q s.chip ∧ k = byteN q.payload 0 - 1 ∧ (s.chip.node k).claimed = true ∧ (s.chip.node k).slot = some sl ∧ chCount s.chip k .active = 0) :=
  ⟨⟨cmd [], st up, by decide⟩,
    ⟨cmd [24, 1], st { (cell { a := 1, chB := true } {} {}) with active := true }, _, _, _, by exact ⟨by decide, rfl, rfl, rfl, by decide⟩⟩,
    ⟨cmd [0, 3], st up, by exact ⟨by decide, by decide, by decide⟩⟩,
    ⟨cmd [24, 2], st (cell { a := 1, chB := true } {} {}), _, by exact ⟨by decide, rfl, by decide, by decide, by decide⟩⟩,
    ⟨cmd ([24, 0, 0, 0] ++ zeros 6 ++ [0xF4, 0x0F]), st (cell { a := 1, chB := true } {} { st := .active }), _, by exact ⟨by decide, rfl, by decide, by decide, by decide⟩⟩,
    ⟨cmd ([24, 0, 0, 0] ++ zeros 6 ++ [4, 0] ++ zeros 4), st (cell { a := 1, chB := true } {} { st := .active }), _, by exact ⟨by decide, rfl, by decide, by decide, by decide⟩⟩,
    ⟨cmd ([24, 0, 0, 0] ++ zeros 6 ++ [4, 0] ++ zeros 4), st (cell { a := 1, chB := true } {} { st := .down }), _, by exact ⟨by decide, rfl, by decide, by decide⟩⟩,
    ⟨cmd [24], st (cell { a := 1, chB := true } { slot := some 3, claimed := true } { st := .down }), _, 3, by exact ⟨by decide, rfl, by decide, by decide, by decide⟩⟩⟩

theorem witness_engines_dispatch_and_commit :
    (∃ (s : State) (e : Fin 18) (off : _) (a : _) (g : _) (p : _) (k : _) (r : _) (out : _), s.chip.active = true ∧ s.chip.loops.closed = false ∧ (s.chip.atOff off).now < s.chip.t0 + Config.tDl s.chip.cfg.sys.period ∧ running s.chip e = none ∧ inputsReady s.chip a = true ∧ (vget s.chip.loops.eng e).axes.find? (fun a => !(s.chip.axis a).dispatched) = some a ∧ s.chip.acfg a = some g ∧ findProgram s.chip (programId g (s.chip.axis a)) = some p ∧ p.custom = false ∧ p.identity ≠ 0x00010032 ∧ k = (if p.q15 then coefsQ15 p (fit 4096 (s.chip.axis a).coef) else coefsBf p (fit 4096 (s.chip.axis a).coef)) ∧ r = law k (s.chip.axis a).sp (s.chip.axis a).state (s.chip.axis a).inp (sampleMissing (s.chip.node (g.node - 1)) (s.chip.axis a)) p.observer ∧ out = le 2 ((s.chip.axis a).sp.control % 8) ++ leI 2 (satI 16 (r.2.1 + excite s.chip a)) ++ zeros 4)
    ∧ (∃ (s : State) (e : Fin 18) (off : _) (a : _) (g : _) (p : _) (out : _), s.chip.active = true ∧ s.chip.loops.closed = false ∧ (s.chip.atOff off).now < s.chip.t0 + Config.tDl s.chip.cfg.sys.period ∧ running s.chip e = none ∧ inputsReady s.chip a = true ∧ (vget s.chip.loops.eng e).axes.find? (fun a => !(s.chip.axis a).dispatched) = some a ∧ s.chip.acfg a = some g ∧ findProgram s.chip (programId g (s.chip.axis a)) = some p ∧ p.custom = false ∧ p.identity = 0x00010032 ∧ out = le 2 ((s.chip.axis a).sp.control % 8 + 8) ++ leI 2 (s.chip.axis a).sp.phA ++ leI 2 (s.chip.axis a).sp.phB ++ zeros 2)
    ∧ (∃ (s : State) (off : _), s.chip.active = true ∧ (s.chip.loops.closed = true ∨ s.chip.t0 + Config.tDl s.chip.cfg.sys.period ≤ (s.chip.atOff off).now))
    ∧ (∃ (s : State) (e : Fin 18) (a : _), s.chip.active = true ∧ running s.chip e = some a)
    ∧ (∃ (s : State) (k : Fin 24), s.chip.active = true ∧ (s.chip.node k).fresh = false)
    ∧ (∃ (s : State) (k : Fin 24), (s.chip.node k).fresh = true)
    ∧ (∃ (s : State) (e : Fin 18) (off : _) (a : _) (out : _) (x : _), running s.chip e = some a ∧ a < 128 ∧ x = s.chip.axis a ∧ x.staged = some out ∧ off < Config.tDl s.chip.cfg.sys.period ∧ s.chip.now ≤ s.chip.t0 + off)
    ∧ (∃ (s : State) (e : Fin 18) (off : _) (a : _), running s.chip e = some a ∧ Config.tDl s.chip.cfg.sys.period ≤ off)
    ∧ (∃ (s : State) (e : Fin 18) (a : _), running s.chip e = some a)
    ∧ (∃ (s : State) (e : Fin 18) (a : _) (g : _), s.chip.loops.closed = false ∧ s.chip.acfg a = some g ∧ (vget s.chip.loops.eng e).axes.count a = 1 ∧ (∀ j : Fin 18, j ≠ e → a ∉ (vget s.chip.loops.eng j).axes) ∧ (s.chip.axis a).committed = true)
    ∧ (∃ (s : State) (e : Fin 18) (a : _) (g : _), s.chip.loops.closed = false ∧ s.chip.acfg a = some g ∧ (vget s.chip.loops.eng e).axes.count a = 1 ∧ (∀ j : Fin 18, j ≠ e → a ∉ (vget s.chip.loops.eng j).axes) ∧ (s.chip.axis a).committed = false)
    ∧ (∃ (s : State), s.chip.loops.closed = true) :=
  ⟨⟨st (loop { normal := 7 } {}), 17, 0, 127, _, _, _, _, _, by exact ⟨by decide, by decide, by decide, by decide, by decide, by decide, rfl, rfl, by decide, by decide, rfl, rfl, rfl⟩⟩,
    ⟨st (loop { normal := 0x00010032 } {}), 17, 0, 127, _, _, _, by exact ⟨by decide, by decide, by decide, by decide, by decide, by decide, rfl, rfl, by decide, by decide, rfl⟩⟩,
    ⟨st { (loop {} {}) with loops := { closed := true } }, 0, by exact ⟨by decide, Or.inl rfl⟩⟩,
    ⟨st (loop { normal := 7 } { dispatched := true }), 17, 127, by exact ⟨by decide, by decide⟩⟩,
    ⟨st up, 23, by exact ⟨by decide, by decide⟩⟩,
    ⟨st (loop {} {}), 23, by decide⟩,
    ⟨st (loop { normal := 7 } { dispatched := true, staged := some [1] }), 17, 0, 127, _, _, by exact ⟨by decide, by decide, rfl, rfl, by decide, by decide⟩⟩,
    ⟨st (loop { normal := 7 } { dispatched := true, staged := some [1] }), 17, 55250, 127, by exact ⟨by decide, by decide⟩⟩,
    ⟨st (loop { normal := 7 } { dispatched := true }), 17, 127, by decide⟩,
    ⟨st (loop { normal := 7 } { dispatched := true, committed := true }), 17, 127, _, by exact ⟨by decide, rfl, by decide, by decide, by decide⟩⟩,
    ⟨st (loop { normal := 7 } { dispatched := true }), 17, 127, _, by exact ⟨by decide, rfl, by decide, by decide, by decide⟩⟩,
    ⟨st { (loop {} {}) with loops := { closed := true } }, by decide⟩⟩

theorem witness_loop_commands_act :
    (∃ (q : Req) (s : State) (g : _), heard 0x0501 48 (lay 1 fun b => [bLe b 0 17]) q s.chip ∧ g = vget s.chip.loops.eng (byteN q.payload 0))
    ∧ (∃ (q : Req) (s : State) (a : _) (x : _) (g : _) (p : _), heard 0x0502 36 (lay 1 fun b => [bLe b 0 127]) q s.chip ∧ a = byteN q.payload 0 ∧ x = s.chip.axis a ∧ s.chip.acfg a = some g ∧ findProgram s.chip (programId g x) = some p)
    ∧ (∃ (q : Req) (s : State), heard 0x0502 36 (lay 1 fun b => [bLe b 0 127]) q s.chip ∧ s.chip.acfg (byteN q.payload 0) = none)
    ∧ (∃ (q : Req) (s : State) (k : _), heard 0x0503 4 (lay 1 fun b => [byteN b 0 < 18 || byteN b 0 = 0xFF]) q s.chip ∧ k = byteN q.payload 0 ∧ k < 18)
    ∧ (∃ (q : Req) (s : State) (p : _), heard 0x0504 68 (lay 4 fun _ => []) q s.chip ∧ findProgram s.chip (ru q.payload 0 4) = some p)
    ∧ (∃ (q : Req) (s : State), heard 0x0504 68 (lay 4 fun _ => []) q s.chip ∧ findProgram s.chip (ru q.payload 0 4) = none) :=
  ⟨⟨cmd [17], st up, _, by exact ⟨by decide, rfl⟩⟩,
    ⟨cmd [127], st (loop { normal := 7 } {}), _, _, _, _, by exact ⟨by decide, rfl, rfl, rfl, rfl⟩⟩,
    ⟨cmd [127], st up, by exact ⟨by decide, by decide⟩⟩,
    ⟨cmd [17], st up, _, by exact ⟨by decide, rfl, by decide⟩⟩,
    ⟨cmd [7, 0, 0, 0], st (loop {} {}), _, by exact ⟨by decide, rfl⟩⟩,
    ⟨cmd [8, 0, 0, 0], st (loop {} {}), by exact ⟨by decide, by decide⟩⟩⟩

theorem witness_sequence_timers_end :
    (∃ (s : State) (o : Fin 44) (g : _), s.chip.ocfg o = some g ∧ (s.chip.seq o).st = .enabling ∧ (s.chip.seq o).fault = none ∧ ((s.chip.seq o).step = .power ∨ (s.chip.seq o).step = .release ∨ (s.chip.seq o).step = .settle) ∧ o.val ∈ stopGroup s.chip o)
    ∧ (∃ (s : State) (o : Fin 44) (g : _) (x : _), s.chip.ocfg o = some g ∧ x = s.chip.seq o ∧ x.st = .stopping ∧ x.stop = .disable ∧ x.step = .brake ∧ x.brakeStuck = false ∧ x.tool.step ≠ .brake ∧ (seqAxes s.chip o).any (fun a => !noBrake s.chip a && brakeOpen s.chip a) = false)
    ∧ (∃ (s : State) (o : Fin 44) (g : _) (x : _), s.chip.ocfg o = some g ∧ x = s.chip.seq o ∧ x.st = .stopping ∧ x.stop = .disable ∧ x.step = .brake ∧ x.brakeStuck = false ∧ x.tool.step ≠ .brake ∧ (seqAxes s.chip o).any (fun a => !noBrake s.chip a && brakeOpen s.chip a) = true)
    ∧ (∃ (s : State) (o : Fin 44) (g : _) (x : _), s.chip.ocfg o = some g ∧ x = s.chip.seq o ∧ x.st = .hold ∧ x.tool.step = .brake ∧ x.tool.stuck = false ∧ x.tool.axes.any (fun a => !noBrake s.chip a && brakeOpen s.chip a) = false)
    ∧ (∃ (s : State) (o : Fin 44) (g : _) (x : _), s.chip.ocfg o = some g ∧ x = s.chip.seq o ∧ x.st = .stopping ∧ x.stop = .disable ∧ x.step = .off ∧ x.tool.step ≠ .off ∧ x.fault = none ∧ o.val ∈ stopGroup s.chip o ∧ (seqAxes s.chip o).any (powerOn s.chip) = true)
    ∧ (∃ (s : State) (o : Fin 44) (g : _) (x : _) (t : _), s.chip.ocfg o = some g ∧ x = s.chip.seq o ∧ x.st = .stopping ∧ x.stop = .fault ∧ x.stopSent = some t ∧ x.overdue = false ∧ (notStopped s.chip o).isEmpty = false)
    ∧ (∃ (c : Chip) (o : _) (g : _) (x : _), o < 44 ∧ c.ocfg o = some g ∧ x = c.seq o ∧ x.st = .stopping ∧ x.stop = .fault ∧ x.overdue = true)
    ∧ (∃ (s : State) (a : Fin 12) (t : _), (s.chip.seq a).test = some t ∧ t.endsAt ≤ s.chip.now)
    ∧ (∃ (s : State) (o : Fin 44) (t : _), (s.chip.seq o).offEnd = some t) :=
  ⟨⟨st (own { st := .enabling, step := .power } {}), 43, _, by exact ⟨rfl, by decide, by decide, by decide, by decide⟩⟩,
    ⟨st (own { st := .stopping, stop := .disable, step := .brake } {}), 43, _, _, by exact ⟨rfl, rfl, by decide, by decide, by decide, by decide, by decide, by decide⟩⟩,
    ⟨st (own { st := .stopping, stop := .disable, step := .brake } { axes := [{ status := 2 }] }), 11, _, _, by exact ⟨rfl, rfl, by decide, by decide, by decide, by decide, by decide, by decide⟩⟩,
    ⟨st (own { st := .hold, tool := { step := .brake } } {}), 43, _, _, by exact ⟨rfl, rfl, by decide, by decide, by decide, by decide⟩⟩,
    ⟨st (own { st := .stopping, stop := .disable, step := .off } { axes := [{ status := 1 }] }), 43, _, _, by exact ⟨rfl, rfl, by decide, by decide, by decide, by decide, by decide, by decide, by decide⟩⟩,
    ⟨st (own { st := .stopping, stop := .fault, stopSent := some 0 } {}), 43, _, _, 0, by exact ⟨rfl, rfl, by decide, by decide, by decide, by decide, by decide⟩⟩,
    ⟨own { st := .stopping, stop := .fault, overdue := true } {}, 43, _, _, by exact ⟨by decide, rfl, rfl, by decide, by decide, by decide⟩⟩,
    ⟨st (own { test := some ⟨127, 1, 0, 0, 0, 0, 0, [], 0⟩ } {}), 11, _, by exact ⟨rfl, by decide⟩⟩,
    ⟨st (own { offEnd := some 7 } {}), 43, 7, by decide⟩⟩

theorem witness_owners_enable_and_disable :
    (∃ (q : Req) (s : State), heard 0x0510 5 (lay 2 fun b => [isArm (byteN b 0), bLe b 1 1]) q s.chip ∧ (s.chip.ocfg (byteN q.payload 0)).isSome ∧ shutsDown s.chip (s.chip.seq (byteN q.payload 0)) = false ∧ toolStops (s.chip.seq (byteN q.payload 0)) = false ∧ enableBars s.chip (byteN q.payload 0) (mbit (byteN q.payload 1) 0) = false)
    ∧ (∃ (q : Req) (s : State) (o : _), heard 0x0510 5 (lay 2 fun b => [isArm (byteN b 0), bLe b 1 1]) q s.chip ∧ o = byteN q.payload 0 ∧ (s.chip.ocfg o).isSome ∧ shutsDown s.chip (s.chip.seq o) = true ∧ (s.chip.seq o).fault = none ∧ (s.chip.seq o).latched = none)
    ∧ (∃ (q : Req) (s : State) (o : _), heard 0x0510 5 (lay 2 fun b => [isArm (byteN b 0), bLe b 1 1]) q s.chip ∧ o = byteN q.payload 0 ∧ (s.chip.ocfg o).isSome ∧ (s.chip.seq o).st ≠ .hold ∧ shutsDown s.chip (s.chip.seq o) = false ∧ toolStops (s.chip.seq o) = false ∧ enableBars s.chip o (mbit (byteN q.payload 1) 0) = true)
    ∧ (∃ (q : Req) (s : State) (o : _), heard 0x080D 5 (lay 1 fun b => [bLe b 0 31]) q s.chip ∧ o = 12 + byteN q.payload 0 ∧ (s.chip.ocfg o).isSome ∧ shutsDown s.chip (s.chip.seq o) = false ∧ enableBars s.chip o false = false)
    ∧ (∃ (q : Req) (s : State) (o : _), heard 0x0511 5 (lay 2 fun b => [isArm (byteN b 0), bLe b 1 3]) q s.chip ∧ o = byteN q.payload 0 ∧ byteN q.payload 1 = 0 ∧ (s.chip.ocfg o).isSome ∧ (s.chip.seq o).st ≠ .faulted ∧ ((s.chip.seq o).st = .stopping → (s.chip.seq o).stop = .disable))
    ∧ (∃ (q : Req) (s : State) (o : _), heard 0x0511 5 (lay 2 fun b => [isArm (byteN b 0), bLe b 1 3]) q s.chip ∧ o = byteN q.payload 0 ∧ byteN q.payload 1 = 1 ∧ (s.chip.ocfg o).isSome ∧ (s.chip.seq o).brakeStuck = false ∧ (s.chip.seq o).tool.stuck = false)
    ∧ (∃ (q : Req) (s : State) (o : _), heard 0x080E 5 (lay 2 fun b => [bLe b 0 31, bLe b 1 1]) q s.chip ∧ o = 12 + byteN q.payload 0 ∧ byteN q.payload 1 = 0 ∧ (s.chip.ocfg o).isSome ∧ (s.chip.seq o).st ≠ .faulted ∧ ((s.chip.seq o).st = .stopping → (s.chip.seq o).stop = .disable))
    ∧ (∃ (q : Req) (s : State) (o : _), heard 0x0519 5 (lay 1 fun b => [isArm (byteN b 0)]) q s.chip ∧ o = byteN q.payload 0 ∧ (s.chip.ocfg o).isSome ∧ clearBars s.chip o = false)
    ∧ (∃ (q : Req) (s : State) (o : _), heard 0x080F 4 (lay 1 fun b => [(targetOwner (byteN b 0)).isSome]) q s.chip ∧ targetOwner (byteN q.payload 0) = some o ∧ (s.chip.ocfg o).isSome ∧ ownerAtRest s.chip o = true ∧ (s.chip.seq o).st ≠ .faulted)
    ∧ (∃ (c : Chip) (o : _), o < 44 ∧ enableBars c o false = false ∧ shutsDown c (c.seq o) = false ∧ (c.seq o).st = .disabled)
    ∧ (∃ (c : Chip) (o : _), o < 44 ∧ (c.seq o).st = .faulted ∧ clearBars c o = false) :=
  ⟨⟨cmd [11, 1], st (own {} {}), by exact ⟨by decide, by decide, by decide, by decide, by decide⟩⟩,
    ⟨cmd [11, 1], st (own { st := .stopping, stop := .disable } {}), _, by exact ⟨by decide, rfl, by decide, by decide, by decide, by decide⟩⟩,
    ⟨cmd [11, 1], st (own { st := .running } {}), _, by exact ⟨by decide, rfl, by decide, by decide, by decide, by decide, by decide⟩⟩,
    ⟨cmd [31], st (own {} {}), _, by exact ⟨by decide, rfl, by decide, by decide, by decide⟩⟩,
    ⟨cmd [11, 0], st (own { st := .running } {}), _, by exact ⟨by decide, rfl, by decide, by decide, by decide, by decide⟩⟩,
    ⟨cmd [11, 1], st (own {} {}), _, by exact ⟨by decide, rfl, by decide, by decide, by decide, by decide⟩⟩,
    ⟨cmd [31, 0], st (own { st := .hold } {}), _, by exact ⟨by decide, rfl, by decide, by decide, by decide, by decide⟩⟩,
    ⟨cmd [11], st (own { st := .faulted, fault := some (8, 127, 0) } { state := 2 }), _, by exact ⟨by decide, rfl, by decide, by decide⟩⟩,
    ⟨cmd [0x5F], st (own {} {}), 43, by decide +kernel⟩,
    ⟨own {} {}, 43, by exact ⟨by decide, by decide, by decide, by decide⟩⟩,
    ⟨own { st := .faulted, fault := some (8, 127, 0) } {}, 11, by exact ⟨by decide, by decide, by decide⟩⟩⟩

theorem witness_joint_commands_act :
    (∃ (q : Req) (s : State) (o : _) (x : _) (xs : _) (f : _), heard 0x0512 24 (lay 1 fun b => [isArm (byteN b 0)]) q s.chip ∧ o = byteN q.payload 0 ∧ (s.chip.ocfg o).isSome ∧ x = s.chip.seq o ∧ xs = ownerAxes s.chip o ∧ f = x.fault.getD (0, 0, 0))
    ∧ (∃ (q : Req) (s : State) (a : _) (b : _) (x : _), heard 0x0513 4 (fun b => 8 ≤ b.length && layBlock b && b.length = 8 + ru b 4 2 && bLe b 0 127 && bLe b 1 1 && rsv b 6 2) q s.chip ∧ b = q.payload ∧ a = byteN b 0 ∧ x = s.chip.axis a ∧ (s.chip.acfg a).isSome ∧ swapPending s.chip a = false ∧ byteN b 1 = 0 ∧ x.bank = 0)
    ∧ (∃ (q : Req) (s : State) (a : _) (b : _) (x : _), heard 0x0513 4 (fun b => 8 ≤ b.length && layBlock b && b.length = 8 + ru b 4 2 && bLe b 0 127 && bLe b 1 1 && rsv b 6 2) q s.chip ∧ b = q.payload ∧ a = byteN b 0 ∧ x = s.chip.axis a ∧ (s.chip.acfg a).isSome ∧ swapPending s.chip a = false ∧ byteN b 1 = 1 ∧ x.bank = 1)
    ∧ (∃ (q : Req) (s : State) (a : _) (b : _), heard 0x0514 4104 (fun b => b.length = 6 && layBlock b && bLe b 0 127 && bLe b 1 1) q s.chip ∧ b = q.payload ∧ a = byteN b 0 ∧ (s.chip.acfg a).isSome)
    ∧ (∃ (q : Req) (s : State) (o : _) (gen : _) (d : _), heard 0x0515 12 (lay 8 fun b => [byteN b 0 < 12 && byteN b 1 = 0 || byteN b 0 = 0xFF && bLe b 1 127, rsv b 2 2]) q s.chip ∧ swapTarget s.chip q.payload = some o ∧ (s.chip.ocfg o).isSome ∧ gen = ru q.payload 4 4 ∧ swapChecks s.chip (ownerAxes s.chip o) gen = none ∧ (s.chip.seq o).swap = none ∧ d = s.chip.cyc + ahead s.chip 0x0515 + 1)
    ∧ (∃ (q : Req) (s : State) (o : _) (gen : _), heard 0x0515 12 (lay 8 fun b => [byteN b 0 < 12 && byteN b 1 = 0 || byteN b 0 = 0xFF && bLe b 1 127, rsv b 2 2]) q s.chip ∧ swapTarget s.chip q.payload = some o ∧ (s.chip.ocfg o).isSome ∧ gen = ru q.payload 4 4 ∧ swapChecks s.chip (ownerAxes s.chip o) gen = some .checkFail)
    ∧ (∃ (q : Req) (s : State) (o : _), heard 0x0516 4 (lay 24 fun b => [bLe b 0 127, bLe b 1 4, ru b 2 2 ≤ 3200, 1 ≤ ru b 4 4 && ru b 4 4 ≤ 2147483647, ru b 8 4 ≤ ru b 4 4, 66 ≤ ru b 12 4 && ru b 12 4 ≤ 6553600, 1 ≤ ru b 16 2 && ru b 16 2 ≤ 100, ru b 18 2 < 0x8000, 1 ≤ ru b 20 2 && ru b 20 2 ≤ 100, rsv b 22 2]) q s.chip ∧ axisOwner s.chip (byteN q.payload 0) = some o ∧ s.chip.sys.dev ≠ .automatic ∧ ((s.chip.seq o).st = .disabled ∨ (s.chip.seq o).st = .hold))
    ∧ (∃ (q : Req) (s : State) (a : _) (x : _) (y : _), heard 0x0517 32 (lay 1 fun b => [bLe b 0 127]) q s.chip ∧ a = byteN q.payload 0 ∧ (axisOwner s.chip a).isSome ∧ x = s.chip.axis a ∧ y = s.chip.sup a)
    ∧ (∃ (q : Req) (s : State) (o : _), heard 0x0518 4 (lay 16 fun b => [bLe b 0 127, 1 ≤ byteN b 1 && byteN b 1 ≤ 3, 10 ≤ ru b 12 4 && ru b 12 4 ≤ 60000]) q s.chip ∧ axisOwner s.chip (byteN q.payload 0) = some o ∧ o < 12 ∧ s.chip.sys.dev = .commissioning ∧ (s.chip.seq o).st = .hold ∧ (s.chip.seq o).test = none)
    ∧ (∃ (b : _) (c : Chip) (o : _), axisOwner c (byteN b 0) = some o ∧ o < 12 ∧ c.sys.dev = .commissioning ∧ (c.seq o).st = .hold ∧ (c.seq o).test = none) :=
  ⟨⟨cmd [11], st (own {} {}), _, _, _, _, by exact ⟨by decide, rfl, by decide, rfl, rfl, rfl⟩⟩,
    ⟨cmd ([127, 0, 0, 0, 4, 0] ++ zeros 6), st (own {} {}), _, _, _, by exact ⟨by decide, rfl, rfl, rfl, by decide, by decide, by decide, by decide⟩⟩,
    ⟨cmd ([127, 1, 0, 0, 4, 0] ++ zeros 6), st { (own {} {}) with loops := { ax := Vector.replicate 128 { bank := 1 } } }, _, _, _, by exact ⟨by decide, rfl, rfl, rfl, by decide, by decide, by decide, by decide⟩⟩,
    ⟨cmd [127, 1, 0xFC, 0x0F, 4, 0], st (own {} {}), _, _, by exact ⟨by decide, rfl, rfl, by decide⟩⟩,
    ⟨cmd [11, 0, 0, 0, 0, 0, 0, 0], st { (own {} {}) with cfg := { arm := Vector.replicate 12 (some {}) } }, 11, 0, _, by exact ⟨by decide, by decide, by decide, by decide, by decide, by decide, rfl⟩⟩,
    ⟨cmd [11, 0, 0, 0, 0, 0, 0, 0], st (own {} {}), 11, _, by exact ⟨by decide, by decide, by decide, rfl, by decide⟩⟩,
    ⟨cmd ([127, 4, 0x80, 0x0C, 1, 0, 0, 0, 1, 0, 0, 0, 66, 0, 0, 0, 1, 0, 0, 0, 1, 0, 0, 0]), st (own {} {}), 43, by exact ⟨by decide, by decide, by decide, by decide⟩⟩,
    ⟨cmd [127], st (own {} {}), _, _, _, by exact ⟨by decide, rfl, by decide, rfl, rfl⟩⟩,
    ⟨cmd ([95, 1] ++ zeros 10 ++ [10, 0, 0, 0]), st (own { st := .hold } {}), 11, by constructorm* _ ∧ _ <;> decide⟩,
    ⟨[95], own { st := .hold } {}, 11, by exact ⟨by decide, by decide, by decide, by decide, by decide⟩⟩⟩

theorem witness_feed_forward_is_written :
    (∃ (s : State) (t : Fin 9), s.chip.active = true ∧ (s.chip.tileOf t).st = .inService ∧ (s.chip.tileOf t).started = false)
    ∧ (∃ (s : State) (t : Fin 9), (s.chip.active = false ∨ (s.chip.tileOf t).st ≠ .inService ∨ (s.chip.tileOf t).started = true))
    ∧ (∃ (s : State) (a : Fin 12) (off : _) (m : _) (t : _), s.chip.mcfg a = some m ∧ m.valid = false ∧ tileFor s.chip a = some t ∧ (s.chip.tileOf t).started = true ∧ (s.chip.sarm a).part = 0 ∧ s.chip.loops.closed = false ∧ off < Config.tDl s.chip.cfg.sys.period ∧ jobsBefore s.chip t a)
    ∧ (∃ (s : State) (a : Fin 12) (off : _) (m : _) (t : _) (g : Rig) (r : List Int × Bool), s.chip.mcfg a = some m ∧ m.valid = true ∧ tileFor s.chip a = some t ∧ (s.chip.tileOf t).started = true ∧ (s.chip.sarm a).part = 0 ∧ s.chip.loops.closed = false ∧ off < Config.tDl s.chip.cfg.sys.period ∧ jobsBefore s.chip t a ∧ g = rigOf s.chip a m ∧ (g.joints.map (·.joint)).Nodup ∧ r = ffTorque g (armState s.chip g.joints))
    ∧ (∃ (s : State) (a : Fin 12) (off : _) (m : _) (t : _) (g : Rig) (r : List Nat × Bool), s.chip.mcfg a = some m ∧ m.valid = true ∧ tileFor s.chip a = some t ∧ (s.chip.tileOf t).started = true ∧ (s.chip.sarm a).part = 1 ∧ s.chip.loops.closed = false ∧ off < Config.tDl s.chip.cfg.sys.period ∧ classCEnd s.chip t a ≤ off ∧ jobsBefore s.chip t a ∧ g = rigOf s.chip a m ∧ (g.joints.map (·.joint)).Nodup ∧ r = ffRatio g (armState s.chip g.joints))
    ∧ (∃ (s : State) (a : Fin 12) (off : _), (s.chip.mcfg a = none ∨ s.chip.loops.closed = true ∨ Config.tDl s.chip.cfg.sys.period ≤ off)) :=
  ⟨⟨st (solve { st := .inService } {} []), 8, by exact ⟨by decide, by decide, by decide⟩⟩,
    ⟨st up, 8, by decide⟩,
    ⟨st { (solve { st := .inService, arms := [11], started := true } {} []) with cfg := { model := Vector.replicate 12 (some { valid := false }) } }, 11, 0, _, 0, by exact ⟨rfl, by decide, by decide, by decide, by decide, by decide, by decide, by decide⟩⟩,
    ⟨st (solve { st := .inService, arms := [11], started := true } { present := 1 } []), 11, 0, _, 0, _, _, by exact ⟨rfl, by decide, by decide, by decide, by decide, by decide, by decide, by decide, rfl, by decide, rfl⟩⟩,
    ⟨st (solve { st := .inService, arms := [11], started := true } { present := 1, part := 1 } []), 11, 2125, _, 0, _, _, by exact ⟨rfl, by decide, by decide, by decide, by decide, by decide, by decide, by decide, by decide, rfl, by decide, rfl⟩⟩,
    ⟨st up, 11, 0, by decide⟩⟩

theorem witness_jobs_run_and_end :
    (∃ (s : State) (t : Fin 9) (j : _) (y : _), s.chip.active = true ∧ (s.chip.tileOf t).st = .inService ∧ s.chip.solver.jobs.any (fun j => j.tile = some t.val && j.done.isNone) = false ∧ classCNow s.chip t 0 = false ∧ nextWaiting s.chip = some j ∧ (j.type ≠ 3 ∨ j.iterate.isSome ∨ j.seed ≠ []) ∧ y = s.chip.sarm j.arm)
    ∧ (∃ (s : State) (t : Fin 9) (j : _) (m : _) (y : _) (w : _), s.chip.active = true ∧ (s.chip.tileOf t).st = .inService ∧ s.chip.solver.jobs.any (fun j => j.tile = some t.val && j.done.isNone) = false ∧ classCNow s.chip t 0 = false ∧ nextWaiting s.chip = some j ∧ j.type = 3 ∧ j.iterate = none ∧ j.seed = [] ∧ j.arm < 12 ∧ s.chip.mcfg j.arm = some m ∧ y = s.chip.sarm j.arm ∧ w = warmStart (rigOf s.chip j.arm m) y j)
    ∧ (∃ (s : State) (t : Fin 9), (s.chip.active = false ∨ classCNow s.chip t 0 ∨ nextWaiting s.chip = none))
    ∧ (∃ (s : State) (t : Fin 9) (u : _) (d : _) (j : _) (y : _) (c : Chip), d = s.chip.atTime u ∧ runningJob d t = some j ∧ j.type = 3 ∧ j.over = false ∧ nextIterate d j = some y ∧ j.iterate.any (fun x => y.k ≤ x.k) = false ∧ c = onJob d j.id (fun j => { j with iterate := some y }))
    ∧ (∃ (s : State) (t : Fin 9) (u : _), runningJob (s.chip.atTime u) t = none)
    ∧ (∃ (s : State) (t : Fin 9) (u : _) (d : _) (j : _) (x : _) (w : _), d = s.chip.atTime u ∧ runningJob d t = some j ∧ j.type = 3 ∧ j.iterate = some x ∧ x.ended = true ∧ j.seg = none ∧ j.arm < 12 ∧ (d.mcfg j.arm).isSome ∧ w = ikWords d j x)
    ∧ (∃ (s : State) (t : Fin 9) (u : _) (d : _) (j : _) (m : _) (r : _), d = s.chip.atTime u ∧ runningJob d t = some j ∧ j.type ≠ 3 ∧ j.type ≠ 8 ∧ j.seg = none ∧ j.arm < 12 ∧ d.mcfg j.arm = some m ∧ r = jobResult (jobRig d j m) j.type j.flags j.inputs)
    ∧ (∃ (s : State) (id : _) (j : _) (n : _), findJob s.chip id = some j ∧ j.done = none ∧ j.seg = none ∧ j.iterate = none ∧ n = max s.chip.now j.deadline)
    ∧ (∃ (s : State) (id : _) (j : _) (x : _) (y : _) (n : _), findJob s.chip id = some j ∧ j.done = none ∧ j.seg = none ∧ j.iterate = some x ∧ x.ended = false ∧ y = { x with flags := x.flags - x.flags % 2 } ∧ n = max s.chip.now j.deadline)
    ∧ (∃ (s : State) (id : _) (j : _) (x : _) (n : _), findJob s.chip id = some j ∧ j.done = none ∧ j.seg = none ∧ j.iterate = some x ∧ x.ended = true ∧ n = max s.chip.now j.deadline)
    ∧ (∃ (s : State) (id : _) (j : _), findJob s.chip id = some j ∧ j.done.isSome)
    ∧ (∃ (s : State) (id : _) (j : _) (st : _) (b : _) (t : Nat), findJob s.chip id = some j ∧ j.done = some (st, b, t)) :=
  ⟨⟨st (solve { st := .inService, arms := [11] } {} [{ job with type := 1 }]), 8, _, _, by exact ⟨by decide, by decide, by decide, by decide, rfl, by decide, rfl⟩⟩,
    ⟨st (solve { st := .inService, arms := [11] } {} [job]), 8, _, _, _, _, by exact ⟨by decide, by decide, by decide, by decide, rfl, by decide, by decide, by decide, by decide, rfl, rfl, rfl⟩⟩,
    ⟨st (solve {} {} []), 8, by decide⟩,
    ⟨st (solve {} {} [{ job with tile := some 8 }]), 8, 0, _, _, _, _, by exact ⟨rfl, rfl, by decide, by decide, rfl, by decide, rfl⟩⟩,
    ⟨st up, 8, 0, by decide⟩,
    ⟨st (solve {} {} [{ job with tile := some 8, iterate := some { k := 15, flags := 1, ended := true } }]), 8, 0, _, _, _, _, by exact ⟨rfl, rfl, by decide, rfl, by decide, by decide, by decide, by decide, rfl⟩⟩,
    ⟨st (solve {} {} [{ job with tile := some 8, type := 1 }]), 8, 0, _, _, _, _, by exact ⟨rfl, rfl, by decide, by decide, by decide, by decide, rfl, rfl⟩⟩,
    ⟨st (solve {} {} [job]), 7, _, _, by exact ⟨rfl, by decide, by decide, by decide, rfl⟩⟩,
    ⟨st (solve {} {} [{ job with iterate := some { k := 15, flags := 3 } }]), 7, _, _, _, _, by exact ⟨rfl, by decide, by decide, rfl, by decide, rfl, rfl⟩⟩,
    ⟨st (solve {} {} [{ job with iterate := some { k := 15, flags := 3, ended := true } }]), 7, _, _, _, by exact ⟨rfl, by decide, by decide, rfl, by decide, rfl⟩⟩,
    ⟨st (solve {} {} [{ job with done := some (0, [], 3) }]), 7, _, by exact ⟨rfl, by decide⟩⟩,
    ⟨st (solve {} {} [{ job with done := some (0, [], 3) }]), 7, _, _, _, _, by exact ⟨rfl, rfl⟩⟩⟩

theorem witness_solver_commands_act :
    (∃ (q : Req) (s : State) (a : _) (x : _) (m : _), heard 0x0601 40 (lay 1 fun b => [isArm (byteN b 0)]) q s.chip ∧ a = byteN q.payload 0 ∧ s.chip.mcfg a = some m ∧ x = s.chip.sarm a)
    ∧ (∃ (q : Req) (s : State) (a : _), heard 0x0602 8 (lay 100 fun b => [isArm (byteN b 0), rsv b 1 3, rsv b 76 24]) q s.chip ∧ a = byteN q.payload 0 ∧ (s.chip.mcfg a).isSome ∧ ((s.chip.seq a).st = .disabled ∨ (s.chip.seq a).st = .hold))
    ∧ (∃ (q : Req) (s : State) (a : _), heard 0x0602 8 (lay 100 fun b => [isArm (byteN b 0), rsv b 1 3, rsv b 76 24]) q s.chip ∧ a = byteN q.payload 0 ∧ (s.chip.mcfg a).isSome ∧ (s.chip.seq a).st ≠ .disabled ∧ (s.chip.seq a).st ≠ .hold)
    ∧ (∃ (q : Req) (s : State) (m : _), heard 0x0603 8 (lay 20 fun b => [isArm (byteN b 0), rsv b 1 3]) q s.chip ∧ s.chip.mcfg (byteN q.payload 0) = some m ∧ 0 ≤ ri q.payload 4 4 ∧ ri q.payload 4 4 ≤ m.payMax)
    ∧ (∃ (q : Req) (s : State) (a : _) (m : _) (b : _) (cap : _) (n : Nat), heard 0x0604 12 (fun b => 12 ≤ b.length && [1 ≤ byteN b 0 && byteN b 0 ≤ 7, isArm (byteN b 1), bLe b 2 15, bLe b 3 64, 10 ≤ ru b 4 4 && ru b 4 4 ≤ 1000000].all id) q s.chip ∧ b = q.payload ∧ a = byteN b 1 ∧ s.chip.mcfg a = some m ∧ m.valid = true ∧ b.length = 12 + inputLen (nPresent s.chip a) (byteN b 0) (byteN b 2) ∧ queueRoom s.chip 1 ∧ ((s.chip.solver.jobs.filter (fun j => j.tile.isNone && j.done.isNone)).filter (·.host)).length < 16 ∧ byteN b 2 % 4 < 2 ∧ cap = (if byteN b 3 = 0 then m.cap else byteN b 3) ∧ n = freshJob s.chip)
    ∧ (∃ (q : Req) (s : State) (j : _) (st : _) (b : _) (t : _), heard 0x0605 352 (lay 2 fun _ => []) q s.chip ∧ findJob s.chip (ru q.payload 0 2) = some j ∧ j.done = some (st, b, t) ∧ b.length ≤ 348)
    ∧ (∃ (q : Req) (s : State) (j : _), heard 0x0605 352 (lay 2 fun _ => []) q s.chip ∧ findJob s.chip (ru q.payload 0 2) = some j ∧ j.done = none)
    ∧ (∃ (q : Req) (s : State) (j : _), heard 0x0606 4 (lay 2 fun _ => []) q s.chip ∧ findJob s.chip (ru q.payload 0 2) = some j ∧ j.done = none)
    ∧ (∃ (q : Req) (s : State) (j : _), heard 0x0606 4 (lay 2 fun _ => []) q s.chip ∧ findJob s.chip (ru q.payload 0 2) = some j ∧ (∃ st b t, j.done = some (st, b, t) ∧ (t ≠ s.chip.now ∨ t ≠ j.deadline)))
    ∧ (∃ (q : Req) (s : State) (j : _) (b : _), heard 0x0606 4 (lay 2 fun _ => []) q s.chip ∧ findJob s.chip (ru q.payload 0 2) = some j ∧ j.done = some (7, b, s.chip.now) ∧ j.deadline = s.chip.now)
    ∧ (∃ (q : Req) (s : State) (a : _), heard 0x0607 4 (lay 1 fun b => [byteN b 0 < 12 || byteN b 0 = 0xFF]) q s.chip ∧ a = byteN q.payload 0 ∧ armOrAll s.chip a = true)
    ∧ (∃ (q : Req) (s : State) (x : _), heard 0x0608 24 (lay 1 fun b => [bLe b 0 8]) q s.chip ∧ x = s.chip.tileOf (byteN q.payload 0))
    ∧ (∃ (q : Req) (s : State) (a : _) (t : _), heard 0x0609 4 (lay 2 fun b => [byteN b 0 < 12 || byteN b 0 = 0xFF, byteN b 1 < 9 || byteN b 1 = 0xFF]) q s.chip ∧ a = byteN q.payload 0 ∧ t = byteN q.payload 1 ∧ armOrAll s.chip a = true) :=
  ⟨⟨cmd [11], st (solve {} {} []), _, _, _, by exact ⟨by decide, rfl, rfl, rfl⟩⟩,
    ⟨cmd ([11] ++ zeros 99), st (solve {} {} []), _, by exact ⟨by decide, rfl, by decide, by decide⟩⟩,
    ⟨cmd ([11] ++ zeros 99), st { (solve {} {} []) with joints := { arm := Vector.replicate 12 { st := .running } } }, _, by exact ⟨by decide, rfl, by decide, by decide, by decide⟩⟩,
    ⟨cmd ([11] ++ zeros 19), st (solve {} {} []), _, by exact ⟨by decide, rfl, by decide, by decide⟩⟩,
    ⟨cmd ([3, 11, 0, 64, 10, 0, 0, 0] ++ zeros 4 ++ zeros 28), st (solve {} {} []), _, _, _, _, 0, by exact ⟨by decide +kernel, rfl, rfl, rfl, by decide +kernel, by decide +kernel, by decide, by decide, by decide, rfl, by decide +kernel⟩⟩,
    ⟨cmd [7, 0], st (solve {} {} [{ job with done := some (0, zeros 348, 3) }]), _, _, _, _, by exact ⟨by decide, rfl, rfl, by decide +kernel⟩⟩,
    ⟨cmd [7, 0], st (solve {} {} [job]), _, by exact ⟨by decide, rfl, by decide⟩⟩,
    ⟨cmd [7, 0], st (solve {} {} [job]), _, by exact ⟨by decide, rfl, by decide⟩⟩,
    ⟨cmd [7, 0], st (solve {} {} [{ job with done := some (0, [], 3) }]), _, by exact ⟨by decide, rfl, ⟨_, _, _, rfl, by decide⟩⟩⟩,
    ⟨cmd [7, 0], st { (solve {} {} [{ job with done := some (7, [], 9) }]) with now := 9 }, _, _, by exact ⟨by decide, rfl, rfl, by decide⟩⟩,
    ⟨cmd [0xFF], st (solve {} {} []), _, by exact ⟨by decide, rfl, by decide⟩⟩,
    ⟨cmd [8], st (solve {} {} []), _, by exact ⟨by decide, rfl⟩⟩,
    ⟨cmd [11, 0xFF], st (solve {} {} []), _, _, by exact ⟨by decide, rfl, rfl, by decide⟩⟩⟩

theorem witness_planner_ticks :
    (∃ (s : State), s.chip.active = true ∧ holdsToken s.chip = true ∧ s.chip.cfg.plan.isSome ∧ s.chip.cyc % Config.tickCycles s.chip.cfg.sys.period = 0 ∧ s.chip.planner.tickAt ≠ some s.chip.cyc ∧ s.chip.planner.late = true)
    ∧ (∃ (s : State), (s.chip.active = false ∨ holdsToken s.chip = false ∨ s.chip.cfg.plan = none ∨ s.chip.cyc % Config.tickCycles s.chip.cfg.sys.period ≠ 0 ∨ s.chip.planner.tickAt = some s.chip.cyc))
    ∧ (∃ (s : State), s.chip.active = true ∧ holdsToken s.chip = true ∧ s.chip.cfg.plan.isSome ∧ s.chip.cyc % Config.tickCycles s.chip.cfg.sys.period = 0 ∧ s.chip.planner.tickAt ≠ some s.chip.cyc ∧ s.chip.planner.late = false)
    ∧ (∃ (s : State) (load : _), s.chip.active = true ∧ s.chip.planner.level = 0 ∧ load ≤ 98 * 65536 ∧ 85 * 65536 < load)
    ∧ (∃ (s : State) (load : _), s.chip.active = true ∧ s.chip.planner.level < 2 ∧ 98 * 65536 < load)
    ∧ (∃ (s : State) (load : _), s.chip.active = true ∧ s.chip.planner.level = 1 ∧ load < 70 * 65536 ∧ 9 ≤ s.chip.planner.calm)
    ∧ (∃ (s : State) (load : _), s.chip.active = true ∧ s.chip.planner.level = 2 ∧ load < 85 * 65536 ∧ s.chip.planner.calm < 9)
    ∧ (∃ (s : State) (k : Fin 8) (j : Fin 8), j ≠ k ∧ vget s.chip.planner.core k = .inService ∧ vget s.chip.planner.core j = .inService)
    ∧ (∃ (s : State) (k : Fin 8), (∀ j : Fin 8, vget s.chip.planner.core j = .inService ↔ j = k))
    ∧ (∃ (c : Chip) (root : Nat) (x : _), findSeg c root = some x ∧ x.live = true)
    ∧ (∃ (c : Chip) (id : Nat) (k : Nat) (x : _), findSeg c id = some x ∧ x.st = .proposed ∧ assumptions c x = 511 - 2 ^ k ∧ (k = 0 ∨ k = 1 ∨ k = 2 ∨ k = 6) ∧ (c.planner.segs.map (·.id)).Nodup) :=
  ⟨⟨st (plan { late := true }), by constructorm* _ ∧ _ <;> decide⟩,
    ⟨st up, by decide⟩,
    ⟨st (plan {}), by constructorm* _ ∧ _ <;> decide⟩,
    ⟨st up, 6422528, by exact ⟨by decide, by decide, by decide, by decide⟩⟩,
    ⟨st (up.onPlanner fun p => { p with level := 1 }), 6422529, by exact ⟨by decide, by decide, by decide⟩⟩,
    ⟨st (up.onPlanner fun p => { p with level := 1, calm := 9 }), 4587519, by exact ⟨by decide, by decide, by decide, by decide⟩⟩,
    ⟨st (up.onPlanner fun p => { p with level := 2, calm := 8 }), 5570559, by exact ⟨by decide, by decide, by decide, by decide⟩⟩,
    ⟨st up, 7, 0, by exact ⟨by decide, by decide, by decide⟩⟩,
    ⟨st (up.onPlanner fun p => { p with core := vset (Vector.replicate 8 .pool) 7 .inService }), 7, by decide⟩,
    ⟨plan { segs := [seg] }, 9, _, by exact ⟨rfl, by decide⟩⟩,
    ⟨plan { segs := [{ seg with sigAssumed := 1, solver := some true }], picks := [pick], snap := { cls := Vector.replicate 12 4, arm := Vector.replicate 12 (.hold, false) } }, 9, 6, _, by exact ⟨rfl, by decide, by decide +kernel, by decide, by decide⟩⟩⟩

theorem witness_planner_commands_act :
    (∃ (q : Req) (s : State) (b : _) (arms : _), heard 0x0701 8 layPick q s.chip ∧ b = q.payload ∧ arms = (List.range 12).filter (mbit (ru b 4 2)) ∧ accepting s.chip = true ∧ arms ≠ [] ∧ arms.all (fun a => (s.chip.ocfg a).isSome) = true ∧ lineEnabled s.chip (byteN b 6) = true ∧ lineMod s.chip (byteN b 6) = 0 ∧ linePos s.chip (byteN b 6) ≤ ri b 28 8 ∧ arms.any (fun a => match s.chip.mcfg a with | some m => decide (ri b 36 4 ≤ m.payMax) | none => false) = true ∧ (mbit (byteN b 7) 2 = true → lineEnabled s.chip (byteN b 40) = true) ∧ findPick s.chip (ru b 0 4) = none ∧ s.chip.planner.picks.length < 1024 ∧ (s.chip.planner.level ≠ 2 ∨ mbit (byteN b 7) 0 = true))
    ∧ (∃ (q : Req) (s : State), heard 0x0701 8 layPick q s.chip ∧ accepting s.chip = false)
    ∧ (∃ (q : Req) (s : State) (k : _), heard 0x0702 5 (lay 4 fun _ => []) q s.chip ∧ findPick s.chip (ru q.payload 0 4) = some k ∧ pickSegs s.chip (ru q.payload 0 4) .committed = [])
    ∧ (∃ (q : Req) (s : State) (k : _), heard 0x0702 5 (lay 4 fun _ => []) q s.chip ∧ findPick s.chip (ru q.payload 0 4) = some k ∧ pickSegs s.chip (ru q.payload 0 4) .committed ≠ [])
    ∧ (∃ (q : Req) (s : State), heard 0x0702 5 (lay 4 fun _ => []) q s.chip ∧ findPick s.chip (ru q.payload 0 4) = none)
    ∧ (∃ (q : Req) (s : State) (id : _) (k : _) (l : _), heard 0x0703 20 (lay 4 fun _ => []) q s.chip ∧ id = ru q.payload 0 4 ∧ findPick s.chip id = some k ∧ l = s.chip.planner.segs.filter (fun x => x.tag = id && x.live))
    ∧ (∃ (q : Req) (s : State) (x : _), heard 0x0704 256 (lay 4 fun _ => []) q s.chip ∧ findSeg s.chip (ru q.payload 0 4) = some x ∧ x.axes.length ≤ 12)
    ∧ (∃ (q : Req) (s : State) (p : _), heard 0x0705 48 layNone q s.chip ∧ p = s.chip.planner)
    ∧ (∃ (q : Req) (s : State) (z : _) (l : _) (w : _), heard 0x0706 408 (lay 2 fun _ => []) q s.chip ∧ z = byteN q.payload 0 ∧ s.chip.active = true ∧ s.chip.cfg.zones.any (fun k => k.id = z) = true ∧ l = s.chip.planner.resv.filter (fun r => r.zone = z) ∧ w = (l.drop (byteN q.payload 1)).take 16)
    ∧ (∃ (q : Req) (s : State), heard 0x0707 4 layNone q s.chip) :=
  ⟨⟨cmd ([7, 0, 0, 0, 0, 8, 3, 0] ++ zeros 20 ++ zeros 12 ++ [255] ++ zeros 31), st (plan {}), _, _, by exact ⟨by decide, rfl, rfl, by decide, by constructorm* _ ∧ _ <;> decide⟩⟩,
    ⟨cmd ([7, 0, 0, 0, 0, 8, 3, 0] ++ zeros 20 ++ zeros 12 ++ [255] ++ zeros 31), st up, by exact ⟨by decide, by decide⟩⟩,
    ⟨cmd (fit 4 [7]), st (plan { picks := [pick] }), _, by exact ⟨by decide, rfl, by decide⟩⟩,
    ⟨cmd (fit 4 [7]), st (plan { picks := [pick], segs := [{ seg with st := .committed }] }), _, by exact ⟨by decide, rfl, by decide⟩⟩,
    ⟨cmd (fit 4 [7]), st (plan {}), by exact ⟨by decide, by decide⟩⟩,
    ⟨cmd (fit 4 [7]), st (plan { picks := [pick], segs := [seg] }), _, _, _, by exact ⟨by decide, rfl, rfl, rfl⟩⟩,
    ⟨cmd (fit 4 [9]), st (plan { segs := [seg] }), _, by exact ⟨by decide, rfl, by decide⟩⟩,
    ⟨cmd [], st up, _, by exact ⟨by decide, rfl⟩⟩,
    ⟨cmd [7, 1], st (plan {}), _, _, _, by exact ⟨by decide, rfl, by decide, by decide, rfl, rfl⟩⟩,
    ⟨cmd [], st up, by decide⟩⟩

theorem witness_profile_timers_and_streams :
    (∃ (s : State) (k : Fin 8) (t : _), vget s.chip.prof.stream k = some t ∧ t.gap < t.missing)
    ∧ (∃ (s : State) (k : Fin 8) (t : _), vget s.chip.prof.stream k = some t ∧ t.missing ≤ t.gap)
    ∧ (∃ (s : State) (n : Fin 32) (h : _) (x : _), x = s.chip.pax (96 + n) ∧ x.home = some h ∧ h.found = false ∧ (h.dist : Rat) ≤ absR (x.p - h.start))
    ∧ (∃ (s : State) (n : Fin 32) (h : _) (x : _), x = s.chip.pax (96 + n) ∧ x.home = some h ∧ absR (x.p - h.start) < (h.dist : Rat))
    ∧ (∃ (s : State) (a : Fin 128) (g : _) (t : Nat), s.chip.acfg a = some g ∧ (s.chip.pax a).restSince = some t ∧ g.phase = true ∧ t + g.holdMs * 1000000 ≤ s.chip.now)
    ∧ (∃ (q : Req) (s : State) (b : _) (t : _) (i : _) (n : _) (k : _) (d : _), (q.ring = 24 ∨ q.ring = 25) ∧ serves s.chip q.ring = true ∧ holdsToken s.chip = true ∧ b = q.payload ∧ vget s.chip.prof.stream (byteN b 0) = some t ∧ b.length = 52 ∧ byteN b 0 < 8 ∧ i = byteN b 1 ∧ n = byteN b 2 ∧ 1 ≤ n ∧ n ≤ 5 ∧ i + n ≤ t.axes.length ∧ byteN b 3 ≤ 1 ∧ rsv b 8 4 = true ∧ rsv b (12 + 8 * n) (40 - 8 * n) = true ∧ k = fullCycle s.chip (ru b 4 4) ∧ (s.chip.cyc : Int) < k - 1 ∧ k - 65 ≤ (s.chip.cyc : Int) ∧ d = (s.chip.onProf fun p => { p with stream := vset p.stream (byteN b 0) (some { t with pts := t.pts.filter (fun q => !(q.1 = k.toNat && i ≤ q.2.1 && q.2.1 < i + n)) ++ (List.range n).map (fun j => (k.toNat, i + j, ri b (12 + 8 * j) 8)), endAt := if mbit (byteN b 3) 0 then some k.toNat else t.endAt }) }))
    ∧ (∃ (q : Req) (s : State) (b : _) (t : _) (i : _) (n : _) (k : _), (q.ring = 24 ∨ q.ring = 25) ∧ serves s.chip q.ring = true ∧ holdsToken s.chip = true ∧ b = q.payload ∧ vget s.chip.prof.stream (byteN b 0) = some t ∧ b.length = 52 ∧ byteN b 0 < 8 ∧ i = byteN b 1 ∧ n = byteN b 2 ∧ 1 ≤ n ∧ n ≤ 5 ∧ i + n ≤ t.axes.length ∧ t.axes.Nodup ∧ byteN b 3 ≤ 1 ∧ rsv b 8 4 = true ∧ rsv b (12 + 8 * n) (40 - 8 * n) = true ∧ k = fullCycle s.chip (ru b 4 4) ∧ (k - 1 ≤ (s.chip.cyc : Int) ∨ (s.chip.cyc : Int) < k - 65))
    ∧ (∃ (q : Req) (s : State), (q.ring = 24 ∨ q.ring = 25) ∧ vget s.chip.prof.stream (byteN q.payload 0) = none ∧ mirrors s.chip = false) :=
  ⟨⟨st (up.onProf fun p => { p with stream := Vector.replicate 8 (some { axes := [1], gap := 4, missing := 5 }) }), 7, _, by exact ⟨rfl, by decide⟩⟩,
    ⟨st (up.onProf fun p => { p with stream := Vector.replicate 8 (some { axes := [1, 2, 3, 4, 5], gap := 4 }) }), 7, _, by exact ⟨rfl, by decide⟩⟩,
    ⟨st (moves { home := some { latch := 0, edge := 1, negative := false, moveHome := false, v := 0, dist := 0, value := 0, start := 0 } }), 31, _, _, by exact ⟨rfl, rfl, by decide, by decide +kernel⟩⟩,
    ⟨st (moves { home := some { latch := 0, edge := 1, negative := false, moveHome := false, v := 0, dist := 1, value := 0, start := 0 } }), 31, _, _, by exact ⟨rfl, rfl, by decide +kernel⟩⟩,
    ⟨st (moves { restSince := some 0 }), 127, _, 0, by exact ⟨rfl, by decide, by decide, by decide⟩⟩,
    ⟨{ ring := 25, seq := 0, payload := [7, 0, 5, 1, 65, 0, 0, 0] ++ zeros 44 }, st (up.onProf fun p => { p with stream := Vector.replicate 8 (some { axes := [1, 2, 3, 4, 5], gap := 4 }) }), _, _, _, _, _, _, by exact ⟨by decide, by decide, by decide, rfl, rfl, by decide, by decide, rfl, rfl, by decide, by decide, by decide, by decide, by decide, by decide, rfl, by decide, by decide, rfl⟩⟩,
    ⟨{ ring := 25, seq := 0, payload := [7, 0, 5, 1, 1, 0, 0, 0] ++ zeros 44 }, st (up.onProf fun p => { p with stream := Vector.replicate 8 (some { axes := [1, 2, 3, 4, 5], gap := 4 }) }), _, _, _, _, _, by exact ⟨by decide, by decide, by decide, rfl, rfl, by decide, by decide, rfl, rfl, by decide, by decide, by decide, by decide, by decide, by decide, by decide, rfl, by decide⟩⟩,
    ⟨{ ring := 25, seq := 0, payload := [7] }, st up, by exact ⟨by decide, by decide, by decide⟩⟩⟩

theorem witness_profile_orders_are_taken :
    (∃ (q : Req) (s : State) (a : _) (x : _), heard 0x0801 44 (lay 1 fun b => [bLe b 0 127]) q s.chip ∧ a = byteN q.payload 0 ∧ axisKnown s.chip a = true ∧ x = s.chip.pax a)
    ∧ (∃ (q : Req) (s : State) (a : _) (l : _) (d : _), heard 0x0802 5 (lay 72 fun b => [bLe b 0 127, rsv b 1 7, rsv b 68 4, limitsOk (parseLimits b 8)]) q s.chip ∧ a = byteN q.payload 0 ∧ l = parseLimits q.payload 8 ∧ axisKnown s.chip a = true ∧ l.posMin ≤ nearest 16 (s.chip.pax a).p ∧ nearest 16 (s.chip.pax a).p ≤ l.posMax ∧ d = defersLimits (s.chip.pax a) l)
    ∧ (∃ (q : Req) (s : State) (a : _) (m : _) (l : _), heard 0x0803 4 (lay 48 fun b => [bLe b 0 127, bLe b 1 2, rsv b 2 2]) q s.chip ∧ a = byteN q.payload 0 ∧ m = parseMove q.payload ∧ l = (s.chip.pax a).lim ∧ axisKnown s.chip a = true ∧ l.posMin ≤ m.target ∧ m.target ≤ l.posMax ∧ m.v ≤ l.vMax ∧ m.a ≤ l.aMax ∧ m.d ≤ l.dMax ∧ m.j ≤ l.jMax ∧ motionBars s.chip [a] = false ∧ otherMode s.chip a = false ∧ (atRest s.chip a = true ∨ byteN q.payload 1 ≠ 0))
    ∧ (∃ (q : Req) (s : State) (a : _), heard 0x0803 4 (lay 48 fun b => [bLe b 0 127, bLe b 1 2, rsv b 2 2]) q s.chip ∧ a = byteN q.payload 0 ∧ axisKnown s.chip a = true ∧ (s.chip.pax a).lim.posMax < (parseMove q.payload).target)
    ∧ (∃ (q : Req) (s : State) (o : _), heard 0x0804 4 (lay 1 fun b => [(targetOwner (byteN b 0)).isSome]) q s.chip ∧ targetOwner (byteN q.payload 0) = some o ∧ (s.chip.ocfg o).isSome ∧ ¬ (o < 12 ∧ inAuto s.chip = true) ∧ ((s.chip.seq o).st = .hold ∨ (s.chip.seq o).st = .running))
    ∧ (∃ (q : Req) (s : State) (b : _) (x : _), heard 0x0805 4 laySeg q s.chip ∧ b = q.payload ∧ x = parseSeg b ∧ ru b 36 4 = crc32c (b.take 36 ++ b.drop 40) ∧ (s.chip.ocfg x.owner).isSome ∧ x.axes.length = (ownerAxes s.chip x.owner).length ∧ x.pred = none ∧ s.chip.prof.store.any (fun y => y.id = x.id) = false ∧ (x.lineSpan = true → lineEnabled s.chip x.line = true) ∧ s.chip.prof.store.length < 512 ∧ (s.chip.prof.store.map (fun y => 40 + 16 * y.axes.length)).foldl (· + ·) 0 + b.length ≤ 65536)
    ∧ (∃ (q : Req) (s : State) (b : _), heard 0x0805 4 laySeg q s.chip ∧ b = q.payload ∧ ru b 36 4 ≠ crc32c (b.take 36 ++ b.drop 40))
    ∧ (∃ (q : Req) (s : State) (b : _) (o : _), heard 0x0806 4 (lay 18 fun b => [(targetOwner (byteN b 0)).isSome, bLe b 1 1, bLe b 2 3, rsv b 3 1]) q s.chip ∧ b = q.payload ∧ targetOwner (byteN b 0) = some o ∧ byteN b 1 = 0 ∧ (s.chip.ocfg o).isSome ∧ (s.chip.prof.store.find? (fun x => x.id = ru b 4 4 && x.owner = o && x.pred.isNone)).isSome ∧ motionBars s.chip (ownerAxes s.chip o) = false ∧ holdAtRest s.chip (ownerAxes s.chip o) = true)
    ∧ (∃ (q : Req) (s : State) (b : _) (o : _) (k : _), heard 0x0806 4 (lay 18 fun b => [(targetOwner (byteN b 0)).isSome, bLe b 1 1, bLe b 2 3, rsv b 3 1]) q s.chip ∧ b = q.payload ∧ targetOwner (byteN b 0) = some o ∧ byteN b 1 = 1 ∧ (s.chip.ocfg o).isSome ∧ lineEnabled s.chip (byteN b 2) = true ∧ (s.chip.prof.store.find? (fun x => x.id = ru b 4 4 && x.owner = o && x.pred.isNone)).isSome ∧ motionBars s.chip (ownerAxes s.chip o) = false ∧ holdAtRest s.chip (ownerAxes s.chip o) = true ∧ freeReserve s.chip = some k)
    ∧ (∃ (q : Req) (s : State) (o : _), heard 0x0810 6 (lay 1 fun b => [(targetOwner (byteN b 0)).isSome]) q s.chip ∧ targetOwner (byteN q.payload 0) = some o ∧ (s.chip.ocfg o).isSome ∧ (s.chip.chain o).table = none)
    ∧ (∃ (q : Req) (s : State) (o : _), heard 0x0810 6 (lay 1 fun b => [(targetOwner (byteN b 0)).isSome]) q s.chip ∧ targetOwner (byteN q.payload 0) = some o ∧ (s.chip.ocfg o).isSome ∧ (s.chip.chain o).table.isSome) :=
  ⟨⟨cmd [127], st (moves {}), _, _, by exact ⟨by decide, rfl, by decide, rfl⟩⟩,
    ⟨cmd ([127] ++ zeros 7 ++ le 8 1 ++ le 8 1 ++ le 8 1 ++ le 8 1 ++ le 8 1 ++ zeros 8 ++ le 8 1 ++ le 4 1 ++ zeros 4), st (moves {}), _, _, _, by exact ⟨by decide +kernel, rfl, rfl, by decide, by decide +kernel, by decide +kernel, rfl⟩⟩,
    ⟨cmd ([127] ++ zeros 47), st (moves {}), _, _, _, by exact ⟨by decide, rfl, rfl, rfl, by decide, by decide, by decide, by decide, by decide, by constructorm* _ ∧ _ <;> decide +kernel⟩⟩,
    ⟨cmd ([127] ++ zeros 7 ++ [1] ++ zeros 39), st (moves {}), _, by exact ⟨by decide, rfl, by decide, by decide⟩⟩,
    ⟨cmd [0x5F], st (moves {}), 43, by exact ⟨by decide, by decide, by decide, by decide, by decide⟩⟩,
    ⟨cmd segment, st (moves {}), _, _, by exact ⟨by decide +kernel, rfl, rfl, by decide +kernel, by decide +kernel, by constructorm* _ ∧ _ <;> decide +kernel⟩⟩,
    ⟨cmd (segment.dropLast ++ [1]), st (moves {}), _, by exact ⟨by decide +kernel, rfl, by decide +kernel⟩⟩,
    ⟨cmd ([0x5F, 0, 0, 0, 9] ++ zeros 13), st (moves {} {} [{ seg with owner := 43 }]), _, 43, by exact ⟨by decide, rfl, by decide, by decide, by decide, by decide, by decide, by decide +kernel⟩⟩,
    ⟨cmd ([0x5F, 1, 3, 0, 9] ++ zeros 13), st (moves {} {} [{ seg with owner := 43 }]), _, 43, 896, by exact ⟨by decide, rfl, by decide, by decide, by decide, by decide, by decide, by decide, by decide +kernel, by decide +kernel⟩⟩,
    ⟨cmd [0x5F], st (moves {}), 43, by exact ⟨by decide, by decide, by decide, by decide⟩⟩,
    ⟨cmd [0x5F], st (moves {} { table := some ([], 0, 0) }), 43, by exact ⟨by decide, by decide, by decide, by decide⟩⟩⟩

theorem witness_auxiliary_orders_are_taken :
    (∃ (q : Req) (s : State) (b : _) (a : _) (m : _) (neg : _) (k : _), heard 0x0807 18 (lay 36 fun b => [bLe b 0 31, bLe b 1 2, bLe b 2 1, if byteN b 2 = 0 then bLe b 3 3 else bLe b 3 31, bLe b 4 1, rsv b 5 3, byteN b 1 = 2 || 1 ≤ ru b 12 4]) q s.chip ∧ b = q.payload ∧ a = 96 + byteN b 0 ∧ byteN b 1 = 0 ∧ byteN b 2 = 0 ∧ byteN b 4 = 1 ∧ m = masterNow s.chip 0 (byteN b 3) ∧ neg = decide (m.2 < 0) ∧ axisKnown s.chip a = true ∧ lineEnabled s.chip (byteN b 3) = true ∧ motionBars s.chip [a] = false ∧ holdAtRest s.chip [a] = true ∧ (s.chip.pax a).changes = [] ∧ freeReserve s.chip = some k)
    ∧ (∃ (q : Req) (s : State) (b : _) (a : _), heard 0x0807 18 (lay 36 fun b => [bLe b 0 31, bLe b 1 2, bLe b 2 1, if byteN b 2 = 0 then bLe b 3 3 else bLe b 3 31, bLe b 4 1, rsv b 5 3, byteN b 1 = 2 || 1 ≤ ru b 12 4]) q s.chip ∧ b = q.payload ∧ a = 96 + byteN b 0 ∧ axisKnown s.chip a = false)
    ∧ (∃ (b : _) (c : Chip) (a : _) (g : _) (x : _), a = 96 + byteN b 0 ∧ a < 128 ∧ byteN b 1 = 0 ∧ byteN b 4 = 1 ∧ motionBars c [a] = false ∧ holdAtRest c [a] = true ∧ x = (applyGear b c).pax a ∧ g = x.changes)
    ∧ (∃ (q : Req) (s : State) (b : _) (xs : _) (o : _), heard 0x0808 4 (lay 16 fun b => [bLe b 0 7, 1 ≤ byteN b 1 && byteN b 1 ≤ 12, bLe b 2 4, rsv b 3 1]) q s.chip ∧ b = q.payload ∧ xs = (List.range (byteN b 1)).map (fun i => byteN b (4 + i)) ∧ xs.all (axisKnown s.chip) = true ∧ xs.Nodup ∧ (xs.all (fun a => axisOwner s.chip a = some o) = true ∧ o < 12 ∧ holdAtRest s.chip (ownerAxes s.chip o) = true ∨ ∀ a ∈ xs, ∃ k, axisOwner s.chip a = some k ∧ 12 ≤ k) ∧ motionBars s.chip xs = false ∧ vget s.chip.prof.stream (byteN b 0) = none ∧ xs.any (fun a => (streamOf s.chip a).isSome) = false ∧ holdAtRest s.chip xs = true)
    ∧ (∃ (b : _) (c : Chip) (xs : _), xs = (List.range (byteN b 1)).map (fun i => byteN b (4 + i)) ∧ byteN b 0 < 8 ∧ vget c.prof.stream (byteN b 0) = none ∧ motionBars c xs = false ∧ holdAtRest c xs = true)
    ∧ (∃ (q : Req) (s : State) (b : _) (a : _), heard 0x080A 4 (lay 28 fun b => [bLe b 0 31, bLe b 1 15, 1 ≤ byteN b 2 && byteN b 2 ≤ 2, bLe b 3 3]) q s.chip ∧ b = q.payload ∧ a = 96 + byteN b 0 ∧ axisKnown s.chip a = true ∧ ru b 4 8 ≠ 0 ∧ ru b 4 8 ≤ (s.chip.pax a).lim.vMax ∧ motionBars s.chip [a] = false ∧ holdAtRest s.chip [a] = true)
    ∧ (∃ (b : _) (c : Chip) (a : _), a = 96 + byteN b 0 ∧ a < 128 ∧ motionBars c [a] = false ∧ holdAtRest c [a] = true)
    ∧ (∃ (q : Req) (s : State) (b : _) (a : _), heard 0x080B 4 (lay 32 fun b => [bLe b 0 31, bLe b 1 15, 1 ≤ byteN b 2 && byteN b 2 ≤ 2, rsv b 3 1]) q s.chip ∧ b = q.payload ∧ a = 96 + byteN b 0 ∧ axisKnown s.chip a = true ∧ 0 < ri b 12 8 ∧ motionBars s.chip [a] = false ∧ (s.chip.pax a).mode = .geared)
    ∧ (∃ (q : Req) (s : State) (b : _) (a : _), heard 0x080B 4 (lay 32 fun b => [bLe b 0 31, bLe b 1 15, 1 ≤ byteN b 2 && byteN b 2 ≤ 2, rsv b 3 1]) q s.chip ∧ b = q.payload ∧ a = 96 + byteN b 0 ∧ axisKnown s.chip a = true ∧ 0 < ri b 12 8 ∧ (s.chip.pax a).mode ≠ .geared)
    ∧ (∃ (q : Req) (s : State) (b : _) (t : _), heard 0x080C 4 (lay 520 fun b => [bLe b 0 3, rsv b 1 3]) q s.chip ∧ b = q.payload ∧ t = (List.range 256).map (fun i => ru b (4 + 2 * i) 2) ∧ ru b 516 4 = crc32c (slice b 4 512) ∧ t.all (fun x => x ≤ 32767) = true)
    ∧ (∃ (q : Req) (s : State) (b : _), heard 0x080C 4 (lay 520 fun b => [bLe b 0 3, rsv b 1 3]) q s.chip ∧ b = q.payload ∧ ru b 516 4 ≠ crc32c (slice b 4 512)) :=
  ⟨⟨cmd ([31, 0, 0, 3, 1, 0, 0, 0] ++ zeros 4 ++ [1] ++ zeros 23), st (moves {}), _, _, _, _, 896, by exact ⟨by decide, rfl, rfl, by decide, by decide, by decide, rfl, rfl, by decide, by decide, by decide, by decide +kernel, by decide, by decide +kernel⟩⟩,
    ⟨cmd ([31, 0, 0, 3, 1, 0, 0, 0] ++ zeros 4 ++ [1] ++ zeros 23), st up, _, _, by exact ⟨by decide, rfl, rfl, by decide⟩⟩,
    ⟨[31, 0, 0, 3, 1, 0, 0, 0] ++ zeros 4 ++ [1] ++ zeros 23, moves {}, _, _, _, by exact ⟨rfl, by decide, by decide, by decide, by decide, by decide +kernel, rfl, rfl⟩⟩,
    ⟨cmd ([7, 1, 4, 0, 95] ++ zeros 11), st (moves {}), _, _, 11, by exact ⟨by decide, rfl, rfl, by decide, by decide, .inl ⟨by decide, by decide, by decide +kernel⟩, by decide, by decide, by decide, by decide +kernel⟩⟩,
    ⟨[7, 1, 4, 0, 95] ++ zeros 11, moves {}, _, by exact ⟨rfl, by decide, by decide, by decide, by decide +kernel⟩⟩,
    ⟨cmd ([31, 15, 1, 3, 1] ++ zeros 23), st (moves { lim := { vMax := 1 } }), _, _, by exact ⟨by decide, rfl, rfl, by decide, by decide, by decide, by decide, by decide +kernel⟩⟩,
    ⟨[31, 15, 1, 3, 1] ++ zeros 23, moves {}, _, by exact ⟨rfl, by decide, by decide, by decide +kernel⟩⟩,
    ⟨cmd ([31, 15, 2, 0] ++ zeros 8 ++ [1] ++ zeros 19), st (moves { mode := .geared }), _, _, by exact ⟨by decide, rfl, rfl, by decide, by decide, by decide, by decide⟩⟩,
    ⟨cmd ([31, 15, 2, 0] ++ zeros 8 ++ [1] ++ zeros 19), st (moves {}), _, _, by exact ⟨by decide, rfl, rfl, by decide, by decide, by decide⟩⟩,
    ⟨cmd (stepTable 821882304), st up, _, _, by exact ⟨by decide +kernel, rfl, rfl, (by show _ = crc32c (slice (stepTable _) 4 512); rw [stepTable_slice, crc_zeros_512]; decide +kernel), by decide +kernel⟩⟩,
    ⟨cmd (stepTable 0), st up, _, by exact ⟨by decide +kernel, rfl, (by show _ ≠ crc32c (slice (stepTable _) 4 512); rw [stepTable_slice, crc_zeros_512]; decide +kernel)⟩⟩⟩

theorem witness_periods_judge_classes :
    (∃ (s : State), s.chip.active = true ∧ s.chip.cyc % Config.sepCycles s.chip.cfg.sys.period = 0 ∧ s.chip.sep.start ≠ some (s.chip.t0, s.chip.cyc))
    ∧ (∃ (s : State), (s.chip.active = false ∨ s.chip.cyc % Config.sepCycles s.chip.cfg.sys.period ≠ 0 ∨ s.chip.sep.start = some (s.chip.t0, s.chip.cyc)))
    ∧ (∃ (s : State) (p : _) (n : _), s.chip.sep.start = some (p, n))
    ∧ (∃ (s : State) (p : _) (n : _) (b : _) (l : _), s.chip.sep.start = some (p, n) ∧ s.chip.sep.intake = some (n, b, l))
    ∧ (∃ (s : State) (k : _) (x : _) (p : _) (n : _) (a : _), s.chip.sep.start = some (p, n) ∧ s.chip.sep.astray = some (k, x) ∧ nodeArm s.chip k = some a)
    ∧ (∃ (s : State) (p : _) (n : _), s.chip.sep.start = some (p, n) ∧ s.chip.sep.astray = none)
    ∧ (∃ (s : State), s.chip.sep.start = none)
    ∧ (∃ (s : State) (p : Fin 8) (x : _) (d : Bytes) (g : _), s.chip.scfg p = some g ∧ (x ≠ g.addr ∨ d.length % 32 ≠ 0 ∨ d.length = 0 ∨ 1408 < d.length))
    ∧ (∃ (s : State) (p : Fin 8), s.chip.scfg p = none)
    ∧ (∃ (s : State) (p : Fin 8) (b : _) (g : _) (i : _) (n : _), s.chip.scfg p = some g ∧ b.length = 32 ∧ s.chip.sio.conn.findIdx? (fun x => x.id = g.conn) = some i ∧ (s.chip.conn i).st = .opened ∧ pduFault s.chip (s.chip.conn i) b = 0 ∧ byteN b 10 = 1 ∧ n = ru b 12 2 ∧ n ≠ 0 ∧ n ≤ 1365 ∧ mbit (byteN b 11) 0 = true ∧ ru b 14 4 ≤ g.tSens)
    ∧ (∃ (s : State) (p : Fin 8) (b : _) (g : _) (i : _), s.chip.scfg p = some g ∧ b.length = 32 ∧ s.chip.sio.conn.findIdx? (fun x => x.id = g.conn) = some i ∧ (s.chip.conn i).st = .opened ∧ pduFault s.chip (s.chip.conn i) b = 0 ∧ byteN b 10 = 1 ∧ ru b 12 2 = 0 ∧ mbit (byteN b 11) 0 = true ∧ ru b 14 4 ≤ g.tSens)
    ∧ (∃ (s : State) (p : Fin 8), (s.chip.scfg p).isSome ∧ scanInUse s.chip p (nextIntake s.chip) = none ∧ (vget s.chip.sep.sensor p).timeout = false)
    ∧ (∃ (s : State) (p : Fin 8), (s.chip.scfg p = none ∨ (scanInUse s.chip p (nextIntake s.chip)).isSome))
    ∧ (∃ (s : State) (p : Fin 8) (g : _), s.chip.scfg p = some g)
    ∧ (∃ (s : State) (p : Fin 8) (g : _) (x : _), s.chip.scfg p = some g ∧ x ≠ g.own) :=
  ⟨⟨st up, by exact ⟨by decide, by decide, by decide⟩⟩,
    ⟨st { up with active := false }, by decide⟩,
    ⟨st (up.onSep fun x => { x with start := some (0, 0) }), 0, 0, by decide⟩,
    ⟨st (up.onSep fun x => { x with start := some (0, 0), intake := some (0, 0, []) }), 0, 0, 0, [], by exact ⟨by decide, by decide⟩⟩,
    ⟨st ((own {} {}).onSep fun x => { x with start := some (0, 0), astray := some (23, 4) }), 23, 4, 0, 0, 11, by exact ⟨by decide, by decide, by decide⟩⟩,
    ⟨st (up.onSep fun x => { x with start := some (0, 0) }), 0, 0, by exact ⟨by decide, by decide⟩⟩,
    ⟨st up, by decide⟩,
    ⟨st (separ {}), 7, 0, zeros 33, _, by exact ⟨rfl, by decide⟩⟩,
    ⟨st up, 7, by decide⟩,
    ⟨st (separ {} {} [{ id := 7, st := .opened }]), 7, pdu [7, 0, 0, 0, 1, 0, 0, 0, 0, 0, 1, 1, 0x55, 5], _, 0, _, by exact ⟨rfl, by decide +kernel, by decide, by decide, by decide +kernel, by decide +kernel, rfl, by decide +kernel, by decide +kernel, by decide +kernel, by decide +kernel⟩⟩,
    ⟨st (separ {} {} [{ id := 7, st := .opened }]), 7, pdu [7, 0, 0, 0, 1, 0, 0, 0, 0, 0, 1, 1, 0, 0], _, 0, by exact ⟨rfl, by decide +kernel, by decide, by decide, by decide +kernel, by decide +kernel, by refine ⟨?_, ?_, ?_⟩ <;> decide +kernel⟩⟩,
    ⟨st (separ {} { timeout := false }), 7, by exact ⟨by decide, by decide, by decide⟩⟩,
    ⟨st up, 7, by decide⟩,
    ⟨st (separ {}), 7, _, by rfl⟩,
    ⟨st (separ {}), 7, _, 8, by exact ⟨rfl, by decide⟩⟩⟩

theorem witness_separation_commands_act :
    (∃ (q : Req) (s : State) (l : _), heard 0x0901 32 layNone q s.chip ∧ l = (List.range 8).filter (fun p => (s.chip.scfg p).isSome))
    ∧ (∃ (q : Req) (s : State) (x : _) (g : _), heard 0x0902 28 (lay 1 fun b => [isArm (byteN b 0)]) q s.chip ∧ s.chip.sepCfg (byteN q.payload 0) = some g ∧ x = s.chip.sepA (byteN q.payload 0))
    ∧ (∃ (q : Req) (s : State), heard 0x0902 28 (lay 1 fun b => [isArm (byteN b 0)]) q s.chip ∧ s.chip.sepCfg (byteN q.payload 0) = none)
    ∧ (∃ (q : Req) (s : State) (x : _), heard 0x0903 28 (lay 1 fun b => [bLe b 0 7]) q s.chip ∧ (s.chip.scfg (byteN q.payload 0)).isSome ∧ x = vget s.chip.sep.sensor (byteN q.payload 0))
    ∧ (∃ (q : Req) (s : State) (n : _) (k : _), heard 0x0904 8 (lay 4 fun b => [bLe b 2 4, rsv b 3 1]) q s.chip ∧ (List.range 16).any (fun a => mbit (ru q.payload 0 2) a && (s.chip.sepCfg a).isNone) = false ∧ n = Config.sepCycles s.chip.cfg.sys.period ∧ k = (s.chip.cyc + ahead s.chip 0x0904 + n - 1) / n * n)
    ∧ (∃ (q : Req) (s : State) (a : _) (x : _), heard 0x0905 5 (lay 1 fun b => [isArm (byteN b 0)]) q s.chip ∧ a = byteN q.payload 0 ∧ (s.chip.sepCfg a).isSome ∧ x = s.chip.sepA a ∧ x.fault ≠ 0 ∧ mbit x.present x.fault = false ∧ x.clearing = none)
    ∧ (∃ (q : Req) (s : State) (a : _), heard 0x0905 5 (lay 1 fun b => [isArm (byteN b 0)]) q s.chip ∧ a = byteN q.payload 0 ∧ (s.chip.sepCfg a).isSome ∧ ((s.chip.sepA a).fault = 0 ∨ mbit (s.chip.sepA a).present (s.chip.sepA a).fault = true))
    ∧ (∃ (q : Req) (s : State) (g : _) (b : _) (x : _) (y : _) (z : _), heard 0x0906 4104 (lay 8 fun b => [rsv b 6 2]) q s.chip ∧ g = s.chip.cfg.sep ∧ b = box6 (ru q.payload 0 6) ∧ b.xl ≤ b.xh ∧ b.yl ≤ b.yh ∧ b.zl ≤ b.zh ∧ b.xh < g.nx ∧ b.yh < g.ny ∧ b.zh < g.nz ∧ x = b.xh + 1 - b.xl ∧ y = b.yh + 1 - b.yl ∧ z = b.zh + 1 - b.zl ∧ x * y * z ≤ 4096)
    ∧ (∃ (q : Req) (s : State) (b : _), heard 0x0906 4104 (lay 8 fun b => [rsv b 6 2]) q s.chip ∧ b = box6 (ru q.payload 0 6) ∧ (b.xh < b.xl ∨ s.chip.cfg.sep.nx ≤ b.xh))
    ∧ (∃ (q : Req) (s : State), heard 0x0907 4 layNone q s.chip) :=
  ⟨⟨cmd [], st (separ {}), _, by exact ⟨by decide, rfl⟩⟩,
    ⟨cmd [11], st (separ {}), _, _, by exact ⟨by decide, rfl, rfl⟩⟩,
    ⟨cmd [11], st up, by exact ⟨by decide, by decide⟩⟩,
    ⟨cmd [7], st (separ {}), _, by exact ⟨by decide, by decide, rfl⟩⟩,
    ⟨cmd [0, 8, 4, 0], st (separ {}), _, _, by exact ⟨by decide, by decide, rfl, rfl⟩⟩,
    ⟨cmd [11], st (separ { fault := 3 }), _, _, by exact ⟨by decide, rfl, by decide, rfl, by decide, by decide, by decide⟩⟩,
    ⟨cmd [11], st (separ {}), _, by exact ⟨by decide, rfl, by decide, by decide⟩⟩,
    ⟨cmd [0, 0xFE, 3, 0x38, 0, 0, 0, 0], st (separ {}), _, _, _, _, _, by exact ⟨by decide, rfl, rfl, by decide, by decide, by decide, by decide, by decide, by decide, rfl, rfl, rfl, by decide⟩⟩,
    ⟨cmd [0, 2, 0, 0, 0, 0, 0, 0], st up, _, by exact ⟨by decide, rfl, by decide⟩⟩,
    ⟨cmd [], st up, by decide⟩⟩

theorem witness_connections_keep_their_checks :
    (∃ (s : State) (i : _) (p : _) (x : _), i < s.chip.sio.conn.length ∧ x = s.chip.conn i ∧ 3 ≤ idKind x.id ∧ pduFault s.chip x p = 0 ∧ x.st = .opened)
    ∧ (∃ (s : State) (i : _) (p : _) (x : _) (n : _), i < s.chip.sio.conn.length ∧ x = s.chip.conn i ∧ 3 ≤ idKind x.id ∧ pduFault s.chip x p = 0 ∧ x.st = .sync ∧ x.seq = some n ∧ (ru p 4 2 + 65536 - n) % 65536 = 1)
    ∧ (∃ (s : State) (i : _) (p : _) (x : _), i < s.chip.sio.conn.length ∧ x = s.chip.conn i ∧ 3 ≤ idKind x.id ∧ pduFault s.chip x p = 0 ∧ x.st = .timeout ∧ x.errRate = false)
    ∧ (∃ (s : State) (i : _) (p : _) (x : _), i < s.chip.sio.conn.length ∧ x = s.chip.conn i ∧ 3 ≤ idKind x.id ∧ pduFault s.chip x p = 5)
    ∧ (∃ (s : State) (i : _) (p : _) (x : _) (k : _) (l : _), i < s.chip.sio.conn.length ∧ x = s.chip.conn i ∧ 3 ≤ idKind x.id ∧ k = pduFault s.chip x p ∧ 1 ≤ k ∧ k ≤ 4 ∧ l = s.chip.now :: x.rej.filter (fun t => s.chip.now < t + 1000000000) ∧ l.length ≤ 10)
    ∧ (∃ (s : State) (i : _) (p : _) (x : _) (k : _), i < s.chip.sio.conn.length ∧ x = s.chip.conn i ∧ 3 ≤ idKind x.id ∧ k = pduFault s.chip x p ∧ 1 ≤ k ∧ k ≤ 4 ∧ x.st = .opened ∧ 10 ≤ (x.rej.filter (fun t => s.chip.now < t + 1000000000)).length)
    ∧ (∃ (s : State) (i : _) (p : _) (x : _) (k : Fin 24), i < s.chip.sio.conn.length ∧ x = s.chip.conn i ∧ idKind x.id = 1 ∧ idEnd x.id = k + 1 ∧ nodeConn s.chip k = some i ∧ pduFault s.chip x p = 0 ∧ x.st = .opened)
    ∧ (∃ (s : State) (i : _) (x : _), i < s.chip.sio.conn.length ∧ x = s.chip.conn i ∧ x.st = .opened)
    ∧ (∃ (s : State) (i : _), (s.chip.conn i).st ≠ .opened)
    ∧ (∃ (s : State), s.chip.sio.confirm = none)
    ∧ (∃ (s : State) (r : _) (n : _) (e : Nat), s.chip.sio.confirm = some (r, n, e)) :=
  ⟨⟨st (conns { id := 0x40000000, st := .opened }), 127, pdu [0, 0, 0, 0x40, 1], _, by exact ⟨by decide +kernel, rfl, by decide +kernel, by decide +kernel, by decide +kernel⟩⟩,
    ⟨st (conns { id := 0x40000000, st := .sync, seq := some 0 }), 127, pdu [0, 0, 0, 0x40, 1], _, 0, by exact ⟨by decide +kernel, rfl, by decide +kernel, by decide +kernel, by refine ⟨?_, ?_, ?_⟩ <;> decide +kernel⟩⟩,
    ⟨st (conns { id := 0x40000000, st := .timeout }), 127, pdu [0, 0, 0, 0x40, 1], _, by exact ⟨by decide +kernel, rfl, by decide +kernel, by decide +kernel, by decide +kernel, by decide +kernel⟩⟩,
    ⟨st (conns { id := 0x40000000, st := .opened, seq := some 1 }), 127, pdu [0, 0, 0, 0x40, 1], _, by exact ⟨by decide +kernel, rfl, by decide +kernel, by decide +kernel⟩⟩,
    ⟨st (conns { id := 0x40000000, rej := List.replicate 9 0 }), 127, zeros 31, _, 1, _, by exact ⟨by decide +kernel, rfl, by decide +kernel, by decide +kernel, by decide, by decide, rfl, by decide +kernel⟩⟩,
    ⟨st (conns { id := 0x40000000, rej := List.replicate 10 0, st := .opened }), 127, zeros 31, _, 1, by exact ⟨by decide +kernel, rfl, by decide +kernel, by decide +kernel, by decide, by decide, by decide +kernel, by decide +kernel⟩⟩,
    ⟨st (up.onSio fun s => { s with conn := [{ id := 0x10001800, st := .opened }] }), 0, pdu [0, 0x18, 0, 0x10, 1], _, 23, by exact ⟨by decide +kernel, rfl, by decide +kernel, by decide +kernel, by refine ⟨?_, ?_, ?_⟩ <;> decide +kernel⟩⟩,
    ⟨st (conns { st := .opened }), 127, _, by exact ⟨by decide +kernel, rfl, by decide +kernel⟩⟩,
    ⟨st (conns {}), 127, by decide +kernel⟩,
    ⟨st up, by decide⟩,
    ⟨st (up.onSio fun s => { s with confirm := some (30, 5, 9) }), 30, 5, 9, by decide⟩⟩

theorem witness_safe_inputs_and_outputs :
    (∃ (s : State) (ch : Fin 2), chanRuns s.chip ch = false)
    ∧ (∃ (s : State) (ch : Fin 2) (p : Fin 16) (x : _) (k : _), chanRuns s.chip ch = true ∧ s.chip.sio.field = true ∧ ((icfg s.chip p).mode = 1 ∨ (icfg s.chip p).mode = 2) ∧ x = s.chip.inPair ch p ∧ k = contacts s.chip ch p)
    ∧ (∃ (s : State) (ch : Fin 2), chanRuns s.chip ch = true ∧ ((s.chip.chan ch).fault = true ∨ s.chip.sio.field = false ∨ (ch = 1 ∧ (s.chip.chan 1).conn ≠ .opened) ∨ s.chip.sys.dev = .off ∨ s.chip.sys.dev = .reset))
    ∧ (∃ (s : State) (ch : Fin 2) (o : Fin 8), chanRuns s.chip ch = true ∧ (pcfg s.chip o).mode = 1 ∧ (s.chip.outPair ch o).st = .on ∧ vget s.chip.sio.req o = false)
    ∧ (∃ (s : State) (ch : Fin 2) (t : Fin 40), chanRuns s.chip ch = true ∧ s.chip.sio.field = true ∧ t.val < 32)
    ∧ (∃ (s : State) (ch : Fin 2) (t : Fin 40), chanRuns s.chip ch = true ∧ s.chip.sio.field = true ∧ 32 ≤ t.val)
    ∧ (∃ (s : State) (ch : Fin 2), (chanRuns s.chip ch = false ∨ s.chip.sio.field = false))
    ∧ (∃ (s : State) (ch : Fin 2) (p : Fin 16) (t : _), ((icfg s.chip p).mode = 1 ∨ (icfg s.chip p).mode = 2) ∧ (s.chip.inPair ch p).disagree = some t ∧ ((s.chip.inPair ch p).st = .demand ∨ (s.chip.inPair ch p).st = .released))
    ∧ (∃ (s : State) (ch : Fin 2) (p : Fin 16) (t : _), (icfg s.chip p).mode = 3 ∧ (s.chip.inPair ch p).disagree = some t ∧ (s.chip.inPair ch p).stuck = false)
    ∧ (∃ (s : State) (ch : Fin 2) (t : Fin 32) (g : _), g = icfg s.chip (t.val / 2) ∧ (g.mode = 1 ∨ g.mode = 2) ∧ (if t.val % 2 = 0 then g.src0 else g.src1) < 16 ∧ mbit (s.chip.chan ch).si t = true ∧ (s.chip.inPair ch (t.val / 2)).st ≠ .faulted)
    ∧ (∃ (s : State) (u : Fin 16) (o : _) (k : _), o = u.val / 2 ∧ k = vget s.chip.sio.test u ∧ (pcfg s.chip o).mode ≠ 0 ∧ outIsOn s.chip u = true ∧ s.chip.sio.pulse = none ∧ k.last = none ∧ s.chip.sio.lastPulse = none ∧ k.next < 2)
    ∧ (∃ (s : State) (u : Fin 16) (k : _), s.chip.sio.pulse = some k ∧ k.output = u.val ∧ k.discard = true)
    ∧ (∃ (s : State) (u : Fin 16) (k : _), s.chip.sio.pulse = some k ∧ k.output = u.val ∧ k.discard = false ∧ k.chan < 2)
    ∧ (∃ (s : State) (u : Fin 16) (k : _), s.chip.sio.pulse = some k ∧ k.output = u.val ∧ k.discard = false)
    ∧ (∃ (s : State) (u : Fin 16), (pcfg s.chip (u.val / 2)).mode ≠ 0 ∧ (s.chip.outPair 0 (u.val / 2)).st = .on)
    ∧ (∃ (s : State) (u : Fin 16), (pcfg s.chip (u.val / 2)).mode ≠ 0 ∧ outIsOn s.chip u = false ∧ pulsed s.chip u = false)
    ∧ (∃ (s : State) (u : Fin 16), ((pcfg s.chip (u.val / 2)).mode = 0 ∨ outIsOn s.chip u = true ∨ pulsed s.chip u = true))
    ∧ (∃ (s : State) (u : Fin 16), (pcfg s.chip (u.val / 2)).mode ≠ 0 ∧ outIsOn s.chip u = true)
    ∧ (∃ (s : State) (o : Fin 8) (t : _) (k : _) (st : _), (∀ ch : Fin 2, edmDue s.chip ch o = some (t, k, st)))
    ∧ (∃ (s : State) (o : Fin 8), (s.chip.outPair 0 o).st = .armed)
    ∧ (∃ (s : State) (o : Fin 8) (ch : Fin 2) (g : _) (t : _), g = pcfg s.chip o ∧ g.mode = 1 ∧ g.cat1 = true ∧ g.sc0Off = false ∧ s.chip.sys.dev = .faultHalt ∧ s.chip.sio.haltAt = some t ∧ (s.chip.outPair ch o).st = .on)
    ∧ (∃ (s : State) (p : Fin 16) (a : _) (b : _) (x : _) (y : _), (icfg s.chip p).mode = 3 ∧ (s.chip.inPair 0 p).ended = some (a, b) ∧ (s.chip.inPair 1 p).ended = some (x, y) ∧ 50000000 ≤ b - a ∧ b - a < 5000000000 ∧ 50000000 ≤ y - x ∧ y - x < 5000000000 ∧ b ≤ y + 1000000 ∧ y ≤ b + 1000000)
    ∧ (∃ (s : State) (p : Fin 16) (a : _) (b : _) (x : _) (y : _), (icfg s.chip p).mode = 3 ∧ (s.chip.inPair 0 p).ended = some (a, b) ∧ (s.chip.inPair 1 p).ended = some (x, y) ∧ b - a < 50000000 ∧ y - x < 50000000 ∧ (s.chip.inPair 0 p).acc = none)
    ∧ (∃ (s : State) (p : Fin 16) (t : _), (icfg s.chip p).mode = 3 ∧ (∀ ch : Fin 2, (s.chip.inPair ch p).pressed = some t)) :=
  ⟨⟨st (up.onPow fun p => { p with safeRun := false }), 1, by decide⟩,
    ⟨st (safe {} {} { mode := 2 }), 1, 15, _, _, by exact ⟨by decide, by decide, by decide, rfl, rfl⟩⟩,
    ⟨st up, 1, by exact ⟨by decide, by decide⟩⟩,
    ⟨st (safe {} { st := .on } {} { mode := 1 }), 1, 7, by exact ⟨by decide, by decide, by decide, by decide⟩⟩,
    ⟨st (safe {} {}), 1, 31, by exact ⟨by decide, by decide, by decide⟩⟩,
    ⟨st (safe {} {}), 1, 39, by exact ⟨by decide, by decide, by decide⟩⟩,
    ⟨st up, 1, by decide⟩,
    ⟨st (safe { disagree := some 0 } {} { mode := 1 }), 1, 15, 0, by exact ⟨by decide, by decide, by decide⟩⟩,
    ⟨st (safe { disagree := some 0 } {} { mode := 3 }), 1, 15, 0, by exact ⟨by decide, by decide, by decide⟩⟩,
    ⟨st { (safe {} {} { mode := 1, src1 := 15 }) with sio := { chan := Vector.replicate 2 { si := 0x80000000 } } }, 1, 31, _, by exact ⟨rfl, by decide, by decide, by decide, by decide⟩⟩,
    ⟨st (safe {} { sw := Vector.replicate 2 true } {} { mode := 1 }), 15, _, _, by exact ⟨rfl, rfl, by decide, by decide, by decide, by decide, by decide, by decide⟩⟩,
    ⟨st (up.onSio fun s => { s with pulse := some { output := 15, chan := 1, start := 0, discard := true } }), 15, _, by exact ⟨rfl, by decide, by decide⟩⟩,
    ⟨st (up.onSio fun s => { s with pulse := some { output := 15, chan := 1, start := 0 } }), 15, _, by exact ⟨rfl, by decide, by decide, by decide⟩⟩,
    ⟨st (up.onSio fun s => { s with pulse := some { output := 15, chan := 1, start := 0 } }), 15, _, by exact ⟨rfl, by decide, by decide⟩⟩,
    ⟨st (safe {} { st := .on } {} { mode := 1 }), 15, by exact ⟨by decide, by decide⟩⟩,
    ⟨st (safe {} {} {} { mode := 1 }), 15, by exact ⟨by decide, by decide, by decide⟩⟩,
    ⟨st up, 15, by decide⟩,
    ⟨st (safe {} { sw := Vector.replicate 2 true } {} { mode := 1 }), 15, by exact ⟨by decide, by decide⟩⟩,
    ⟨st (safe {} { st := .on } {} { mode := 1, edm := 0 }), 7, 30000000, 7, .fault, by decide⟩,
    ⟨st (safe {} { st := .armed }), 7, by decide⟩,
    ⟨st { (safe {} { st := .on } {} { mode := 1, cat1 := true }) with sys := { dev := .faultHalt }, sio := { (safe {} { st := .on }).sio with haltAt := some 5 } }, 7, 1, _, 5, by exact ⟨rfl, by decide, by decide, by decide, by decide, by decide, by decide⟩⟩,
    ⟨st (safe { ended := some (0, 50000000) } {} { mode := 3 }), 15, 0, 50000000, 0, 50000000, by constructorm* _ ∧ _ <;> decide⟩,
    ⟨st (safe { ended := some (0, 49999999) } {} { mode := 3 }), 15, 0, 49999999, 0, 49999999, by constructorm* _ ∧ _ <;> decide⟩,
    ⟨st (safe { pressed := some 5 } {} { mode := 3 }), 15, 5, by exact ⟨by decide, by decide⟩⟩⟩

theorem witness_safe_io_commands_act :
    (∃ (q : Req) (s : State), heard 0x0A01 28 layNone q s.chip)
    ∧ (∃ (q : Req) (s : State) (p : _) (g : _) (x : _) (y : _), heard 0x0A02 16 (lay 1 fun b => [bLe b 0 15]) q s.chip ∧ p = byteN q.payload 0 ∧ g = icfg s.chip p ∧ x = s.chip.inPair 0 p ∧ y = s.chip.inPair 1 p)
    ∧ (∃ (q : Req) (s : State) (o : _) (x : _) (y : _), heard 0x0A03 24 (lay 1 fun b => [bLe b 0 7]) q s.chip ∧ o = byteN q.payload 0 ∧ x = s.chip.outPair 0 o ∧ y = s.chip.outPair 1 o)
    ∧ (∃ (q : Req) (s : State) (o : _), heard 0x0A04 5 (lay 2 fun b => [bLe b 0 7, bLe b 1 1]) q s.chip ∧ o = byteN q.payload 0 ∧ byteN q.payload 1 = 0 ∧ (vget s.chip.cfg.sio.out o).mode = 1 ∧ s.chip.sys.safetyDefaults = false ∧ (s.chip.sys.dev = .commissioning ∨ s.chip.sys.dev = .ready ∨ s.chip.sys.dev = .automatic ∨ s.chip.sys.dev = .degraded))
    ∧ (∃ (q : Req) (s : State) (o : _), heard 0x0A04 5 (lay 2 fun b => [bLe b 0 7, bLe b 1 1]) q s.chip ∧ o = byteN q.payload 0 ∧ byteN q.payload 1 = 1 ∧ (vget s.chip.cfg.sio.out o).mode = 1 ∧ s.chip.sys.safetyDefaults = false ∧ (s.chip.sys.dev = .commissioning ∨ s.chip.sys.dev = .ready ∨ s.chip.sys.dev = .automatic ∨ s.chip.sys.dev = .degraded) ∧ (s.chip.outPair 0 o).st = .offSeq)
    ∧ (∃ (q : Req) (s : State) (o : _), heard 0x0A04 5 (lay 2 fun b => [bLe b 0 7, bLe b 1 1]) q s.chip ∧ o = byteN q.payload 0 ∧ byteN q.payload 1 = 1 ∧ (vget s.chip.cfg.sio.out o).mode = 1 ∧ s.chip.sys.safetyDefaults = false ∧ (s.chip.sys.dev = .commissioning ∨ s.chip.sys.dev = .ready ∨ s.chip.sys.dev = .automatic ∨ s.chip.sys.dev = .degraded) ∧ (s.chip.outPair 0 o).st ≠ .offSeq)
    ∧ (∃ (q : Req) (s : State) (o : _), heard 0x0A04 5 (lay 2 fun b => [bLe b 0 7, bLe b 1 1]) q s.chip ∧ o = byteN q.payload 0 ∧ (vget s.chip.cfg.sio.out o).mode ≠ 1)
    ∧ (∃ (b : _) (o : _), o = byteN b 0 ∧ o < 8)
    ∧ (∃ (q : Req) (s : State) (p : _), heard 0x0A05 5 (lay 2 fun b => [bLe b 0 1, if byteN b 0 = 0 then bLe b 1 15 else bLe b 1 7]) q s.chip ∧ byteN q.payload 0 = 0 ∧ p = byteN q.payload 1 ∧ ((icfg s.chip p).mode = 1 ∨ (icfg s.chip p).mode = 2) ∧ ((s.chip.inPair 0 p).st = .faulted ∨ (s.chip.inPair 1 p).st = .faulted) ∧ contacts s.chip 0 p = (false, false) ∧ contacts s.chip 1 p = (false, false))
    ∧ (∃ (q : Req) (s : State) (o : _) (x : _), heard 0x0A05 5 (lay 2 fun b => [bLe b 0 1, if byteN b 0 = 0 then bLe b 1 15 else bLe b 1 7]) q s.chip ∧ byteN q.payload 0 = 1 ∧ o = byteN q.payload 1 ∧ x = s.chip.outPair 0 o ∧ (pcfg s.chip o).mode ≠ 0 ∧ (x.st = .inhibited ∨ x.st = .fault) ∧ outCauseGone s.chip o = true ∧ edmClosed s.chip 0 o = true)
    ∧ (∃ (q : Req) (s : State) (i : _) (x : _), heard 0x0A06 40 (lay 1 fun b => [bLe b 0 127]) q s.chip ∧ i = byteN q.payload 0 ∧ i < s.chip.sio.conn.length ∧ x = s.chip.conn i)
    ∧ (∃ (q : Req) (s : State) (i : _), heard 0x0A06 40 (lay 1 fun b => [bLe b 0 127]) q s.chip ∧ i = byteN q.payload 0 ∧ s.chip.sio.conn.length ≤ i)
    ∧ (∃ (q : Req) (s : State), heard 0x0A07 4 layNone q s.chip)
    ∧ (∃ (q : Req) (s : State), heard 0x0A10 5 (lay 4 fun _ => []) q s.chip ∧ s.chip.sys.dev = .commissioning ∧ s.chip.sys.safetyDefaults = false ∧ s.chip.sio.confirm = none ∧ ru q.payload 0 4 = s.chip.sio.scv)
    ∧ (∃ (q : Req) (s : State), heard 0x0A10 5 (lay 4 fun _ => []) q s.chip ∧ s.chip.sys.dev = .commissioning ∧ s.chip.sys.safetyDefaults = false ∧ s.chip.sio.confirm = none ∧ ru q.payload 0 4 ≠ s.chip.sio.scv)
    ∧ (∃ (q : Req) (s : State), heard 0x0A11 4 layNone q s.chip ∧ (s.chip.sys.dev = .configured ∨ s.chip.sys.dev = .commissioning)) :=
  ⟨⟨cmd [], st up, by decide⟩,
    ⟨cmd [15], st (safe {} {}), _, _, _, _, by exact ⟨by decide, rfl, rfl, rfl, rfl⟩⟩,
    ⟨cmd [7], st (safe {} {}), _, _, _, by exact ⟨by decide, rfl, rfl, rfl⟩⟩,
    ⟨cmd [7, 0], st (safe {} {} {} { mode := 1 }), _, by exact ⟨by decide, rfl, by decide, by decide, by decide, by decide⟩⟩,
    ⟨cmd [7, 1], st (safe {} { st := .offSeq } {} { mode := 1 }), _, by exact ⟨by decide, rfl, by decide, by decide, by decide, by decide, by decide⟩⟩,
    ⟨cmd [7, 1], st (safe {} {} {} { mode := 1 }), _, by exact ⟨by decide, rfl, by decide, by decide, by decide, by decide, by decide⟩⟩,
    ⟨cmd [7, 1], st (safe {} {}), _, by exact ⟨by decide, rfl, by decide⟩⟩,
    ⟨[7], _, by exact ⟨rfl, by decide⟩⟩,
    ⟨cmd [0, 15], st (safe { st := .faulted } {} { mode := 1 }), _, by exact ⟨by decide, by decide, rfl, by decide, by decide, by decide, by decide⟩⟩,
    ⟨cmd [1, 7], st (safe {} { st := .inhibited } {} { mode := 1 }), _, _, by exact ⟨by decide, by decide, rfl, rfl, by decide, by decide, by decide, by decide⟩⟩,
    ⟨cmd [127], st (conns {}), _, _, by exact ⟨by decide +kernel, rfl, by decide +kernel, rfl⟩⟩,
    ⟨cmd [127], st up, _, by exact ⟨by decide, rfl, by decide⟩⟩,
    ⟨cmd [], st up, by decide⟩,
    ⟨cmd30 (zeros 4), st up, by exact ⟨by decide, by decide, by decide, by decide, by decide⟩⟩,
    ⟨cmd30 (fit 4 [1]), st up, by exact ⟨by decide, by decide, by decide, by decide, by decide⟩⟩,
    ⟨cmd30 [], st up, by exact ⟨by decide, by decide⟩⟩⟩

theorem witness_metrology_die_acts :
    (∃ (s : State), metroRuns s.chip = false)
    ∧ (∃ (s : State) (b : _), metroRuns s.chip = true ∧ messageOk s.chip.metro b = false)
    ∧ (∃ (s : State) (b : _), metroRuns s.chip = true ∧ messageOk s.chip.metro b = true)
    ∧ (∃ (s : State) (k : Fin 8) (x : _), (s.chip.weigh k).win = some x ∧ weighs (s.chip.weigh k).par = true)
    ∧ (∃ (s : State) (p : _) (t : Nat), s.chip.metro.tick = some (p, t))
    ∧ (∃ (s : State), s.chip.metro.tick = none)
    ∧ (∃ (s : State) (k : Fin 8) (raw : _) (y : _), metroRuns s.chip = true ∧ (s.chip.weigh k).checking = none ∧ (s.chip.weigh k).win = none ∧ y = Config.weighFilter (s.chip.weigh k).par.fc (s.chip.weigh k).filt raw)
    ∧ (∃ (s : State) (k : Fin 8) (t : _), metroRuns s.chip = true ∧ (s.chip.weigh k).win = none ∧ (s.chip.weigh k).checking = none ∧ (s.chip.weigh k).nextOpen = some t ∧ metroPlant s.chip + 14000000 ≤ t ∧ (∀ u, (s.chip.weigh k).chkAt = some u → u + (s.chip.weigh k).par.chkPeriod * 1000000000 ≤ s.chip.now))
    ∧ (∃ (s : State) (k : Fin 8), (s.chip.weigh k).win.isSome)
    ∧ (∃ (s : State) (k : Fin 8) (t : _), (s.chip.weigh k).checking = some t)
    ∧ (∃ (s : State) (n : _) (f : _) (b : _) (t : Nat), s.chip.metro.batch = some (n, f, b, t))
    ∧ (∃ (s : State), s.chip.metro.batch = none)
    ∧ (∃ (s : State), s.chip.metro.power = false)
    ∧ (∃ (s : State), s.chip.metro.power = true ∧ s.chip.metro.st = .run)
    ∧ (∃ (s : State), s.chip.metro.power = true ∧ s.chip.metro.st = .adjust ∧ hasStaged s.chip = false)
    ∧ (∃ (s : State), s.chip.metro.power = true ∧ s.chip.metro.st = .adjust ∧ hasStaged s.chip = true ∧ auditFull s.chip = false)
    ∧ (∃ (s : State), s.chip.metro.power = true ∧ s.chip.metro.st = .adjust ∧ hasStaged s.chip = true ∧ auditFull s.chip = true)
    ∧ (∃ (s : State), s.chip.metro.power = false)
    ∧ (∃ (s : State), s.chip.metro.power = true)
    ∧ (∃ (s : State) (b : _) (l : _), s.chip.mlink.stream = (0, b) :: l ∧ s.chip.mlink.held.length < 4096 ∧ s.chip.sys.dev ≠ .reset ∧ s.chip.sys.dev ≠ .off)
    ∧ (∃ (s : State) (b : _) (l : _), s.chip.mlink.stream = (2, b) :: l ∧ s.chip.sys.dev ≠ .reset ∧ s.chip.sys.dev ≠ .off)
    ∧ (∃ (s : State) (x : _) (l : _), s.chip.mlink.stream = x :: l ∧ (s.chip.sys.dev = .reset ∨ s.chip.sys.dev = .off))
    ∧ (∃ (s : State), s.chip.mlink.stream = [])
    ∧ (∃ (s : State) (b : _) (ok : _) (i : _), i ∈ [Instr.metroSvcReadParam b, .metroSvcWriteParam b, .metroSvcAdjZero b, .metroSvcAdjSpan b, .metroSvcWeigh b, .metroSvcFwLoad b ok, .metroSvcDiscard b] ∧ s.chip.metro.power = true ∧ (s.chip.metro.st = .run ∨ (s.chip.metro.st = .fwInvalid ∧ s.chip.metro.sealLow = false)))
    ∧ (∃ (s : State) (b : _) (i : _), i ∈ [Instr.metroSvcReadParam b, .metroSvcWriteParam b, .metroSvcAdjZero b, .metroSvcAdjSpan b, .metroSvcWeigh b, .metroSvcDiscard b] ∧ s.chip.metro.power = true ∧ s.chip.metro.st = .fwInvalid ∧ s.chip.metro.sealLow = true)
    ∧ (∃ (s : State) (b : _) (w : _), s.chip.metro.power = true ∧ s.chip.metro.st = .adjust ∧ paramLay 2 b = true ∧ w = s.chip.weigh (byteN b 0))
    ∧ (∃ (s : State) (b : _) (v : _), s.chip.metro.power = true ∧ s.chip.metro.st = .adjust ∧ paramLay 16 b = true ∧ rsv b 2 6 = true ∧ v = (if byteN b 1 = 7 then ri b 8 8 else ru b 8 8) ∧ paramOk (s.chip.weigh (byteN b 0)).next (byteN b 1) v = true)
    ∧ (∃ (s : State) (b : _) (v : _), s.chip.metro.power = true ∧ s.chip.metro.st = .adjust ∧ paramLay 16 b = true ∧ rsv b 2 6 = true ∧ v = (if byteN b 1 = 7 then ri b 8 8 else ru b 8 8) ∧ paramOk (s.chip.weigh (byteN b 0)).next (byteN b 1) v = false)
    ∧ (∃ (s : State) (b : _) (k : _) (l : _) (z : _), s.chip.metro.power = true ∧ s.chip.metro.st = .adjust ∧ b.length = 1 ∧ k = byteN b 0 ∧ k < 8 ∧ l = lastSecond s.chip k ∧ restless (s.chip.weigh k).next l = false ∧ z = satI 32 (meanCount (sumOf l) l.length))
    ∧ (∃ (s : State) (b : _) (k : _) (l : _) (z : _), s.chip.metro.power = true ∧ s.chip.metro.st = .adjust ∧ b.length = 8 ∧ rsv b 1 3 = true ∧ k = byteN b 0 ∧ k < 8 ∧ l = lastSecond s.chip k ∧ restless (s.chip.weigh k).next l = false ∧ z = Config.spanFor (ri b 4 4) (sumOf l) l.length (s.chip.weigh k).next.zAdj (s.chip.weigh k).next.kLin % 2 ^ 64)
    ∧ (∃ (s : State) (b : _) (k : _) (l : _), s.chip.metro.power = true ∧ s.chip.metro.st = .adjust ∧ b.length = 1 ∧ k = byteN b 0 ∧ k < 8 ∧ l = lastSecond s.chip k ∧ restless (s.chip.weigh k).next l = true)
    ∧ (∃ (s : State) (b : _) (k : _) (l : _) (p : _) (mg : _), s.chip.metro.power = true ∧ s.chip.metro.st = .adjust ∧ b.length = 1 ∧ k = byteN b 0 ∧ k < 8 ∧ l = lastSecond s.chip k ∧ p = (s.chip.weigh k).next ∧ mg = weighMass (sumOf l) l.length (if (s.chip.weigh k).adjZero then p.zAdj else (s.chip.weigh k).zero) p.kSpan p.kLin)
    ∧ (∃ (s : State) (b : _) (v : _), s.chip.metro.power = true ∧ (s.chip.metro.st = .adjust ∨ (s.chip.metro.st = .fwInvalid ∧ s.chip.metro.sealLow = true)) ∧ v = Config.metroFwVersion b ∧ (¬ (v.1 < s.chip.metro.fwMajor ∨ (v.1 = s.chip.metro.fwMajor ∧ v.2 < s.chip.metro.fwMinor))))
    ∧ (∃ (s : State), s.chip.metro.power = true ∧ s.chip.metro.st = .adjust)
    ∧ (∃ (s : State), s.chip.metro.power = true ∧ s.chip.metro.st = .adjust) :=
  ⟨⟨st (die {}), by decide⟩,
    ⟨st (adjusting {}), zeros 32, by decide +kernel⟩,
    ⟨st (adjusting {}), checked (fit 28 [2, 7, 3]), by decide +kernel⟩,
    ⟨st (adjusting { par := { enable := 1, max := 1, e := 1, kSpan := 1 }, win := some ⟨1, 0, 0⟩ }), 7, _, by exact ⟨rfl, by decide⟩⟩,
    ⟨st (die { tick := some (0, 0) }), 0, 0, by decide⟩,
    ⟨st (die {}), by decide⟩,
    ⟨st (adjusting {}), 7, 9, _, by exact ⟨by decide, by decide, by decide, rfl⟩⟩,
    ⟨st (adjusting { nextOpen := some 14000000 }), 7, 14000000, by exact ⟨by decide, by decide, by decide, by decide, by decide, fun u h => by cases h⟩⟩,
    ⟨st (adjusting { win := some ⟨1, 0, 0⟩ }), 7, by decide⟩,
    ⟨st (adjusting { checking := some 5 }), 7, 5, by decide⟩,
    ⟨st (die { batch := some (0, 0, [], 5) }), 0, 0, [], 5, by decide⟩,
    ⟨st up, by decide⟩,
    ⟨st (die {}), by decide⟩,
    ⟨st (die { power := true, st := .run }), by exact ⟨by decide, by decide⟩⟩,
    ⟨st (adjusting {}), by exact ⟨by decide, by decide, by decide⟩⟩,
    ⟨st (adjusting { staged := some {} }), by exact ⟨by decide, by decide, by decide, by decide⟩⟩,
    ⟨st { (adjusting { staged := some {} }) with metro := { (adjusting { staged := some {} }).metro with events := Config.cMax } }, by exact ⟨by decide, by decide, by decide, by decide⟩⟩,
    ⟨st (die {}), by decide⟩,
    ⟨st (adjusting {}), by decide⟩,
    ⟨st { up with mlink := { stream := [(0, [])] } }, [], [], by exact ⟨by decide, by decide, by decide, by decide⟩⟩,
    ⟨st { up with mlink := { stream := [(2, [])] } }, [], [], by exact ⟨by decide, by decide, by decide⟩⟩,
    ⟨st { (dev .reset) with mlink := { stream := [(0, [])] } }, (0, []), [], by exact ⟨by decide, by decide⟩⟩,
    ⟨st up, by decide⟩,
    ⟨st (die { power := true, st := .run }), [], true, .metroSvcDiscard [], by exact ⟨by simp, by decide, .inl rfl⟩⟩,
    ⟨st (die { power := true, st := .fwInvalid, sealLow := true }), [], .metroSvcDiscard [], by exact ⟨by simp, by decide, by decide, by decide⟩⟩,
    ⟨st (adjusting {}), [7, 16], _, by exact ⟨by decide, by decide, by decide, rfl⟩⟩,
    ⟨st (adjusting {}), [7, 16] ++ zeros 6 ++ le 8 600, _, by exact ⟨by decide, by decide, by decide, by decide, rfl, by decide⟩⟩,
    ⟨st (adjusting {}), [7, 16] ++ zeros 6 ++ le 8 601, _, by exact ⟨by decide, by decide, by decide, by decide, rfl, by decide⟩⟩,
    ⟨st (adjusting {}), [7], _, _, _, by exact ⟨rfl, rfl, rfl, rfl, by decide, rfl, by decide +kernel, rfl⟩⟩,
    ⟨st (adjusting {}), [7] ++ zeros 7, _, _, _, by exact ⟨rfl, rfl, rfl, by decide, rfl, by decide, rfl, by decide +kernel, rfl⟩⟩,
    ⟨st (adjusting { par := { stab := 0, kSpan := 0x3FF0000000000000 }, samples := [(0, 0), (0, 1)] }), [7], _, _, by exact ⟨rfl, rfl, rfl, rfl, by decide, rfl, by decide +kernel⟩⟩,
    ⟨st (adjusting {}), [7], _, _, _, _, by exact ⟨by decide, by decide, by decide, rfl, by decide, rfl, rfl, rfl⟩⟩,
    ⟨st (adjusting {}), [], _, by exact ⟨by decide, by decide, rfl, by show ¬ (_ < 0 ∨ (_ = 0 ∧ _ < 0)); omega⟩⟩,
    ⟨st (adjusting {}), by exact ⟨by decide, by decide⟩⟩,
    ⟨st (adjusting {}), by exact ⟨by decide, by decide⟩⟩⟩

theorem witness_metrology_commands_act :
    (∃ (q : Req) (s : State) (m : _) (g : _), heard 0x0B01 32 layNone q s.chip ∧ m = s.chip.mlink.copy ∧ g = metroGone s.chip)
    ∧ (∃ (q : Req) (s : State) (w : _) (z : Nat) (t : Nat), heard 0x0B02 36 (lay 1 fun b => [bLe b 0 7]) q s.chip ∧ metroGone s.chip = false ∧ w = vget s.chip.mlink.copy.chan (byteN q.payload 0) ∧ w.zeroAt = some z ∧ w.chkAt = some t)
    ∧ (∃ (q : Req) (s : State) (w : _), heard 0x0B02 36 (lay 1 fun b => [bLe b 0 7]) q s.chip ∧ metroGone s.chip = false ∧ w = vget s.chip.mlink.copy.chan (byteN q.payload 0) ∧ (w.zeroAt = none ∨ w.chkAt = none))
    ∧ (∃ (q : Req) (s : State) (m : _), heard 0x0B03 20 layNone q s.chip ∧ metroGone s.chip = false ∧ m = s.chip.mlink.copy)
    ∧ (∃ (q : Req) (s : State) (b : _), heard 0x0B04 36 (lay 2 fun b => [ru b 0 2 ≤ 8191]) q s.chip ∧ metroGone s.chip = false ∧ s.chip.mlink.copy.audit[ru q.payload 0 2]? = some b)
    ∧ (∃ (q : Req) (s : State), heard 0x0B04 36 (lay 2 fun b => [ru b 0 2 ≤ 8191]) q s.chip ∧ s.chip.mlink.copy.audit[ru q.payload 0 2]? = none)
    ∧ (∃ (q : Req) (s : State), heard 0x0B05 1801 layNone q s.chip ∧ metroGone s.chip = false)
    ∧ (∃ (q : Req) (s : State) (n : _), heard 0x0B06 8 (fun b => b.length = 8) q s.chip ∧ metroGone s.chip = false ∧ n = ru q.payload 0 8 ∧ s.chip.mlink.held.any (fun h => h.1 = 28 && h.2.2.1 = n) = true)
    ∧ (∃ (q : Req) (s : State) (n : _), heard 0x0B06 8 (fun b => b.length = 8) q s.chip ∧ metroGone s.chip = false ∧ n = ru q.payload 0 8 ∧ s.chip.mlink.held.any (fun h => h.1 = 28 && h.2.2.1 = n) = false) :=
  ⟨⟨cmd [], st up, _, _, by exact ⟨by decide, rfl, rfl⟩⟩,
    ⟨cmd [7], st (copied { chan := Vector.replicate 8 { zeroAt := some 0, chkAt := some 0 } }), _, 0, 0, by exact ⟨by decide, by decide, rfl, by decide, by decide⟩⟩,
    ⟨cmd [7], st (copied {}), _, by exact ⟨by decide, by decide, rfl, by decide⟩⟩,
    ⟨cmd [], st (copied {}), _, by exact ⟨by decide, by decide, rfl⟩⟩,
    ⟨cmd [0, 0], st (copied { audit := [[1]] }), _, by exact ⟨by decide, by decide, rfl⟩⟩,
    ⟨cmd [255, 31], st (copied {}), by exact ⟨by decide, by decide⟩⟩,
    ⟨cmd [], st (copied {}), by exact ⟨by decide, by decide⟩⟩,
    ⟨cmd (zeros 8), st { up with mlink := { copy := { st := .run }, held := [(28, 0, 0, [], true)] } }, _, by exact ⟨by decide, by decide, rfl, by decide⟩⟩,
    ⟨cmd (zeros 8), st (copied {}), _, by exact ⟨by decide, by decide, rfl, by decide⟩⟩⟩

theorem witness_pair_events_act :
    (∃ (s : State) (w : _) (k : _), s.chip.pair.st.isSome ∧ (k = 0 ∧ 50 ≤ w ∧ w < 150 ∨ k = 1 ∧ 150 ≤ w ∧ w ≤ 250 ∨ k = 2 ∧ 350 ≤ w ∧ w ≤ 450))
    ∧ (∃ (w : _), (w < 50 ∨ 250 < w ∧ w < 350 ∨ 450 < w))
    ∧ (∃ (s : State) (k : _) (t : Nat), s.chip.pair.st.isSome ∧ s.chip.pair.heart = true ∧ s.chip.pair.pulse = some (k, t) ∧ 2 * t + 5 * s.chip.period < 2 * (s.chip.t0 + s.chip.period))
    ∧ (∃ (s : State), s.chip.pair.heart = false)
    ∧ (∃ (s : State), s.chip.pair.st.isSome ∧ s.chip.pair.link = true ∧ s.chip.pair.gotMirror = false ∧ 2 ≤ s.chip.pair.linkMiss)
    ∧ (∃ (s : State), s.chip.pair.linkMiss < 2)
    ∧ (∃ (s : State) (lane : Fin 2) (up : _), s.chip.pair.st.isSome ∧ mbit s.chip.pair.lanes lane = !up)
    ∧ (∃ (s : State) (f : _), pairFrame s.chip 0x31 48 f = false)
    ∧ (∃ (s : State) (f : _) (off : Int) (t : Int) (T : Int) (c : Chip), pairFrame s.chip 0x31 48 f = true ∧ rsv f 32 12 = true ∧ byteN f 26 = s.chip.cfg.sys.period ∧ t = ofWide f 16 ∧ T = s.chip.period ∧ t % T = 0 ∧ ru f 4 4 = (t / T).toNat % 4294967296 ∧ s.chip.pair.quiet = false ∧ c = s.chip.atTime (((s.chip.t0 : Int) + off / 64).toNat) ∧ s.chip.pair.st = some .primary)
    ∧ (∃ (s : State) (f : _) (t : Int) (T : Int) (gap : Int), pairFrame s.chip 0x31 48 f = true ∧ rsv f 32 12 = true ∧ byteN f 26 = s.chip.cfg.sys.period ∧ t = ofWide f 16 ∧ T = s.chip.period ∧ t % T = 0 ∧ ru f 4 4 = (t / T).toNat % 4294967296 ∧ s.chip.pair.quiet = false ∧ s.chip.pair.st = some .wait ∧ gap = t - (s.chip.t0 + s.chip.ptOff))
    ∧ (∃ (s : State) (f : _) (t : Int) (T : Int) (gap : Int), pairFrame s.chip 0x31 48 f = true ∧ rsv f 32 12 = true ∧ byteN f 26 = s.chip.cfg.sys.period ∧ t = ofWide f 16 ∧ T = s.chip.period ∧ t % T = 0 ∧ ru f 4 4 = (t / T).toNat % 4294967296 ∧ s.chip.pair.quiet = false ∧ (s.chip.pair.st = some .standby ∨ s.chip.pair.st = some .silent ∨ s.chip.pair.st = some .isolated) ∧ gap = t - (s.chip.t0 + s.chip.ptOff))
    ∧ (∃ (s : State) (f : _), (s.chip.pair.gotMirror = true ∨ pairFrame s.chip 0x32 (448 + 64 * byteN f 19) f = false ∨ inCycle s.chip f = false))
    ∧ (∃ (s : State) (f : _), s.chip.pair.gotMirror = false ∧ pairFrame s.chip 0x32 448 f = true ∧ byteN f 19 = 0 ∧ byteN f 16 ≤ 4 ∧ inCycle s.chip f = true)
    ∧ (∃ (c : Chip) (b : _), acycValid b = true ∧ mbit (byteN b 1) 0 = false ∧ ru b 2 2 ≠ (c.pair.rxSeq + 1) % 65536)
    ∧ (∃ (b : _), acycValid b = true ∧ mbit (byteN b 1) 0 = true ∧ mbit (byteN b 1) 1 = false)
    ∧ (∃ (s : State), s.chip.pair.st.isSome ∧ s.chip.pair.gotMirror = false)
    ∧ (∃ (s : State), s.chip.pair.st.isSome ∧ s.chip.pair.gotMirror = true ∧ s.chip.pair.pDigest = s.chip.pair.oDigest ∧ (∀ k, vget s.chip.pair.differ k = 0))
    ∧ (∃ (s : State) (k : Fin 24) (d : _), s.chip.pair.st = some .standby ∧ s.chip.pair.gotMirror = true ∧ s.chip.pair.diverged = none ∧ configured s.chip k = true ∧ (s.chip.pair.pDigest.getD k (0, 0)).1 ≠ (s.chip.pair.oDigest.getD k (0, 0)).1 ∧ vget s.chip.pair.differ k = d ∧ s.chip.pairCfg.nDiv ≤ d + 1)
    ∧ (∃ (s : State) (f : _) (a : _) (j : _) (p : _) (c : Chip) (t : Nat) (x : _), pairFrame s.chip 0x33 52 f = true ∧ f.length = 52 ∧ inCycle s.chip f = true ∧ s.chip.sep.start = some (t, x) ∧ s.chip.now ≤ t + 249000 ∧ p = slice f 16 32 ∧ (List.range 12).find? (fun a => match classConn s.chip a with | some j => (s.chip.conn j).id = ru p 0 4 | none => false) = some a ∧ classConn s.chip a = some j ∧ takePdu s.chip j p = (c, true) ∧ byteN p 10 = a)
    ∧ (∃ (s : State), s.chip.sep.start = none)
    ∧ (∃ (s : State) (f : _), pairFrame s.chip 0x34 f.length f = true ∧ 24 ≤ f.length ∧ rsv f 17 3 = true ∧ byteN f 16 < 8 ∧ scanLength (slice f 20 (f.length - 24)) = true)
    ∧ (∃ (s : State) (f : _), (pairFrame s.chip 0x34 f.length f = false ∨ 8 ≤ byteN f 16 ∨ scanLength (slice f 20 (f.length - 24)) = false))
    ∧ (∃ (s : State) (port : Fin 8) (x : _) (d : Bytes), s.chip.pair.st.isSome ∧ takesScan s.chip port x d = true)
    ∧ (∃ (s : State) (k : Fin 24) (f : _) (sl : _) (c : Chip), (s.chip.node k).slot = some sl ∧ s.chip.pair.st.isSome ∧ s.chip.pair.st ≠ some .wait ∧ frameFault f 2 (k.val + 1) sl s.chip.count (fun f => ru f 8 2 = s.chip.count % 65536 && uplinkBody (s.chip.port k) f) = 0 ∧ c = (s.chip.onPair fun p => { p with pSeen := vset p.pSeen k (some s.chip.now) }))
    ∧ (∃ (s : State) (k : Fin 24), (s.chip.node k).slot = none)
    ∧ (∃ (s : State), s.chip.pair.st = some .wait ∧ s.chip.pairCfg.identity = 1 ∧ s.chip.pair.mismatchAt = none ∧ s.chip.pair.link = false ∧ s.chip.pair.heart = false)
    ∧ (∃ (s : State), s.chip.pairCfg.identity = 2)
    ∧ (∃ (s : State), (s.chip.pair.st = some .silent ∨ s.chip.pair.st = some .isolated) ∧ s.chip.pair.quiet = false)
    ∧ (∃ (s : State), s.chip.pair.st = some .primary)
    ∧ (∃ (s : State), s.chip.pair.st = some .silent ∧ s.chip.pair.transfer = true)
    ∧ (∃ (s : State), s.chip.pair.swap = none)
    ∧ (∃ (s : State) (w : _), s.chip.pair.swap = some w ∧ w.stage = 1 ∧ (List.range 8).find? (mbit s.chip.pair.keep) = none ∧ stillLink s.chip w (mirrorSeq s.chip) = none ∧ s.chip.pair.partner = 1)
    ∧ (∃ (s : State) (w : _) (l : _), s.chip.pair.swap = some w ∧ w.stage = 1 ∧ (List.range 8).find? (mbit s.chip.pair.keep) = none ∧ stillLink s.chip w (mirrorSeq s.chip) = some l)
    ∧ (∃ (s : State) (w : _), s.chip.pair.swap = some w ∧ w.stage = 2 ∧ w.pairs = 0 ∧ stillLink s.chip w (fun l => (s.chip.line l).pubSeq) = none)
    ∧ (∃ (s : State) (w : _) (l : _), s.chip.pair.swap = some w ∧ w.stage = 2 ∧ stillLink s.chip w (fun l => (s.chip.line l).pubSeq) = some l) :=
  ⟨⟨st (duo { st := some .primary }), 450, 2, by exact ⟨by decide, by decide⟩⟩,
    ⟨49, by decide⟩,
    ⟨st { (duo { st := some .primary, heart := true, pulse := some (1, 0) }) with t0 := 1000000 }, 1, 0, by exact ⟨by decide, by decide, by decide, by decide⟩⟩,
    ⟨st up, by decide⟩,
    ⟨st (duo { st := some .primary, link := true, linkMiss := 2 }), by exact ⟨by decide, by decide, by decide, by decide⟩⟩,
    ⟨st up, by decide⟩,
    ⟨st (duo { st := some .primary }), 1, true, by exact ⟨by decide, by decide⟩⟩,
    ⟨st up, zeros 48, by decide⟩,
    ⟨st (duo { st := some .primary }), sync, 64, _, _, _, by exact ⟨by decide +kernel, by decide +kernel, by decide +kernel, rfl, rfl, by decide +kernel, by decide +kernel, by decide, rfl, by decide⟩⟩,
    ⟨st (duo { st := some .wait }), sync, _, _, _, by exact ⟨by decide +kernel, by decide +kernel, by decide +kernel, rfl, rfl, by decide +kernel, by decide +kernel, by decide, by decide, rfl⟩⟩,
    ⟨st (duo { st := some .isolated }), sync, _, _, _, by exact ⟨by decide +kernel, by decide +kernel, by decide +kernel, rfl, rfl, by decide +kernel, by decide +kernel, by decide, by decide, rfl⟩⟩,
    ⟨st up, [], by decide⟩,
    ⟨st (duo { st := some .primary }), mirror, by exact ⟨by decide, (by unfold pairFrame; rw [mirror_crc]; decide +kernel), by decide, by decide, by decide +kernel⟩⟩,
    ⟨up, checked ([1, 0, 2] ++ zeros 57), by decide +kernel⟩,
    ⟨checked ([1, 1, 2] ++ zeros 57), by decide +kernel⟩,
    ⟨st (duo { st := some .primary }), by exact ⟨by decide, by decide⟩⟩,
    ⟨st (duo { st := some .primary, gotMirror := true }), by exact ⟨by decide, by decide, by decide, fun k => by by_cases h : k < 24 <;> simp [vget, h, st, duo]⟩⟩,
    ⟨st { (cell { a := 1, chA := true } {} {}) with pair := { st := some .standby, gotMirror := true, pDigest := List.replicate 24 (1, 0), differ := Vector.replicate 24 2 } }, 23, _, by exact ⟨by decide, by decide, by decide, by decide, by decide, rfl, by decide⟩⟩,
    ⟨st classWait, classFrame, 11, 0, slice classFrame 16 32, (takePdu (st classWait).chip 0 (slice classFrame 16 32)).1, 0, 0, by exact ⟨by decide +kernel, by decide +kernel, by decide +kernel, by decide +kernel, by decide +kernel, rfl, by decide +kernel, by decide +kernel, taken_eta _ (by decide +kernel), by decide +kernel⟩⟩,
    ⟨st up, by decide⟩,
    ⟨st (duo { st := some .primary }), checked ([0x34, 0, 255, 0, 0, 0, 0, 0, 0, 0, 56, 0, 2, 1, 0, 0, 7, 0, 0, 0] ++ zeros 32), by decide +kernel⟩,
    ⟨st up, [], by exact .inl (by decide +kernel)⟩,
    ⟨st { (separ {}) with pair := { st := some .primary } }, 7, 0, zeros 32, by exact ⟨by decide, by decide⟩⟩,
    ⟨st { (cell { a := 1 } { slot := some 0 } {}) with pair := { st := some .silent } }, 23, checked ([2, 24, 0, 0, 0, 0, 0, 0, 0, 0, 48, 0, 0, 1, 0, 0, 3, 0, 0, 0, 1] ++ zeros 23), 0, _, by exact ⟨by decide, by decide, by decide, by decide +kernel, rfl⟩⟩,
    ⟨st up, 23, by decide⟩,
    ⟨st (duo { st := some .wait }), by exact ⟨by decide, by decide, by decide, by decide, by decide⟩⟩,
    ⟨st (duo {} 2), by decide⟩,
    ⟨st (duo { st := some .silent }), by exact ⟨by decide, by decide⟩⟩,
    ⟨st (duo { st := some .primary }), by decide⟩,
    ⟨st (duo { st := some .silent, transfer := true }), by exact ⟨by decide, by decide⟩⟩,
    ⟨st up, by decide⟩,
    ⟨st (duo { st := some .primary, partner := 1, swap := some { stage := 1, cyc := 0 } }), _, by exact ⟨rfl, by decide, by decide, by decide, by decide⟩⟩,
    ⟨st (publishing { st := some .primary, swap := some { stage := 1, cyc := 0 } }), _, 0, by exact ⟨rfl, by decide, by decide, by decide⟩⟩,
    ⟨st (duo { st := some .primary, swap := some { stage := 2, cyc := 0 } }), _, by exact ⟨rfl, by decide, by decide, by decide⟩⟩,
    ⟨st (publishing { st := some .primary, swap := some { stage := 2, cyc := 0 } }), _, 0, by exact ⟨rfl, by decide, by decide⟩⟩⟩

theorem witness_pair_states_change :
    (∃ (c : Chip), c.pair.st = none)
    ∧ (∃ (c : Chip), c.pair.st = some .wait ∧ c.pair.alone = false ∧ c.cfg.pair.isSome ∧ c.pair.link = true ∧ c.pair.digestsEq = some true ∧ partnerShows c 0 = true ∧ c.pairCfg.identity = 1)
    ∧ (∃ (c : Chip), c.pair.st = some .wait ∧ c.pair.alone = false ∧ c.cfg.pair.isSome ∧ c.pair.link = true ∧ c.pair.digestsEq = some true ∧ partnerShows c 2 = true)
    ∧ (∃ (c : Chip), c.pair.st = some .wait ∧ c.pair.alone = false ∧ (c.pair.link = false ∨ c.pair.digestsEq ≠ some true))
    ∧ (∃ (c : Chip), c.pair.st = some .wait ∧ c.pair.alone = true ∧ partnerShows c 2 = false)
    ∧ (∃ (c : Chip), c.pair.st = some .primary ∧ partnerShows c 2 = true ∧ c.pairCfg.identity = 2)
    ∧ (∃ (c : Chip) (w : _), c.pair.st = some .primary ∧ partnerShows c 2 = false ∧ c.pair.heart = true ∧ c.pair.link = true ∧ c.pair.swap = some w ∧ w.stage = 0 ∧ w.cyc ≤ c.cyc)
    ∧ (∃ (c : Chip), c.pair.st = some .primary ∧ partnerShows c 2 = false ∧ (c.pair.heart = false ∨ c.pair.link = false))
    ∧ (∃ (c : Chip) (w : _), c.pair.st = some .primary ∧ partnerShows c 2 = false ∧ (c.pair.heart = false ∨ c.pair.link = false) ∧ c.pair.swap = some w ∧ w.stage = 0)
    ∧ (∃ (c : Chip) (n : _) (m : _), c.pair.st = some .standby ∧ c.pair.diverged = some (n, m))
    ∧ (∃ (c : Chip), c.pair.st = some .standby ∧ c.pair.diverged = none ∧ c.pair.swap = none ∧ c.pair.link = true ∧ c.pair.pFlags = 0)
    ∧ (∃ (c : Chip), c.pair.st = some .standby ∧ c.pair.diverged = none ∧ c.pair.swap = none ∧ c.pair.link = true ∧ partnerShows c 1 = true ∧ partnerShows c 2 = false ∧ halted c = false ∧ mbit c.pair.pFlags 1 = true)
    ∧ (∃ (c : Chip), c.pair.st = some .standby ∧ c.pair.diverged = none ∧ c.pair.swap = none ∧ c.pair.link = false ∧ c.pair.heart = true)
    ∧ (∃ (c : Chip), c.pair.st = some .standby ∧ c.pair.diverged = none ∧ c.pair.swap = none ∧ c.pair.link = false ∧ c.pair.heart = false ∧ max 1 c.pairCfg.w ≤ c.pair.absence ∧ partnerShows c 2 = false)
    ∧ (∃ (c : Chip), c.pair.st = some .standby ∧ c.pair.diverged = none ∧ c.pair.swap = none ∧ c.pair.link = false ∧ c.pair.heart = false ∧ (c.pair.absence < max 1 c.pairCfg.w ∨ partnerShows c 2 = true))
    ∧ (∃ (c : Chip), c.pair.st = some .silent ∧ c.pair.link = false ∧ c.pair.heart = false)
    ∧ (∃ (c : Chip), c.pair.st = some .silent ∧ 256 ≤ c.pair.matched ∧ c.pair.link = true ∧ c.pair.heart = true ∧ halted c = false)
    ∧ (∃ (c : Chip), c.pair.st = some .silent ∧ c.pair.matched < 256 ∧ (c.pair.link = true ∨ c.pair.heart = true))
    ∧ (∃ (c : Chip), c.pair.st = some .isolated ∧ (c.pair.heart = true ∨ c.pair.link = true))
    ∧ (∃ (c : Chip), c.pair.st = some .isolated ∧ c.pair.heart = false ∧ c.pair.link = false ∧ max 1 c.pairCfg.w ≤ c.pair.absence ∧ partnerShows c 2 = false)
    ∧ (∃ (c : Chip), c.pair.st = some .isolated ∧ c.pair.heart = false ∧ c.pair.link = false ∧ (c.pair.absence < max 1 c.pairCfg.w ∨ partnerShows c 2 = true)) :=
  ⟨⟨up, by decide⟩,
    ⟨duo { st := some .wait, link := true, digestsEq := some true, pulse := some (0, 0) }, by constructorm* _ ∧ _ <;> decide⟩,
    ⟨duo { st := some .wait, link := true, digestsEq := some true, pulse := some (2, 0) }, by constructorm* _ ∧ _ <;> decide⟩,
    ⟨duo { st := some .wait }, by exact ⟨by decide, by decide, by decide⟩⟩,
    ⟨duo { st := some .wait, alone := true }, by exact ⟨by decide, by decide, by decide⟩⟩,
    ⟨duo { st := some .primary, pulse := some (2, 0) } 2, by exact ⟨by decide, by decide, by decide⟩⟩,
    ⟨duo { st := some .primary, heart := true, link := true, swap := some { stage := 0, cyc := 0 } }, _, by exact ⟨by decide, by decide, by decide, by decide, rfl, by decide, by decide⟩⟩,
    ⟨duo { st := some .primary }, by exact ⟨by decide, by decide, by decide⟩⟩,
    ⟨duo { st := some .primary, swap := some { stage := 0, cyc := 0 } }, _, by exact ⟨by decide, by decide, by decide, rfl, by decide⟩⟩,
    ⟨duo { st := some .standby, diverged := some (3, 4) }, 3, 4, by exact ⟨by decide, by decide⟩⟩,
    ⟨duo { st := some .standby, link := true }, by exact ⟨by decide, by decide, by decide, by decide, by decide⟩⟩,
    ⟨duo { st := some .standby, link := true, pFlags := 2, pulse := some (1, 0) }, by constructorm* _ ∧ _ <;> decide⟩,
    ⟨duo { st := some .standby, heart := true }, by exact ⟨by decide, by decide, by decide, by decide, by decide⟩⟩,
    ⟨duo { st := some .standby, absence := 2 }, by constructorm* _ ∧ _ <;> decide⟩,
    ⟨duo { st := some .standby, absence := 1 }, by constructorm* _ ∧ _ <;> decide⟩,
    ⟨duo { st := some .silent }, by exact ⟨by decide, by decide, by decide⟩⟩,
    ⟨duo { st := some .silent, matched := 256, link := true, heart := true }, by exact ⟨by decide, by decide, by decide, by decide, by decide⟩⟩,
    ⟨duo { st := some .silent, matched := 255, link := true }, by exact ⟨by decide, by decide, by decide⟩⟩,
    ⟨duo { st := some .isolated, heart := true }, by exact ⟨by decide, by decide⟩⟩,
    ⟨duo { st := some .isolated, absence := 2 }, by exact ⟨by decide, by decide, by decide, by decide, by decide⟩⟩,
    ⟨duo { st := some .isolated, absence := 1 }, by exact ⟨by decide, by decide, by decide, by decide⟩⟩⟩

theorem witness_self_test_acts :
    (∃ (s : State), s.chip.ster.begun = none ∧ s.chip.ster.nextAt = none)
    ∧ (∃ (s : State) (t : Nat), s.chip.ster.nextAt = some t)
    ∧ (∃ (s : State) (t : Nat) (k : _) (i : _), s.chip.ster.nextAt = none ∧ s.chip.ster.begun = some t ∧ (sweepList s.chip)[s.chip.ster.next]? = some (k, i))
    ∧ (∃ (s : State) (x : _), ((s.chip.ster.slices.filter (fun y => y.start.isNone)).insertionSort (fun a b => a.since ≤ b.since)).head? = some x)
    ∧ (∃ (s : State), s.chip.ster.slices.filter (fun y => y.start.isNone) = [])
    ∧ (∃ (s : State) (x : _) (p : _), s.chip.ster.slices.find? (fun y => y.kind = 1 && y.start.isNone && (vget s.chip.loops.eng y.inst).st = .inService) = some x ∧ migrationSpare s.chip = some p)
    ∧ (∃ (s : State), migrationSpare s.chip = none)
    ∧ (∃ (s : State) (kind : _) (i : _), s.chip.ster.slices.find? (fun x => x.kind = kind && x.inst = i && x.start.isSome) = none)
    ∧ (∃ (s : State) (x : _) (i : _), s.chip.ster.slices.find? (fun y => y.kind = 1 && y.inst = i && y.start.isSome) = some x ∧ i < 18)
    ∧ (∃ (s : State) (x : _) (i : _) (res : _), s.chip.ster.slices.find? (fun y => y.kind = 1 && y.inst = i && y.start.isSome) = some x ∧ i < 18 ∧ 1 ≤ res ∧ res < 7)
    ∧ (∃ (s : State) (x : _) (i : _), s.chip.ster.slices.find? (fun y => y.kind = 2 && y.inst = i && y.start.isSome) = some x ∧ i < 9)
    ∧ (∃ (s : State) (x : _) (i : _), s.chip.ster.slices.find? (fun y => y.kind = 3 && y.inst = i && y.start.isSome) = some x ∧ i < 8 ∧ x.wasFailed = false)
    ∧ (∃ (s : State) (x : _) (i : _), s.chip.ster.slices.find? (fun y => y.kind = 4 && y.inst = i && y.start.isSome) = some x)
    ∧ (∃ (s : State) (x : _) (i : _), s.chip.ster.slices.find? (fun y => y.kind = 5 && y.inst = i && y.start.isSome) = some x)
    ∧ (∃ (s : State) (x : _) (i : _), s.chip.ster.slices.find? (fun y => y.kind = 6 && y.inst = i && y.start.isSome) = some x ∧ x.mismatch = true ∧ x.wasFailed = false)
    ∧ (∃ (s : State) (i : _), testable s.chip 6 i = true ∧ (blockOf s.chip 6 i).st ≠ 3 ∧ (∀ x ∈ s.chip.ster.slices, ¬ (x.kind = 6 ∧ x.inst = i)))
    ∧ (∃ (kind : Nat), kind ≠ 6)
    ∧ (∃ (c : Chip) (s : Slice) (taken : Bool), mayStart c s taken = true)
    ∧ (∃ (c : Chip) (e : _) (p : _), (vget c.loops.eng e).st = .inService ∧ c.ster.copied = some (e, p) ∧ kindOk c { kind := 1, inst := e, since := 0 } = true) :=
  ⟨⟨st up, by exact ⟨by decide, by decide⟩⟩,
    ⟨st (sterl { nextAt := some 9 }), 9, by decide⟩,
    ⟨st (sterl { begun := some 0 }), 0, 1, 0, by exact ⟨by decide, by decide, by decide⟩⟩,
    ⟨st (sterl spare), _, by rfl⟩,
    ⟨st up, by decide⟩,
    ⟨st (sterl spare), _, 0, by exact ⟨rfl, by decide⟩⟩,
    ⟨st up, by decide⟩,
    ⟨st up, 1, 17, by decide⟩,
    ⟨st (slicing 1 17), _, 17, by exact ⟨rfl, by decide⟩⟩,
    ⟨st (slicing 1 17), _, 17, 6, by exact ⟨rfl, by decide, by decide, by decide⟩⟩,
    ⟨st (slicing 2 8), _, 8, by exact ⟨rfl, by decide⟩⟩,
    ⟨st (slicing 3 7), _, 7, by exact ⟨rfl, by decide, by decide⟩⟩,
    ⟨st (slicing 4 48), _, 48, by rfl⟩,
    ⟨st (slicing 5 47), _, 47, by rfl⟩,
    ⟨st (slicing 6 21 true), _, 21, by exact ⟨rfl, by decide, by decide⟩⟩,
    ⟨st up, 21, by exact ⟨by decide, by decide, by decide⟩⟩,
    ⟨5, by decide⟩,
    ⟨up, ⟨6, 21, 0, true, none, false, false⟩, false, by decide⟩,
    ⟨sterl spare, 17, 0, by exact ⟨by decide, by decide, by decide⟩⟩⟩

theorem witness_pair_and_self_test_commands_act :
    (∃ (q : Req) (s : State) (x : _), heard 0x0D01 40 layNone q s.chip ∧ x = s.chip.ster)
    ∧ (∃ (q : Req) (s : State) (k : _) (i : _) (b : _), heard 0x0D02 28 (lay 2 fun b => [1 ≤ byteN b 0 && byteN b 0 ≤ 7]) q s.chip ∧ k = byteN q.payload 0 ∧ i = byteN q.payload 1 ∧ testable s.chip k i = true ∧ b = blockOf s.chip k i)
    ∧ (∃ (q : Req) (s : State), heard 0x0D02 28 (lay 2 fun b => [1 ≤ byteN b 0 && byteN b 0 ≤ 7]) q s.chip ∧ testable s.chip (byteN q.payload 0) (byteN q.payload 1) = false)
    ∧ (∃ (q : Req) (s : State) (x : Slice) (d : _), heard 0x0D03 8 (lay 2 fun b => [1 ≤ byteN b 0 && byteN b 0 ≤ 6]) q s.chip ∧ x = { kind := byteN q.payload 0, inst := byteN q.payload 1, since := s.chip.now, outOfTurn := true } ∧ testable s.chip x.kind x.inst = true ∧ s.chip.sys.dev ≠ .faultHalt ∧ s.chip.ster.suspended = false ∧ (∀ y ∈ s.chip.ster.slices, y.kind ≠ x.kind) ∧ d = (if x.kind = 1 ∧ s.chip.now < s.chip.t0 + Config.tDl s.chip.cfg.sys.period ∧ s.chip.ster.copied = none then s.chip.onSter fun t => { t with copied := (migrationSpare s.chip).map (fun p => (x.inst, p)) } else s.chip))
    ∧ (∃ (q : Req) (s : State), heard 0x0D03 8 (lay 2 fun b => [1 ≤ byteN b 0 && byteN b 0 ≤ 6]) q s.chip ∧ testable s.chip (byteN q.payload 0) (byteN q.payload 1) = true ∧ s.chip.ster.suspended = true)
    ∧ (∃ (q : Req) (s : State), heard 0x0D03 8 (lay 2 fun b => [1 ≤ byteN b 0 && byteN b 0 ≤ 6]) q s.chip ∧ testable s.chip (byteN q.payload 0) (byteN q.payload 1) = true ∧ s.chip.sys.dev ≠ .faultHalt ∧ s.chip.ster.suspended = false ∧ (∃ y ∈ s.chip.ster.slices, y.kind = byteN q.payload 0))
    ∧ (∃ (q : Req) (s : State), heard 0x0D04 4 (lay 1 fun b => [bLe b 0 1]) q s.chip)
    ∧ (∃ (q : Req) (s : State), heard 0x0D05 4 layNone q s.chip)
    ∧ (∃ (q : Req) (s : State) (p : _), heard 0x0C01 48 layNone q s.chip ∧ p = s.chip.pair ∧ p.st.isSome)
    ∧ (∃ (q : Req) (s : State), heard 0x0C01 48 layNone q s.chip ∧ s.chip.pair.st = none)
    ∧ (∃ (q : Req) (s : State) (p : _) (n : _), heard 0x0C02 8 layNone q s.chip ∧ p = s.chip.pair ∧ p.st = some .primary ∧ p.partner = 2 ∧ p.heart = true ∧ p.link = true ∧ 1024 ≤ p.matched ∧ p.pathLatched = false ∧ (∀ (o : Fin 8) (ch : Fin 2), (s.chip.outPair ch o).st ≠ .armed ∧ (s.chip.outPair ch o).st ≠ .offSeq) ∧ (s.chip.sys.dev = .commissioning ∨ s.chip.sys.dev = .ready ∨ s.chip.sys.dev = .automatic ∨ s.chip.sys.dev = .degraded) ∧ p.swap = none ∧ n = s.chip.cyc + (if (s.chip.cyc + 2) % Config.tickCycles s.chip.cfg.sys.period = 0 then 3 else 2))
    ∧ (∃ (q : Req) (s : State), heard 0x0C02 8 layNone q s.chip ∧ s.chip.pair.st = some .primary ∧ (s.chip.pair.partner ≠ 2 ∨ s.chip.pair.heart = false ∨ s.chip.pair.link = false ∨ s.chip.pair.matched < 1024 ∨ s.chip.pair.pathLatched = true))
    ∧ (∃ (q : Req) (s : State), heard 0x0C03 4 (lay 8 fun _ => []) q s.chip ∧ s.chip.pair.st = some .wait ∧ s.chip.cfg.pair.isSome ∧ q.payload = fit 8 s.chip.pairCfg.partner ∧ quietSince s.chip + s.chip.pairCfg.tPwait * 1000000 ≤ s.chip.now)
    ∧ (∃ (q : Req) (s : State), heard 0x0C03 4 (lay 8 fun _ => []) q s.chip ∧ s.chip.pair.st.isSome ∧ s.chip.cfg.pair.isSome ∧ q.payload ≠ fit 8 s.chip.pairCfg.partner)
    ∧ (∃ (q : Req) (s : State), heard 0x0C04 4 layNone q s.chip ∧ s.chip.pair.st.isSome)
    ∧ (∃ (q : Req) (s : State), heard 0x0C04 4 layNone q s.chip ∧ s.chip.pair.st = none) :=
  ⟨⟨cmd [], st up, _, by exact ⟨by decide, rfl⟩⟩,
    ⟨cmd [6, 21], st up, _, _, _, by exact ⟨by decide, rfl, rfl, by decide, rfl⟩⟩,
    ⟨cmd [7, 0], st up, by exact ⟨by decide, by decide⟩⟩,
    ⟨cmd [6, 21], st up, _, _, by exact ⟨by decide, rfl, by decide, by decide, by decide, by decide, rfl⟩⟩,
    ⟨cmd [6, 21], st (sterl { suspended := true }), by exact ⟨by decide, by decide, by decide⟩⟩,
    ⟨cmd [6, 21], st (slicing 6 20), by exact ⟨by decide, by decide, by decide, by decide, by decide⟩⟩,
    ⟨cmd [1], st up, by decide⟩,
    ⟨cmd [], st up, by decide⟩,
    ⟨cmd [], st (duo { st := some .primary }), _, by exact ⟨by decide, rfl, by decide⟩⟩,
    ⟨cmd [], st up, by exact ⟨by decide, by decide⟩⟩,
    ⟨cmd [], st (duo { st := some .primary, partner := 2, heart := true, link := true, matched := 1024 }), _, _, by exact ⟨by decide, rfl, by decide, by decide, by decide, by decide, by decide, by decide, by decide, by decide, by decide, rfl⟩⟩,
    ⟨cmd [], st (duo { st := some .primary }), by exact ⟨by decide, by decide, by decide⟩⟩,
    ⟨cmd (zeros 8), st { (duo { st := some .wait }) with now := 2000000000 }, by exact ⟨by decide, by decide, by decide, by decide, by decide⟩⟩,
    ⟨cmd (fit 8 [1]), st (duo { st := some .wait }), by exact ⟨by decide, by decide, by decide, by decide⟩⟩,
    ⟨cmd [], st (duo { st := some .wait }), by exact ⟨by decide, by decide⟩⟩,
    ⟨cmd [], st up, by exact ⟨by decide, by decide⟩⟩⟩

theorem witness_vectors_serve_rings_and_errors :
    (∃ (r : Fin 32) (s : State), (vget s.chip.mb.rings r).irqEn = true ∧ 0 < (vget s.chip.mb.rings r).unsignalled ∧ mbit s.chip.mb.intMask r = false ∧ masked s.chip.mb r = false ∧ s.chip.pow.linkUp = true ∧ s.chip.pow.perstLow = false)
    ∧ (∃ (r : Fin 32) (s : State), (vget s.chip.mb.rings r).enable = true ∧ mbit s.chip.mb.errMask 0 = false ∧ masked s.chip.mb 32 = false ∧ s.chip.pow.linkUp = true ∧ s.chip.pow.perstLow = false)
    ∧ (∃ (s : State), ringsServed s.chip)
    ∧ (∃ (s : State), pageServed s.chip) :=
  ⟨⟨31, st (up.onMb fun m => { m with intMask := 0, rings := Vector.replicate 32 { irqEn := true, unsignalled := 1 } }), by constructorm* _ ∧ _ <;> decide⟩,
    ⟨31, st (up.onMb fun m => { m with errMask := 0 }), by exact ⟨by decide, by decide, by decide, by decide, by decide⟩⟩,
    ⟨st up, by decide⟩,
    ⟨st up, by decide⟩⟩

theorem witness_periods_and_ticks_start_on_their_cycles :
    (∃ (s : State), s.chip.active = true ∧ s.chip.cyc % Config.sepCycles s.chip.cfg.sys.period = 0 ∧ s.chip.sep.start ≠ some (s.chip.t0, s.chip.cyc))
    ∧ (∃ (s : State), s.chip.cyc % Config.sepCycles s.chip.cfg.sys.period ≠ 0)
    ∧ (∃ (s : State), s.chip.active = true ∧ holdsToken s.chip = true ∧ s.chip.cfg.plan.isSome ∧ s.chip.cyc % Config.tickCycles s.chip.cfg.sys.period = 0 ∧ s.chip.planner.tickAt ≠ some s.chip.cyc)
    ∧ (∃ (s : State), s.chip.cyc % Config.tickCycles s.chip.cfg.sys.period ≠ 0) :=
  ⟨⟨st up, by exact ⟨by decide, by decide, by decide⟩⟩,
    ⟨st { up with cyc := 7 }, by decide⟩,
    ⟨st (plan {}), by exact ⟨by decide, by decide, by decide, by decide, by decide⟩⟩,
    ⟨st { up with cyc := 15 }, by decide⟩⟩

theorem witness_step_runs_the_front_command :
    (∃ (s : State), s.pending = []) :=
  ⟨st up, by decide⟩

theorem witness_anchors_only_move_forward :
    (∃ (s : State) (t : _), step s = .next t) :=
  ⟨st up, st up, by rfl⟩

theorem witness_host_checks_come_first :
    (∃ (op : _) (longest : _) (q : Req) (s : State), (q.ring < 8 ∨ q.ring = 30 ∨ q.ring = 31) ∧ serves s.chip q.ring = true ∧ (vget s.chip.mb.rings q.ring).msg = none ∧ (q.ring < 8 → ringRoom s.chip (q.ring + 8) (entriesOf longest) = true) ∧ (ringAccepts s.chip.sys.duhorn q.ring op = false ∨ (pairGroup op ≠ .unitLocal ∧ holdsToken s.chip = false)))
    ∧ (∃ (op : _) (longest : _) (layout : Bytes → Bool) (q : Req) (s : State), (q.ring < 8 ∨ q.ring = 30 ∨ q.ring = 31) ∧ serves s.chip q.ring = true ∧ (vget s.chip.mb.rings q.ring).msg = none ∧ (q.ring < 8 → ringRoom s.chip (q.ring + 8) (entriesOf longest) = true) ∧ ringAccepts s.chip.sys.duhorn q.ring op = true ∧ (pairGroup op = .unitLocal ∨ holdsToken s.chip = true) ∧ layout q.payload = false)
    ∧ (∃ (longest : _) (q : Req) (s : State), q.ring < 8 ∧ serves s.chip q.ring = true ∧ (vget s.chip.mb.rings q.ring).msg = none ∧ ringRoom s.chip (q.ring + 8) (entriesOf longest) = false)
    ∧ (∃ (q : Req) (s : State), (q.ring < 8 ∨ q.ring = 30 ∨ q.ring = 31) ∧ serves s.chip q.ring = false) :=
  ⟨⟨0x0E01, 4, cmd [], st up, by exact ⟨by decide, by decide, by decide, by decide, by decide⟩⟩,
    ⟨0x0101, 4, fun _ => false, cmd [], st up, by constructorm* _ ∧ _ <;> decide⟩,
    ⟨15600, cmd [], st up, by exact ⟨by decide, by decide, by decide, by decide⟩⟩,
    ⟨cmd [], {}, by exact ⟨by decide, by decide⟩⟩⟩

theorem witness_commands_keep_to_their_state :
    (∃ (i : _), metrologyCommand i = true)
    ∧ (∃ (i : Instr), ((∃ e r p k, i = .ssiFrame e r p k) ∨ (∃ e k, i = .sourceFault e k) ∨ (∃ e k, i = .encoderWiringFault e k) ∨ (∃ e, i = .epwrRetry e) ∨ (∃ e a b t, i = .encoderEdge e a b t) ∨ (∃ l, i = .lineHoldoverExpiry l)))
    ∧ (∃ (i : Instr), (i = .ptpHoldoverExpiry ∨ i = .crossCellHoldoverExpiry ∨ (∃ p k r q o w, i = .txTimestamp p k r q o w)))
    ∧ (∃ (i : Instr), ((∃ r v, i = .doorbell r v) ∨ (∃ r v, i = .consWrite r v) ∨ (∃ r v, i = .ringEnable r v) ∨ (∃ o v, i = .w1cClear o v) ∨ (∃ o, i = .readClear o) ∨ (∃ o v w, i = .registerWrite o v w) ∨ (∃ r, i = .interruptCoalesce r) ∨ (∃ r, i = .dmaErr r) ∨ (∃ r, i = .tunnelResend r) ∨ (∃ a p b, i = .tunnelDatagram a p b)))
    ∧ (∃ (i : Instr), ((∃ w, i = .interlockPulse w) ∨ i = .heartbeatLost ∨ i = .pairLinkLost ∨ (∃ l u, i = .pairLaneStateChange l u) ∨ i = .isolationExpiry ∨ i = .partnerWaitExpiry ∨ i = .digestCompare ∨ i = .swapConfirm))
    ∧ (∃ (i : Instr), (i = .sliceDue ∨ i = .sliceSkipped ∨ i = .plannedMigration ∨ i = .laneHoldEnd ∨ (∃ k n, i = .rxMismatch k n))) :=
  ⟨⟨.messageGap, by decide⟩,
    ⟨.epwrRetry 3, by exact .inr (.inr (.inr (.inl ⟨_, rfl⟩)))⟩,
    ⟨.ptpHoldoverExpiry, by exact .inl rfl⟩,
    ⟨.doorbell 31 7, by exact .inl ⟨_, _, rfl⟩⟩,
    ⟨.heartbeatLost, by exact .inr (.inl rfl)⟩,
    ⟨.sliceDue, by exact .inl rfl⟩⟩

/-- The tenth reading above 100 °C: TEMP_OK falls, with the device running, and its latch bit is set. -/
theorem witness_every_command_keeps_these :
    ∃ s t, exec (.temperatureReading 25601 0 0) s = .next t ∧ metrologyCommand (.temperatureReading 25601 0 0) = false
      ∧ t.chip.sys.dev ≠ .off ∧ t.chip.sys.dev ≠ .reset ∧ mbit s.chip.sys.gcond 2 = true ∧ mbit t.chip.sys.gcond 2 = false :=
  ⟨st (up.onSys fun s => { s with hotRun := 9 }), _, rfl, by decide, by decide, by decide, by decide, by decide⟩

end Sys2Proof.Tests
end

section
/-!
SUPPORT. What a planner tick leaves of the planner (08 R228): none of its steps moves the cycle of the tick, the tick count, the list of
cancels, the load or the cores. One lemma per operation that a step is made of, in the order of their definitions.
-/

namespace Sys2Proof.Machine

open Sys2Proof

/-- A fold whose every step keeps what `g` reads keeps it. -/
theorem foldl_keeps {σ α β : Type} (g : σ → β) {f : σ → α → σ} (h : ∀ x a, g (f x a) = g x) (l : List α) (x : σ) :
    g (l.foldl f x) = g x := by
  induction l generalizing x with
  | nil => rfl
  | cons a l ih => exact (ih _).trans (h x a)

/-- What the steps of a tick leave of the planner: cycle of the last tick, tick count, cancels, load and cores. -/
def tickFrame (c : Chip) : Option Nat × Nat × List Nat × Nat × Vector BlockSt 8 :=
  (c.planner.tickAt, c.planner.tick, c.planner.cancels, c.planner.load, c.planner.core)

/-- Where the planner is the same, so is its frame: this covers events, jobs, chains and the pair link. -/
theorem tickFrame_congr {c d : Chip} (h : d.planner = c.planner) : tickFrame d = tickFrame c := by
  simp only [tickFrame, h]

theorem tickFrame_ite {p : Prop} [Decidable p] {c d e : Chip} (hd : tickFrame d = tickFrame c) (he : tickFrame e = tickFrame c) :
    tickFrame (if p then d else e) = tickFrame c := by
  split <;> assumption

section Operations

variable (c : Chip)

/-! ### Picks, segments, reservations and counters -/

@[simp] theorem tickFrame_onPick (id : Nat) (f : Pick → Pick) : tickFrame (onPick c id f) = tickFrame c := rfl
@[simp] theorem tickFrame_dropPick (id : Nat) : tickFrame (dropPick c id) = tickFrame c := rfl
@[simp] theorem tickFrame_onSeg (id : Nat) (f : Seg → Seg) : tickFrame (onSeg c id f) = tickFrame c := rfl
@[simp] theorem tickFrame_onResv (z seg : Nat) (f : Resv → Resv) : tickFrame (onResv c z seg f) = tickFrame c := rfl
@[simp] theorem tickFrame_setLoss (z a : Nat) (l : Loss) : tickFrame (setLoss c z a l) = tickFrame c := rfl
@[simp] theorem tickFrame_countPlan (i k : Nat) : tickFrame (countPlan c i k) = tickFrame c := rfl
@[simp] theorem tickFrame_snapPlan : tickFrame (snapPlan c) = tickFrame c := rfl
@[simp] theorem tickFrame_releaseResv : tickFrame (releaseResv c) = tickFrame c := rfl

/-! ### What lies outside the planner -/

@[simp] theorem tickFrame_post (sub code b2 b3 : Nat) (x : Bytes) : tickFrame (post c sub code b2 b3 x) = tickFrame c := rfl
@[simp] theorem tickFrame_takeFree : tickFrame (takeFree c) = tickFrame c := rfl
@[simp] theorem tickFrame_queueItem (service due : Nat) (x : Bytes) : tickFrame (queueItem c service due x) = tickFrame c := rfl
@[simp] theorem tickFrame_onChain (o : Nat) (f : Chain → Chain) : tickFrame (onChain c o f) = tickFrame c := rfl
@[simp] theorem tickFrame_pushPlanJob (s : Seg) (cap deadline : Nat) (j : Nat × Bytes) :
    tickFrame (pushPlanJob s cap deadline c j) = tickFrame c := rfl

theorem jobLeaves_keeps_planner (j : Job) : (jobLeaves c j).planner = c.planner := by
  unfold jobLeaves; split <;> rfl

@[simp] theorem tickFrame_squashJob (j : Job) : tickFrame (squashJob c j) = tickFrame c := by
  have h : tickFrame (jobLeaves c j) = tickFrame c := tickFrame_congr (jobLeaves_keeps_planner c j)
  simp only [squashJob, finishJob]
  split <;> exact h

/-! ### The level and the end of a pick -/

@[simp] theorem tickFrame_setLevel (n : Nat) : tickFrame (setLevel c n) = tickFrame c := by
  unfold setLevel; split <;> rfl

@[simp] theorem tickFrame_missPick (k : Pick) (why : Nat) : tickFrame (missPick c k why) = tickFrame c := by simp [missPick]
@[simp] theorem tickFrame_cancelPick (k : Pick) : tickFrame (cancelPick c k) = tickFrame c := by simp [cancelPick]

/-! ### Squash (08 R243-R245, R258) -/

@[simp] theorem tickFrame_settlePick (id : Nat) : tickFrame (settlePick c id) = tickFrame c := by
  unfold settlePick
  split
  · rfl
  · exact tickFrame_ite (tickFrame_onPick ..) (tickFrame_ite (tickFrame_cancelPick ..) (tickFrame_onPick ..))

@[simp] theorem tickFrame_squash (root cause : Nat) : tickFrame (squash c root cause) = tickFrame c := by
  unfold squash
  split
  · rfl
  · refine tickFrame_ite rfl ?_
    dsimp only
    rw [foldl_keeps tickFrame tickFrame_settlePick]
    refine tickFrame_ite ?_ ?_ <;> simp only [tickFrame_countPlan] <;> rw [foldl_keeps tickFrame tickFrame_squashJob] <;> rfl

@[simp] theorem tickFrame_postSquashes : tickFrame (postSquashes c) = tickFrame c :=
  foldl_keeps tickFrame (fun c _ => tickFrame_post c ..) _ c

/-! ### Steps 1 to 5: cancels, missed picks, judging, arbitration, commit -/

@[simp] theorem tickFrame_applyCancel (id : Nat) : tickFrame (applyCancel c id) = tickFrame c := by
  unfold applyCancel
  split
  · rfl
  · have h (l : List Seg) (c : Chip) : tickFrame (l.foldl (fun c s => squash c s.id 1) c) = tickFrame c :=
      foldl_keeps tickFrame (fun c s => tickFrame_squash c s.id 1) l c
    dsimp only
    split
    · exact tickFrame_ite (by simp [h]) (by simp [h])
    · simp [h]

@[simp] theorem tickFrame_checkMissed (id : Nat) : tickFrame (checkMissed c id) = tickFrame c := by
  unfold checkMissed
  split
  · rfl
  · exact tickFrame_ite rfl (tickFrame_ite (by simp) (by simp))

@[simp] theorem tickFrame_judgeSeg (id : Nat) : tickFrame (judgeSeg c id) = tickFrame c := by
  unfold judgeSeg
  split
  · rfl
  · refine tickFrame_ite rfl ?_
    dsimp only
    split <;> simp

@[simp] theorem tickFrame_replan : tickFrame (replan c) = tickFrame c :=
  tickFrame_ite rfl (foldl_keeps tickFrame (fun _ _ => tickFrame_ite (tickFrame_squash ..) rfl) _ c)

theorem tickFrame_treat (z : ZoneCfg) (acc : Chip × List Nat) (r : Resv) : tickFrame (treat z acc r).1 = tickFrame acc.1 := by
  unfold treat
  dsimp only
  split
  · rfl
  split
  · rfl
  split
  · rfl
  split
  · exact (tickFrame_onResv ..).trans (foldl_keeps tickFrame (fun c (x : Resv) => tickFrame_squash c x.seg 5) _ acc.1)
  · exact tickFrame_squash ..

@[simp] theorem tickFrame_settleLoss (z : ZoneCfg) (lost : List Nat) (a : Nat) : tickFrame (settleLoss z lost c a) = tickFrame c :=
  tickFrame_ite (tickFrame_setLoss ..) (tickFrame_ite (tickFrame_ite rfl rfl) rfl)

@[simp] theorem tickFrame_arbitrate (z : ZoneCfg) : tickFrame (arbitrate c z) = tickFrame c := by
  refine (foldl_keeps tickFrame (fun c a => tickFrame_settleLoss c z _ a) _ _).trans ?_
  refine (foldl_keeps (fun acc : Chip × List Nat => tickFrame acc.1) (tickFrame_treat z) _ _).trans ?_
  exact foldl_keeps tickFrame (fun _ _ => tickFrame_ite (tickFrame_setLoss ..) rfl) _ c

@[simp] theorem tickFrame_enterSegs (cyc : Nat) : tickFrame (enterSegs c cyc) = tickFrame c := by
  refine (foldl_keeps tickFrame (fun c e => ?_) _ _).trans rfl
  split
  · exact tickFrame_ite (tickFrame_onChain ..) rfl
  · rfl

@[simp] theorem tickFrame_commitSeg (id : Nat) : tickFrame (commitSeg c id) = tickFrame c := by
  unfold commitSeg
  split
  · rfl
  · refine tickFrame_ite rfl (tickFrame_ite (tickFrame_squash ..) (tickFrame_ite (tickFrame_squash ..) (tickFrame_ite rfl ?_)))
    exact (tickFrame_onPick ..).trans (tickFrame_ite rfl (tickFrame_enterSegs ..))

/-! ### Step 6: proposals and recovery (08 R234, R238, R246) -/

theorem tickFrame_propose {a tag : Nat} {item : Option Nat} {recovery final : Bool} {r : List Int} {d : Chip} {refused : Bool}
    (h : propose c a tag item recovery final r = some (d, refused)) : tickFrame d = tickFrame c := by
  unfold propose at h
  dsimp only at h
  split at h
  · cases h
  split at h
  · cases h
  split at h
  · cases h
  split at h
  · cases h
  split at h
  · cases h
  have jobs (s : Seg) (cap deadline : Nat) (l : List (Nat × Bytes)) (c : Chip) :
      tickFrame (l.foldl (pushPlanJob s cap deadline) c) = tickFrame c :=
    foldl_keeps tickFrame (fun c j => tickFrame_pushPlanJob c s cap deadline j) l c
  obtain ⟨_, h⟩ | ⟨_, h⟩ := ite_eq_iff.mp h
  · cases h; rfl
  · cases h
    exact tickFrame_ite ((tickFrame_squash ..).trans (jobs ..)) (jobs ..)

theorem tickFrame_extend (n id : Nat) : tickFrame (extend n id c) = tickFrame c := by
  induction n generalizing c with
  | zero => rfl
  | succ n ih =>
    unfold extend
    split
    · rfl
    split
    · split
      · rfl
      next h => exact (tickFrame_propose c h :)
      next h => exact (ih _).trans (tickFrame_propose c h :)
    · rfl

@[simp] theorem tickFrame_planPickStep (id : Nat) : tickFrame (planPickStep c id) = tickFrame c := by
  unfold planPickStep
  split
  · rfl
  · refine tickFrame_ite rfl ?_
    extract_lets plan c'
    have planned : tickFrame c' = tickFrame c := by
      refine tickFrame_ite ?_ (tickFrame_ite ?_ rfl) <;> split <;> rfl
    split
    · exact planned
    · dsimp only
      split
      · exact (tickFrame_ite (tickFrame_onPick ..) rfl).trans ((tickFrame_extend ..).trans planned)
      · exact (tickFrame_extend ..).trans planned

@[simp] theorem tickFrame_recover (order : List Nat) (a : Nat) : tickFrame (recover c order a) = tickFrame c := by
  unfold recover
  split
  · refine tickFrame_ite rfl ?_
    extract_lets next c'
    have picked : tickFrame c' = tickFrame c := by
      simp only [c', next]
      split <;> simp
    refine tickFrame_ite picked ?_
    split
    next h => exact (tickFrame_propose _ h).trans ((tickFrame_takeFree _).trans picked)
    · exact picked
  · rfl

/-! ### The whole tick -/

/-- A tick takes its cancels and counts itself; the rest of the frame stands. -/
theorem tickFrame_tickSteps :
    tickFrame (tickSteps c) = (c.planner.tickAt, c.planner.tick + 1, [], c.planner.load, c.planner.core) := by
  unfold tickSteps
  extract_lets cancelled released missed judged arbitrated committed order planned posted
  have cancelled_eq : tickFrame cancelled = tickFrame c := foldl_keeps tickFrame tickFrame_applyCancel ..
  have released_eq : tickFrame released = (c.planner.tickAt, c.planner.tick, [], c.planner.load, c.planner.core) :=
    congrArg (fun q => (q.1, q.2.1, [], q.2.2.2)) cancelled_eq
  have judged_eq : tickFrame judged = tickFrame released :=
    (tickFrame_replan _).trans ((foldl_keeps tickFrame tickFrame_judgeSeg ..).trans (foldl_keeps tickFrame tickFrame_checkMissed ..))
  have committed_eq : tickFrame committed = tickFrame judged :=
    (foldl_keeps tickFrame tickFrame_commitSeg ..).trans (foldl_keeps tickFrame tickFrame_arbitrate ..)
  have planned_eq : tickFrame planned = tickFrame committed :=
    tickFrame_ite ((foldl_keeps tickFrame tickFrame_planPickStep ..).trans
      (foldl_keeps tickFrame (fun c a => tickFrame_recover c _ a) ..)) rfl
  have posted_eq : tickFrame posted = (c.planner.tickAt, c.planner.tick, [], c.planner.load, c.planner.core) :=
    calc tickFrame posted = tickFrame planned := tickFrame_postSquashes planned
      _ = _ := planned_eq.trans (committed_eq.trans (judged_eq.trans released_eq))
  clear_value posted
  exact congrArg (fun q => (q.1, q.2.1 + 1, q.2.2)) posted_eq

/-- A tick that is due records its cycle, whether it runs or is skipped as late (08 R228, R229). -/
theorem tickOp_tickAt (ha : c.active = true) (ht : holdsToken c = true) (hp : c.cfg.plan.isSome)
    (hn : c.cyc % Config.tickCycles c.cfg.sys.period = 0) (hs : c.planner.tickAt ≠ some c.cyc) :
    (tickOp c).planner.tickAt = some c.cyc := by
  unfold tickOp
  extract_lets due marked seen p0 ticked
  have marked_eq : (tickFrame marked).1 = some c.cyc := rfl
  have seen_eq : (tickFrame seen).1 = some c.cyc := (congrArg Prod.fst (tickFrame_ite rfl (tickFrame_snapPlan marked))).trans marked_eq
  have isDue : (!due) = false := by simp [due, ha, ht, hp, hn, hs]
  rw [isDue, if_neg Bool.false_ne_true]
  split
  · exact seen_eq
  · have ticked_eq : ticked.planner.tickAt = some c.cyc := (congrArg Prod.fst (tickFrame_tickSteps seen)).trans seen_eq
    split <;> exact ticked_eq

theorem tickOp_off_cycle (hn : c.cyc % Config.tickCycles c.cfg.sys.period ≠ 0) : tickOp c = c := by
  simp [tickOp, hn]

end Operations

end Sys2Proof.Machine
end

section
/-!
SUPPORT. Where a separation period begins (10 R296): the judging of the sensors and the channels' own checks leave the period's start.
-/

namespace Sys2Proof.Machine

open Sys2Proof

variable (c : Chip)

/-- What the sensors' judging and the channels' failures leave: the cycle, the period's start and count, the astray PDU and the arms. -/
def periodFrame (c : Chip) : Nat × Nat × Option (Nat × Nat) × Nat × Option (Nat × Nat) × Vector SepArm 12 :=
  (c.t0, c.cyc, c.sep.start, c.sep.periods, c.sep.astray, c.sep.arm)

@[simp] theorem periodFrame_onSensor (p : Nat) (f : Sensor → Sensor) : periodFrame (onSensor c p f) = periodFrame c := rfl

@[simp] theorem periodFrame_judgeSensor (p t : Nat) : periodFrame (judgeSensor c p t) = periodFrame c := by
  unfold judgeSensor
  split
  · rfl
  · dsimp only
    split <;> rfl

@[simp] theorem periodFrame_raiseFault (code : Nat) (h : Bool) (o x : Nat) : periodFrame (raiseFault c code h o x) = periodFrame c := by
  simp [periodFrame]

@[simp] theorem periodFrame_copperFails : periodFrame (copperFails c) = periodFrame c := by
  unfold copperFails
  split
  · rfl
  · exact periodFrame_raiseFault ..

@[simp] theorem periodFrame_ironFails : periodFrame (ironFails c) = periodFrame c := by
  unfold ironFails
  split
  · rfl
  · exact periodFrame_raiseFault ..

/-- A period that begins records the cycle it begins at and counts itself (10 R296). -/
theorem periodOp_starts (copperOk ironOk : Bool) (astray : Option (Nat × Nat)) (ha : c.active = true)
    (hn : c.cyc % Config.sepCycles c.cfg.sys.period = 0) (hs : c.sep.start ≠ some (c.t0, c.cyc)) :
    periodFrame (periodOp copperOk ironOk astray c) = (c.t0, c.cyc, some (c.t0, c.cyc), inc c.sep.periods, astray,
      vmapIdx c.sep.arm (fun _ x => { x with hostCap := x.hostNext })) := by
  unfold periodOp
  rw [if_neg (by simp [ha, hn, hs])]
  extract_lets t judged begun copper
  have judged_eq : periodFrame judged = periodFrame c :=
    foldl_keeps periodFrame (fun c p => (periodFrame_onSensor ..).trans (periodFrame_judgeSensor c p t)) ..
  clear_value judged
  have begun_eq : periodFrame begun = (c.t0, c.cyc, some (c.t0, c.cyc), inc c.sep.periods, astray,
      vmapIdx c.sep.arm (fun _ x => { x with hostCap := x.hostNext })) :=
    congrArg (fun (t0, cyc, _, periods, _, arm) => (t0, cyc, some (t0, cyc), inc periods, astray,
      vmapIdx arm (fun _ x => { x with hostCap := x.hostNext }))) judged_eq
  clear_value begun
  have copper_eq : periodFrame copper = periodFrame begun := by
    simp only [copper]
    split
    · split <;> rfl
    · exact periodFrame_copperFails _
  rw [← begun_eq, ← copper_eq]
  clear_value copper
  split
  · split <;> rfl
  · exact periodFrame_ironFails _

theorem periodOp_off_cycle (copperOk ironOk : Bool) (astray : Option (Nat × Nat))
    (hn : c.cyc % Config.sepCycles c.cfg.sys.period ≠ 0) : periodOp copperOk ironOk astray c = c := by
  simp [periodOp, hn]

end Sys2Proof.Machine
end

section
/-!
SETTLED. The obligations of the architecture (01).
-/

namespace Sys2Proof.Machine

open Sys2Proof

/-- Every cycle period T divides the 500 µs of a separation period and the 1 ms of a planner tick (01 R18). -/
theorem cycles_fill_period_and_tick (k : Fin 4) :
    Config.sepCycles k * Config.periodNs k = 500000 ∧ Config.tickCycles k * Config.periodNs k = 1000000 := by
  revert k; decide

/-- Settles O54: a period or tick that is due records its cycle, since no operation it is made of moves that record; off its cycles
the command changes nothing. -/
theorem periodsAndTicksStartOnTheirCycles : Obligations.PeriodsAndTicksStartOnTheirCycles := by
  refine ⟨⟨by decide, by decide, cycles_fill_period_and_tick⟩, ?_, ?_, ?_, ?_⟩
  case refine_1 =>
    intro s a b w ha hn hs
    refine run_runs rfl ?_
    have frame := periodOp_starts s.chip a b (w.map fun x => (x.1.val, x.2.val)) ha hn hs
    simp only [periodFrame, Prod.mk.injEq] at frame
    obtain ⟨_, _, start, periods, _⟩ := frame
    simp only [settle_sep]
    exact ⟨start, periods⟩
  case refine_2 =>
    intro s a b w hn
    exact run_completes rfl (periodOp_off_cycle s.chip a b _ hn) rfl rfl
  case refine_3 =>
    intro s ha ht hp hn hs
    refine run_runs rfl ?_
    simp only [settle_planner]
    exact tickOp_tickAt s.chip ha ht hp hn hs
  case refine_4 =>
    intro s hn
    exact run_completes rfl (tickOp_off_cycle s.chip hn) rfl rfl

end Sys2Proof.Machine
end

section
/-!
SUPPORT. The vectors of MSI-X and the words of its table (15 R430): which vector leaves the endpoint, what raising one leaves of the
mailbox, and what a word of the page reads after a write to the table.
-/

namespace Sys2Proof.Machine

open Sys2Proof

/-! ### Vectors -/

section Vectors

variable (c : Chip)

/-- An unmasked vector leaves the endpoint while the link is up and PERST_N is high (15 R430, 18 R497, R499). -/
theorem vector_irqOut_of_unmasked (n : Nat) (hm : masked c.mb n = false) (hl : c.pow.linkUp = true) (hp : c.pow.perstLow = false) :
    (vector c n).mb.irqOut = n :: c.mb.irqOut := by
  simp [vector, hl, hp, hm]

@[simp] theorem vector_keeps_mb_errStatus (n : Nat) : (vector c n).mb.errStatus = c.mb.errStatus := by rw [vector_eq]; rfl
@[simp] theorem vector_keeps_mb_msix (n : Nat) : (vector c n).mb.msix = c.mb.msix := by rw [vector_eq]; rfl

/-- Vector r serves ring r: its interrupt, enabled and unmasked, sends that vector (15 R430, R431). -/
theorem ringInt_irqOut (r : Nat) (he : (vget c.mb.rings r).irqEn = true) (hi : mbit c.mb.intMask r = false)
    (hm : masked c.mb r = false) (hl : c.pow.linkUp = true) (hp : c.pow.perstLow = false) :
    (ringInt c r).mb.irqOut = r :: c.mb.irqOut := by
  rw [ringInt, if_pos he]
  exact (congrArg (fun d : Chip => d.mb.irqOut) (if_neg (Bool.eq_false_iff.mp hi))).trans (vector_irqOut_of_unmasked _ r hm hl hp)

/-- Vector 32 serves ERR_STATUS: a cause that is set, unmasked, sends it (15 R430, R431). -/
theorem errSet_irqOut (bit : Nat) (he : mbit c.mb.errMask bit = false) (hm : masked c.mb 32 = false)
    (hl : c.pow.linkUp = true) (hp : c.pow.perstLow = false) : (errSet c bit).mb.irqOut = 32 :: c.mb.irqOut :=
  (congrArg (fun d : Chip => d.mb.irqOut) (if_neg (Bool.eq_false_iff.mp he))).trans (vector_irqOut_of_unmasked _ 32 hm hl hp)

theorem errSet_errStatus (bit : Nat) : (errSet c bit).mb.errStatus = mput c.mb.errStatus bit true := by
  unfold errSet
  dsimp only
  split
  · rfl
  · exact vector_keeps_mb_errStatus ..

/-- A change of a ring leaves the mailbox as it was but for the rings and what is written back (15 R431). -/
theorem moveRing_mb (r : Nat) (f : Ring → Ring) :
    (moveRing c r f).mb = { c.mb with rings := vmod c.mb.rings r f, wb := (moveRing c r f).mb.wb } := by
  simp only [moveRing, writeBack]
  split <;> rfl

end Vectors

/-! ### The end of a command that leaves the device and pair states alone -/

section Settling

variable {c d : Chip}

/-- No condition has fallen between two states that report the same ones (01 R23). -/
theorem fallen_self (a : Sys) : fallen a a = 0 := by
  have low : (a.gcond ^^^ 0x3F) &&& 0x1F = (a.gcond &&& 0x1F) ^^^ 0x1F := Nat.and_xor_distrib_right
  refine Nat.eq_of_testBit_eq fun i => ?_
  rw [fallen, Nat.and_assoc, low]
  by_cases h : Nat.testBit 0x1F i <;> cases a.gcond.testBit i <;> simp_all

@[simp] theorem settleHalts_none : settleHalts 0 c = c := by
  simp [settleHalts, mbit]

theorem settleState_same (hd : d.sys.dev = c.sys.dev) (hp : d.pair = c.pair) : settleState c d = d := by
  simp [settleState, hd, hp]

/-- The report of a changed condition waits for DELIVER_ENTRY: it moves neither the device and pair states nor the vectors sent. -/
theorem settleReport_frame :
    ((settleReport c d).sys.dev, (settleReport c d).pair, (settleReport c d).mb.irqOut) = (d.sys.dev, d.pair, d.mb.irqOut) := by
  unfold settleReport
  split <;> rfl

/-- A command that leaves the device and pair states alone sends no vector at its end: STATE_CHANGE is not raised (15 R431). -/
theorem settle_irqOut (hs : d.sys = c.sys) (hp : d.pair = c.pair) : (settle c d).mb.irqOut = d.mb.irqOut := by
  simp only [settle, hs, fallen_self, settleHalts_none]
  split
  · rfl
  · have report := settleReport_frame (c := c) (d := settleLatch c (d.atTime c.now))
    simp only [Prod.mk.injEq] at report
    obtain ⟨dev, pair, irqOut⟩ := report
    rw [settleState_same (dev.trans (show d.sys.dev = c.sys.dev by rw [hs])) (pair.trans hp)]
    exact irqOut

end Settling

/-! ### The words of the table and of the pending-bit array -/

section Page

variable (c : Chip)

/-- A write to a word of the table stores it, whether or not a waiting vector leaves. -/
@[simp] theorem msixWrite_msix (w v : Nat) : (msixWrite c w v).mb.msix = vset c.mb.msix w v := by
  unfold msixWrite
  dsimp only
  split
  · exact vector_keeps_mb_msix _ _
  · rfl

@[simp] theorem msixWrite_keeps_pow (w v : Nat) : (msixWrite c w v).pow = c.pow := by
  unfold msixWrite
  dsimp only
  split
  · exact vector_keeps_pow _ _
  · rfl

/-- Whether the page is served depends on the supplies, the link and PERST_N alone (18 R488, R497, R499). -/
theorem pageServed_congr {c d : Chip} (h : d.pow = c.pow) : pageServed d = pageServed c := by
  simp only [pageServed, controlUp, h]

/-- The page outside the global block is served while the page is and the control die is out of reset (18 R501). -/
theorem ringsServed_iff : ringsServed c = true ↔ pageServed c = true ∧ c.sys.dev ≠ .reset ∧ c.sys.dev ≠ .off := by
  simp [ringsServed, and_assoc]

/-- The ring blocks end below 0x1800 (15 R431). -/
theorem ringOf_none {off : Nat} (h : 0x1800 ≤ off) : ringOf off = none := by
  simp [ringOf, Nat.not_lt.mpr h]

/-- Word k of the table lies at 0x8000 + 4 k for a write (15 R430). -/
theorem writeOp_table (k : Fin 132) (v : Nat) (h : ringsServed c) : writeOp (0x8000 + 4 * k.val) v 4 c = msixWrite c k v := by
  have hk := k.isLt
  have word : (0x8000 + 4 * k.val - 0x8000) / 4 = k.val := by omega
  obtain ⟨served, notReset, notOff⟩ := (ringsServed_iff c).mp h
  unfold writeOp
  rw [if_neg (by simp [served]), if_neg (by simp; omega), if_neg (by simp [notReset, notOff]), if_neg (by simp),
    ringOf_none (by omega)]
  dsimp only
  split
  case h_8 => rw [if_pos (by simp; omega), word]
  all_goals omega

/-- Word k of the table lies at 0x8000 + 4 k for a read (15 R430). -/
theorem readPage_table (k : Fin 132) : readPage c (0x8000 + 4 * k.val) = vget c.mb.msix k := by
  have hk := k.isLt
  have word : (0x8000 + 4 * k.val - 0x8000) / 4 = k.val := by omega
  unfold readPage
  rw [ringOf_none (by omega)]
  dsimp only
  split
  case h_13 => rw [if_pos (by simp; omega), word]
  all_goals omega

theorem readPage_pending_low : readPage c 0x9000 = c.mb.pba % 4294967296 := rfl

theorem readPage_pending_high : readPage c 0x9004 = c.mb.pba / 4294967296 := rfl

/-- A read of a served page returns the containing word (15 R431). -/
theorem readOp_rdata (off : Nat) (h : pageServed c) : (readOp off c).mb.rdata = readPage c (off - off % 4) := by
  rw [readOp, if_neg (by simp [h])]
  dsimp only
  split <;> rfl

end Page

end Sys2Proof.Machine
end

section
/-!
SETTLED. The obligations of the host attachment (15).
-/

namespace Sys2Proof.Machine

open Sys2Proof

/-- A read of a served page runs, and what it returns is the word as it stood. -/
theorem readClear_rdata (off : Nat) (s : State) (h : pageServed s.chip) (ha : off % 4 = 0) :
    Runs (.readClear off) s fun e => e.mb.rdata = readPage s.chip off := by
  refine run_runs rfl ?_
  simp only [settle_mb_rdata]
  rw [readOp_rdata s.chip off h, ha, Nat.sub_zero]

/-- A write to word k of the table stores it and leaves what decides whether the page is served. -/
theorem registerWrite_table (k : Fin 132) (v : Nat) (s : State) (h : ringsServed s.chip) :
    Runs (.registerWrite (0x8000 + 4 * k.val) v 4) s fun e =>
      e.pow = s.chip.pow ∧ e.mb.msix = vset s.chip.mb.msix k v := by
  refine run_runs rfl ?_
  rw [writeOp_table s.chip k v h]
  simp

/-- Settles O53: the interrupt of a ring and a set cause each send their vector, and the end of the command sends none; a word written
to the table is what the next read of its offset returns, and the pending-bit array reads as its two words. -/
theorem vectorsServeRingsAndErrors : Obligations.VectorsServeRingsAndErrors := by
  refine ⟨?ringInterrupt, ?errorCause, ?tableWord, ?pendingLow, ?pendingHigh⟩
  case ringInterrupt =>
    intro r s he hu hi hm hl hp
    refine run_runs rfl ?_
    dsimp only
    rw [if_pos hu, settle_irqOut (ringInt_keeps_sys ..) (ringInt_keeps_pair ..)]
    exact ringInt_irqOut s.chip r he hi hm hl hp
  case errorCause =>
    intro r s hr he hm hl hp
    refine run_runs rfl ?_
    dsimp only
    rw [if_pos hr]
    have ring := moveRing_mb s.chip r fun g => { g with dmaFault := true, stopped := true }
    constructor
    · rw [settle_irqOut (by simp) (by simp), errSet_irqOut _ 0 (by rw [ring]; exact he) (by rw [ring]; exact hm) (by simpa using hl)
        (by simpa using hp), ring]
    · refine (settle_settled s.chip _).err 0 ?_
      rw [errSet_errStatus]
      exact mbit_mput_true _ 0
  case tableWord =>
    intro k v s h
    obtain ⟨t, ht, _, pow, msix⟩ := registerWrite_table k v s h
    have served : pageServed t.chip := by
      obtain ⟨page, _⟩ := (ringsServed_iff s.chip).mp h
      rw [pageServed_congr pow, page]
    obtain ⟨u, hu, _, rdata⟩ := readClear_rdata (0x8000 + 4 * k.val) t served (by omega)
    exact ⟨t, u, ht, hu, by rw [rdata, readPage_table, msix, vget_vset_same _ _ _ k.isLt]⟩
  case pendingLow =>
    intro s h
    rw [← readPage_pending_low]
    exact readClear_rdata 0x9000 s h rfl
  case pendingHigh =>
    intro s h
    rw [← readPage_pending_high]
    exact readClear_rdata 0x9004 s h rfl

end Sys2Proof.Machine
end
